-- ==== Sys2Proof/Word.lean ====
section
/-! DEFINITION. The 36-bit word of the lane and its narrow companions (R8, R9, R46). -/

namespace Sys2Proof

/-- One 36-bit word: a register, a memory word, a fabric datum (R9, R40). -/
abbrev Word := BitVec 36

/-- A 72-bit quantity: LTIME, NTIME, CYCLE, a register pair, an exact product (R27, R46). -/
abbrev DWord := BitVec 72

/-- A 24-bit word address (R9). -/
abbrev Addr := BitVec 24

end Sys2Proof
end

