-- ==== Sys2Proof/Fabric.lean ====
section
/-! DEFINITION. The originator of a fabric transaction as its request header names it (R66, R67), and what the physical
world brings to a memory: upset words and failing march reads (R459, R462, R474). -/

namespace Sys2Proof

/-- Source unit (R67: 0 to 3 cores, 4 and 5 FCE, 6 SDP, 7 NCE, 8 DMA, 9 XLA; 10 the service-port loader, which uses no
tags, R533), safety class (R66), and whether a core issues in secure mode (R61). -/
structure Req where
  src : Nat
  cls : Nat
  sec : Bool
deriving DecidableEq, Repr

/-- The header of a fabric transaction (R66). -/
structure Request where
  tag : BitVec 7
  src : BitVec 5
  cls : BitVec 2
  op : BitVec 4
  addr : BitVec 24
deriving DecidableEq, Repr

/-- Header word 0: TAG, SRC, CLASS, OP and 18 zero bits. -/
def Request.word0 (q : Request) : Word := (q.tag ++ q.src ++ q.cls ++ q.op ++ (0 : BitVec 18)).setWidth 36

/-- Header word 1: 12 zero bits and ADDR. -/
def Request.word1 (q : Request) : Word := ((0 : BitVec 12) ++ q.addr).setWidth 36

/-- A response: the tag and the source of its request, the response code and, for a read, the data (R66). -/
structure Response where
  tag : BitVec 7
  src : BitVec 5
  code : BitVec 4
  data : Word
deriving DecidableEq, Repr

/-- The error response to a posted store while it is on its way (R76, R336): the tag of the store, its address and the code. -/
structure StoreError where
  tag : BitVec 7
  addr : Nat
  code : Nat
deriving DecidableEq, Repr

/-- How a memory word differs from its written code word: one bit of it (data bits 0 to 35, check bits from 36), two bits
with the lower one named, or more than any code corrects (R459, R462, R480). -/
inductive Upset
  | oneBit (bit : Nat)
  | twoBits (lower : Nat)
  | uncorrectable
deriving DecidableEq, Repr

/-- How the physical fabric answers an access: in time, in time with the addressed word found upset in a given way, or not
within 50 µs, so that the access is not performed (R70 TIMEOUT, R459, R462). -/
inductive Arrive
  | ok
  | upset (u : Upset)
  | timeout
deriving DecidableEq, Repr

/-- One failing read of a march: word address, differing bits of the 44, element and background (R474). -/
structure FailRead where
  addr : Nat
  diff : BitVec 44
  elem : Nat
  bg : Nat
deriving DecidableEq, Repr

/-- Result of the comparator injection of one pair: groups that passed, the clean pass, the checker test (R209, R210). -/
structure PairInj where
  groups : BitVec 64
  clean : Bool
  chk : Bool
deriving DecidableEq, Repr

/-- Did the pair pass: every group, the clean pass and the checkers? -/
def PairInj.passed (j : PairInj) : Bool := decide (j.groups = BitVec.allOnes 64) && j.clean && j.chk

/-- How the halyard test of start-up step 5 ended (R512). -/
inductive HalTest
  | passed
  | failed
  | deferred
deriving DecidableEq, Repr

/-- What a start-up meets in the physical lane (R390, R506 to R514): whether the fuses read and which life-cycle fuses
disagree, failing march reads and those of the repeat, failed LBIST partitions, the injection results of P0 and P1, the
barrier, link-loss and halyard tests, and the straps as read with the mask of those that are open. -/
structure StartUpRun where
  fusesRead : Bool
  lifeBad : BitVec 5
  reads : List FailRead
  again : List FailRead
  partF : BitVec 10
  inj0 : PairInj
  inj1 : PairInj
  barrier : Bool
  llPath : Bool
  hal : HalTest
  tries : Fin 5
  strap : BitVec 6
  strapOpen : BitVec 6
deriving DecidableEq, Repr

/-- A frame on a Rosmel link (R400 to R403): header, transit field, payload words, FCS, and whether it ended before its FCS was
complete or with RX_ER (R416). -/
structure RFrame where
  hdr : BitVec 72
  transit : BitVec 32
  payload : List Word
  fcs : BitVec 32
  cut : Bool
deriving DecidableEq, Repr

/-- A transaction on the service port (R531): its address octet, its payload words, its CRC octet, whether chip select rose before
its last octet, and whether a queue to or from SCLK ran over or under in it (R37). -/
structure SvpFrame where
  addr : BitVec 8
  payload : List Word
  crc : BitVec 8
  cut : Bool
  lost : Bool
deriving DecidableEq, Repr

end Sys2Proof
end

