-- ==== Sys2Proof/MoagarSyntax.lean ====
section
/-! DEFINITION. The instructions of a Moagar-36 core as the decoder reads them from a word (R91 to R94). A field whose
undefined values trap ILL (R93) keeps its full width here. -/

namespace Sys2Proof.Moagar

/-- A general register number g0 to g31 (R56). -/
abbrev GReg := Fin 32

/-- The functions of OP 00h (R98). -/
inductive ROp
  | add | adds | sub | subs | cmp | neg | negs | abs | abss
  | and | or | xor | andn | clz
  | shl | shr | sar | sarr | shls | rot
  | min | max | minu | maxu | clamp | mid3 | mean2 | maj3
deriving DecidableEq, Repr

/-- The I-format arithmetic and logic instructions, OP 08h to 0Dh (R99). -/
inductive IOp
  | addi | addis | andi | ori | xori | cmpi
deriving DecidableEq, Repr

/-- The multiplies of OP 01h, FN 00h to 06h (R100). -/
inductive MulOp
  | mul | muls | mulw | mulwu | mulq | mulqw | madq
deriving DecidableEq, Repr

/-- The divisions of OP 01h, FN 08h to 0Ah (R100). -/
inductive DivOp
  | div | divu | divq
deriving DecidableEq, Repr

/-- The conversions of OP 01h, FN 10h and 11h (R100). -/
inductive CvtOp
  | cvtqi | cvtiq
deriving DecidableEq, Repr

/-- The atomics of OP 04h (R105). -/
inductive AtomOp
  | swap | aadd | cas
deriving DecidableEq, Repr

/-- One Moagar-36 instruction (R98 to R107). -/
inductive MInstr
  | rrr (op : ROp) (rd ra rb rc : GReg)
  | rri (op : IOp) (rd ra : GReg) (imm : BitVec 20)
  | shi (rd ra : GReg) (kind : BitVec 3) (n : BitVec 6)
  | li (rd : GReg) (imm : BitVec 25)
  | lhi (rd : GReg) (imm : BitVec 18)
  | mul (op : MulOp) (rd ra rb rc : GReg)
  | div (op : DivOp) (rd rc ra rb : GReg)
  | cvt (op : CvtOp) (rd ra : GReg)
  | ox (rd ra : GReg) (j : BitVec 4) (sz : BitVec 2) (sx : Bool)
  | oi (rd rb : GReg) (j : BitVec 4) (sz : BitVec 2)
  | ld (rd ra : GReg) (imm : BitVec 20)
  | st (rs ra : GReg) (imm : BitVec 20)
  | ldp (rd ra : GReg) (imm : BitVec 20)
  | stp (rs ra : GReg) (imm : BitVec 20)
  | atom (op : AtomOp) (rd ra rb rc : GReg)
  | bcond (cond : BitVec 4) (off : BitVec 24)
  | call (off : BitVec 24)
  | jr (ra : GReg) (imm : BitVec 20)
  | callr (ra : GReg) (imm : BitVec 20)
  | nop
  | fence
  | mfc (rd : GReg) (k : BitVec 6)
  | mtc (k : BitVec 6) (ra : GReg)
  | trap (imm : BitVec 8)
  | brk
  | tret
  | iret
  | wfi
  | waitf (rd : GReg)
  | xsub (rd : GReg)
  | split (rd : GReg)
  | join (rd ra : GReg)
  | hoist (n : BitVec 8)
  | dip (n : BitVec 8)
  | senter (k : BitVec 6)
  | sexit
  | sexitz
  | undef
deriving DecidableEq, Repr

end Sys2Proof.Moagar
end

