-- ==== Sys2Proof/SdpSyntax.lean ====
section
/-! DEFINITION. The instructions of the signal datapath as their words spell them (R333, R338 to R343). -/

namespace Sys2Proof.Sdp

/-- A parallel move that is enabled: store or load of d, through index register i, unmodified or post-modified (R333). -/
structure SMove where
  store : Bool
  d : Fin 8
  i : Fin 8
  keep : Bool
deriving DecidableEq, Repr

/-! Instructions -/

/-- Control instructions without a target, and jumps (R339). -/
inductive COp
  | nop | halt | wait | rti | sync | xbank
deriving DecidableEq, Repr

inductive JOp
  | jmp | jz | jnz | jn | jnn | sig
deriving DecidableEq, Repr

/-- MAC operations (R340). -/
inductive MOp
  | mpy | mac | msu | macsu
deriving DecidableEq, Repr

/-- Accumulator instructions, in the order of AOP (R341). -/
inductive AOp
  | adda | suba | addq | addi | subq | subi | nega | clra | mova | asha | rsha | abit | lda | ldai | cmpa
deriving DecidableEq, Repr

/-- Data and extraction instructions (R342). -/
inductive XOp
  | rnd | rndi | exh | exl | exg | add | adds | sub | subs | and | or | xor | shl | shr | sar | shlr | shrr | mov | cmp
deriving DecidableEq, Repr

/-- Address instructions, in the order of GOP (R343). -/
inductive GOp
  | seti | setm | setb | setl | modi | movi | movm | rdi | rdm
deriving DecidableEq, Repr

/-- An SDP instruction with the fields that its word carries; a field that it does not use is 0 (R338). -/
inductive SInstr
  | ctl (op : COp)
  | jump (op : JOp) (t : BitVec 11)
  | rep (last : BitVec 11) (count : BitVec 16)
  | repr (last : BitVec 11) (ds : Fin 8)
  | mac (op : MOp) (ad : Fin 4) (xs ys : Fin 8) (mv0 mv1 : Option SMove)
  | mac2 (op : MOp) (ad : Fin 4) (xs ys : Fin 8) (mv0 mv1 : Option SMove)
  | acc (op : AOp) (ad as_ : Fin 4) (ds : Fin 8) (n : BitVec 8) (mv : Option SMove)
  | data (op : XOp) (dd da db : Fin 8) (as_ : Fin 4) (n : BitVec 6) (mv : Option SMove)
  | ldi (dd : Fin 8) (h : Bool) (imm : BitVec 28)
  | loc (store : Bool) (d i : Fin 8) (disp : BitVec 10)
  | far (store : Bool) (d db : Fin 8) (imm : BitVec 20)
  | idx (op : GOp) (k d : Fin 8) (imm : BitVec 11)
deriving DecidableEq, Repr

end Sys2Proof.Sdp
end

