-- ==== Sys2Proof/Syntax.lean ====
section
/-! DEFINITION. The commands the lane takes: one constructor per row of spec/opcode_table.json. A command carries what
reaches the lane from outside it (a message, a level, an address, a value) or which of its units acts. -/

namespace Sys2Proof

open Sys2Proof.Moagar Sys2Proof.Sdp

/-- The commands, in the order of the opcode table. -/
inductive Instr
  /-- POWER_ON_RESET (R547): A supply falls below its reset threshold or PORN goes low, so the lane is held in power-on reset until the release conditions have held for 1.0 ms. -/
  | powerOnReset
  /-- START_UP (R506): At the release of a lane reset (cold, warm or wake), the lane runs the start-up steps: fuse load, MBIST, LBIST, injection, power-up-only tests, image verification, then the configuration window. -/
  | startUp (r : StartUpRun)
  /-- WIPE_COMPLETE (R461): The wipe of bank 15 completes; MEMC_STAT.WIPE clears and XLA_KEYSTAT.LOADED reads 0. -/
  | wipeComplete
  /-- CLOCK_FAULT (R35): LCLK lies outside ±2 % for 2 µs or the PLL loses lock; the lane holds itself in reset and stops DLK traffic. -/
  | clockFault
  /-- WARM_RESET (R535): A class-2 write of SYS_RST.WARM performs a warm lane reset. -/
  | warmReset (rq : Req)
  /-- FRAME_START (R22): At each frame start, the lane captures the input snapshot, commits the voted set, updates the redundancy state and sends source 24. -/
  | frameStart
  /-- OVERLAY_BUILD_COMPLETE (R526): The building of the inactive configuration window copy completes. -/
  | overlayBuildComplete
  /-- ROLLING_LBIST_END (R517): The rolling LBIST completes; the registers are restored, the link is retrained, the pairs restart, or the lane becomes STRUCK. -/
  | rollingLbistEnd (partF : BitVec 10) (j0 j1 : PairInj)
  /-- INPUT_ROUND_1 (R133): At t_i1, the lane sends its signed INPUT message with the declared input set on both links, or hoists XASM when the set is not assembled. -/
  | inputRound1
  /-- INPUT_ROUND_2 (R126): At t_i2, the lane relays the admitted round-1 message of the third lane, or sends an empty relay. -/
  | inputRound2
  /-- INPUT_MESSAGE (R127): A received INPUT message or relay is checked, counted, admitted into the view and measured for the time offset. -/
  | inputMessage (link : Fin 3) (relay symOk : Bool) (m : List Word)
  /-- OUTPUT_MESSAGE (R142): A received OUTPUT message or relay is checked and entered into the vote views, with its JFIN and MABORT flags. -/
  | outputMessage (link : Fin 3) (relay symOk : Bool) (m : List Word)
  /-- STATE_MESSAGE (R139): A received STATE message is checked, its pennant is taken and its JREQ is noted. -/
  | stateMessage (link : Fin 3) (relay symOk : Bool) (m : List Word)
  /-- MIRROR_MESSAGE (R154): A received MIRROR message carries one block of the mirrored state to the joining lane, which compares and writes the copies. -/
  | mirrorMessage (link : Fin 3) (symOk : Bool) (m : List Word)
  /-- JOIN_MESSAGE (R149): A received JOIN message gives link-delay data and the formation fields READY, FOUNDER, ACCEPT and epoch. -/
  | joinMessage (link : Fin 3) (symOk : Bool) (m : List Word)
  /-- INPUT_SELECTION (R135): Once every expected message is in, the XLA selects each variable by its rule and writes the agreed vector. -/
  | inputSelection
  /-- INPUT_CLOSE (R138): At c_i, the views are final and selection runs with what has arrived. -/
  | inputClose
  /-- FRAME_WAIT_RELEASE (R138): After the last write of the agreed vector area completes, the XLA releases the frame wait and sends source 25. -/
  | frameWaitRelease (wlost : Nat)
  /-- VOTE_ROUND_1 (R141): At the output deadline, the lane sends OUTPUT or STATE, and members take the mirror capture. -/
  | voteRound1
  /-- VOTE_ROUND_2 (R126): At t_v2, the lane relays the third lane's vote-round-1 message. -/
  | voteRound2
  /-- VOTE_CLOSE (R142): At c_v, the XLA compares the output sets, fixes the outcome, the odd lanes and the next membership, and forms the time target. -/
  | voteClose
  /-- VOTE_INCOMPLETE (R143): A vote that is not complete by T − 0.50 µs has outcome 4. -/
  | voteIncomplete
  /-- ISOLATION_TEST_END (R173): After ISOT frames without an observed claim, the lane forms alone in HALF-MAST; otherwise it stays WITHDRAWN. -/
  | isolationTestEnd
  /-- MID_WINDOW_START (R132): In the mid window, the lane sends its JOIN and MIRROR messages. -/
  | midWindowStart
  /-- TAIL_WINDOW_START (R132): In the tail window, the lane sends the first captured MIRROR block. -/
  | tailWindowStart
  /-- RESYNC_BLOCK_TIMEOUT (R156): A final mirror block has not arrived by the end of the mid window of f + 1, so the attempt fails and no release comes. -/
  | resyncBlockTimeout
  /-- JOIN_SEND (R149): A lane whose frame numbering does not run sends JOIN every 20 µs. -/
  | joinSend
  /-- ACCEPT_DEADLINE (R150): At 10 × T before the epoch, the founder fixes the frame-0 members or proposes a new epoch. -/
  | acceptDeadline
  /-- FORMATION_EPOCH (R150): At FRAME_EPOCH, frame 0 starts and the named members enter VOTING. -/
  | formationEpoch
  /-- SOLO_TIMEOUT (R151): A SOLO lane that finds no peer within SOLOT ms proposes an epoch and forms alone. -/
  | soloTimeout
  /-- XLA_ENABLE (R131): A write that sets XLA_CTRL.EN is checked against the configuration and either refused with CFGERR or starts the exchange and key fetch. -/
  | xlaEnable (rq : Req) (v : Word)
  /-- XLA_DISABLE (R570): Clearing XLA_CTRL.EN stops the exchange, and a VOTING lane withdraws. -/
  | xlaDisable (rq : Req) (v : Word)
  /-- RESYNC (R153): XLA_CMD.RESYNC requests a resynchronisation transfer by JREQ. -/
  | resync (rq : Req)
  /-- LEAVE (R158): XLA_CMD.LEAVE makes the lane leave at the next vote, as R144 without XODD. -/
  | leave (rq : Req)
  /-- ABORT (R158): XLA_CMD.ABORT abandons this lane's resynchronisation request. -/
  | abort (rq : Req)
  /-- KEYLD (R159): XLA_CMD.KEYLD fetches the key block from bank 15 while EN is 0. -/
  | keyld (rq : Req)
  /-- XLA_DUPLICATE_MISMATCH (R161): The duplicated XLA logic disagrees; XLAF is hoisted, the lane withdraws and becomes STRUCK. -/
  | xlaDuplicateMismatch
  /-- HALYARD_CHANGE (R176): A halyard line changes level and is observed after the deglitch; marks, contention, ensign and gate enables follow. -/
  | halyardChange (x : Fin 3) (level atCtrl atDie : Bool)
  /-- QUIET_TIME_ELAPSED (R178): After 20 µs with all lines released, a requesting VOTING lane asserts its claim. -/
  | quietTimeElapsed
  /-- SHARED_GATE_ARM (R177): After the 1.00 µs arming time with only the own line asserted, the shared-output gates are enabled. -/
  | sharedGateArm
  /-- HALYARD_STUCK (R181): The own line differs from its driven level for 1.00 µs, and HALS is hoisted. -/
  | halyardStuck
  /-- CLAIM (R189): HAL_CMD.CLAIM requests a claim with AUTO = 0. -/
  | claim (rq : Req)
  /-- RELEASE (R189): HAL_CMD.RELEASE withdraws the claim request with AUTO = 0. -/
  | release (rq : Req)
  /-- SAFE (R167): HAL_CMD.SAFE is SAFE cause 4 at the next frame start. -/
  | safe (rq : Req)
  /-- LIMP_WARNING (R171): Source 39 becomes pending 10 s before the limp time expires. -/
  | limpWarning
  /-- LIMP_EXPIRY (R171): The limp timer reaches LIMPT; LIMP is hoisted and the lane enters SAFE. -/
  | limpExpiry
  /-- FAULT_LOG_WRITE (R187): The FLT block writes a queued log entry to MRAM and updates the sequence word. -/
  | faultLogWrite
  /-- FAULT_LOG_ENABLE (R187): Setting FLT_LOGCFG.EN is checked against the regions, and the log head is read. -/
  | faultLogEnable (rq : Req) (v : Word)
  /-- COMPARATOR_MISMATCH (R199): An unequal code halts the pair, hoists CMPM, withdraws the lane when it is the safety pair, and starts the core self-test. -/
  | comparatorMismatch (p : Fin 2) (groups : BitVec 64) (pc : Addr)
  /-- COMPARATOR_FAULT (R196): An invalid code at the checker root hoists CMPF and makes the lane STRUCK. -/
  | comparatorFault (p : Fin 2) (groups : BitVec 64) (pc : Addr)
  /-- SELF_TEST_VERDICT (R203): The core self-test completes, and its verdict leads to restart, retirement, take-over or STRUCK. -/
  | selfTestVerdict (p : Fin 2) (leadOk shadowOk : Bool)
  /-- RESTART1 (R217): LSC_CMD.RESTART1 restarts a halted non-safety P1 at LSC_RENTRY1. -/
  | restart1 (rq : Req)
  /-- RETIRE1 (R217): LSC_CMD.RETIRE1 retires a non-safety P1 and parks both its cores. -/
  | retire1 (rq : Req)
  /-- ATTACH (R214): The ATTACH TAP instruction disables the comparators, hoists DBG and enters DEBUG. -/
  | attach (m0 m1 : Option (BitVec 64 × Addr))
  /-- EXTEST (R559): The EXTEST TAP instruction selects the boundary-scan register. -/
  | extest
  /-- SAMPLE_PRELOAD (R559): The SAMPLE/PRELOAD TAP instruction selects the boundary-scan register. -/
  | samplePreload
  /-- IDCODE (R559): The IDCODE TAP instruction selects the 32-bit identification register. -/
  | idcode
  /-- BYPASS (R559): The BYPASS TAP instruction, or an undefined code, selects the 1-bit bypass register. -/
  | bypass (code : BitVec 5)
  /-- DEBUG_READ (R559): A debug access register operation reads a debug control register of the selected core. -/
  | debugRead (n : BitVec 6)
  /-- DEBUG_WRITE (R559): A debug access register operation writes a debug control register of the selected core. -/
  | debugWrite (n : BitVec 6) (v : Word)
  /-- DEBUG_SELECT_CORE (R559): A debug access register operation selects the core. -/
  | debugSelectCore (k : Fin 4)
  /-- HALT (R216): DCTRL.HALT halts the core in debug mode. -/
  | halt
  /-- STEP (R216): DCTRL.STEP executes one instruction pair and then halts. -/
  | step
  /-- RESUME (R216): DCTRL.RESUME resumes a core halted in debug mode. -/
  | resume
  /-- INTERRUPT_ENTRY (R80): A core takes a pending source at an instruction-pair boundary, saves LEPC and LSTAT and vectors through IVBASE. -/
  | interruptEntry (k : Fin 4)
  /-- SOFTWARE_INTERRUPT (R87): A write of INT_SWI makes software edge sources pending. -/
  | softwareInterrupt (rq : Req) (v : BitVec 8)
  /-- SEC_BUDGET_EXPIRY (R65): SEC_LEFT reaches 0, and a secure fault ends the session. -/
  | secBudgetExpiry (k : Fin 4)
  /-- STORE_ERROR_RESPONSE (R76): An error response to a posted store arrives and the core takes trap STERR imprecisely. -/
  | storeErrorResponse (k : Fin 4)
  /-- ADD (R98): Wrapping I36 addition. -/
  | add (k : Fin 4) (rd ra rb : GReg)
  /-- ADDS (R98): Saturating addition. -/
  | adds (k : Fin 4) (rd ra rb : GReg)
  /-- SUB (R98): Wrapping subtraction. -/
  | sub (k : Fin 4) (rd ra rb : GReg)
  /-- SUBS (R98): Saturating subtraction. -/
  | subs (k : Fin 4) (rd ra rb : GReg)
  /-- CMP (R98): Sets the flags from a subtraction. -/
  | cmp (k : Fin 4) (ra rb : GReg)
  /-- NEG (R98): Wrapping negation. -/
  | neg (k : Fin 4) (rd ra : GReg)
  /-- NEGS (R98): Saturating negation. -/
  | negs (k : Fin 4) (rd ra : GReg)
  /-- ABS (R98): Wrapping absolute value. -/
  | abs (k : Fin 4) (rd ra : GReg)
  /-- ABSS (R98): Saturating absolute value. -/
  | abss (k : Fin 4) (rd ra : GReg)
  /-- AND (R98): Bitwise AND. -/
  | and (k : Fin 4) (rd ra rb : GReg)
  /-- OR (R98): Bitwise OR. -/
  | or (k : Fin 4) (rd ra rb : GReg)
  /-- XOR (R98): Bitwise XOR. -/
  | xor (k : Fin 4) (rd ra rb : GReg)
  /-- ANDN (R98): AND with the complement. -/
  | andn (k : Fin 4) (rd ra rb : GReg)
  /-- CLZ (R98): Counts the leading zero bits. -/
  | clz (k : Fin 4) (rd ra : GReg)
  /-- SHL (R98): Logical left shift by a register amount. -/
  | shl (k : Fin 4) (rd ra rb : GReg)
  /-- SHR (R98): Logical right shift. -/
  | shr (k : Fin 4) (rd ra rb : GReg)
  /-- SAR (R98): Arithmetic right shift. -/
  | sar (k : Fin 4) (rd ra rb : GReg)
  /-- SARR (R98): Rounding arithmetic right shift. -/
  | sarr (k : Fin 4) (rd ra rb : GReg)
  /-- SHLS (R98): Saturating left shift. -/
  | shls (k : Fin 4) (rd ra rb : GReg)
  /-- ROT (R98): Rotate left. -/
  | rot (k : Fin 4) (rd ra rb : GReg)
  /-- MIN (R98): Signed minimum. -/
  | min (k : Fin 4) (rd ra rb : GReg)
  /-- MAX (R98): Signed maximum. -/
  | max (k : Fin 4) (rd ra rb : GReg)
  /-- MINU (R98): Unsigned minimum. -/
  | minu (k : Fin 4) (rd ra rb : GReg)
  /-- MAXU (R98): Unsigned maximum. -/
  | maxu (k : Fin 4) (rd ra rb : GReg)
  /-- CLAMP (R98): Clamps a value between two bounds. -/
  | clamp (k : Fin 4) (rd ra rb rc : GReg)
  /-- MID3 (R98): Median of three. -/
  | mid3 (k : Fin 4) (rd ra rb rc : GReg)
  /-- MEAN2 (R98): Rounded mean of two. -/
  | mean2 (k : Fin 4) (rd ra rb : GReg)
  /-- MAJ3 (R98): Bitwise majority of three. -/
  | maj3 (k : Fin 4) (rd ra rb rc : GReg)
  /-- ADDI (R99): Adds an immediate, wrapping. -/
  | addi (k : Fin 4) (rd ra : GReg) (imm : BitVec 20)
  /-- ADDIS (R99): Adds an immediate, saturating. -/
  | addis (k : Fin 4) (rd ra : GReg) (imm : BitVec 20)
  /-- ANDI (R99): AND with an immediate. -/
  | andi (k : Fin 4) (rd ra : GReg) (imm : BitVec 20)
  /-- ORI (R99): OR with an immediate. -/
  | ori (k : Fin 4) (rd ra : GReg) (imm : BitVec 20)
  /-- XORI (R99): XOR with an immediate. -/
  | xori (k : Fin 4) (rd ra : GReg) (imm : BitVec 20)
  /-- CMPI (R99): Compares with an immediate. -/
  | cmpi (k : Fin 4) (ra : GReg) (imm : BitVec 20)
  /-- SHI (R99): Shift of the kind in IMM20 by an immediate amount. -/
  | shi (k : Fin 4) (rd ra : GReg) (kind : BitVec 3) (n : BitVec 6)
  /-- LI (R99): Loads a sign-extended immediate. -/
  | li (k : Fin 4) (rd : GReg) (imm : BitVec 25)
  /-- LHI (R99): Loads the high 18 bits. -/
  | lhi (k : Fin 4) (rd : GReg) (imm : BitVec 18)
  /-- MUL (R100): Low 36 bits of the product. -/
  | mul (k : Fin 4) (rd ra rb : GReg)
  /-- MULS (R100): Product saturated to I36. -/
  | muls (k : Fin 4) (rd ra rb : GReg)
  /-- MULW (R100): Signed 72-bit product into a pair. -/
  | mulw (k : Fin 4) (rd ra rb : GReg)
  /-- MULWU (R100): Unsigned 72-bit product into a pair. -/
  | mulwu (k : Fin 4) (rd ra rb : GReg)
  /-- MULQ (R50): Rounded, saturated S36 product. -/
  | mulq (k : Fin 4) (rd ra rb : GReg)
  /-- MULQW (R100): Rounded S36 product, wrapping. -/
  | mulqw (k : Fin 4) (rd ra rb : GReg)
  /-- MADQ (R100): Fused S36 multiply-add with one rounding. -/
  | madq (k : Fin 4) (rd ra rb rc : GReg)
  /-- DIV (R52): I36 division with quotient and remainder. -/
  | div (k : Fin 4) (rd rc ra rb : GReg)
  /-- DIVU (R52): U36 division. -/
  | divu (k : Fin 4) (rd rc ra rb : GReg)
  /-- DIVQ (R52): S36 division. -/
  | divq (k : Fin 4) (rd rc ra rb : GReg)
  /-- CVTQI (R100): Converts S36 to I36. -/
  | cvtqi (k : Fin 4) (rd ra : GReg)
  /-- CVTIQ (R100): Converts I36 to S36. -/
  | cvtiq (k : Fin 4) (rd ra : GReg)
  /-- OX (R102): Extracts octets from a register pair. -/
  | ox (k : Fin 4) (rd ra : GReg) (j : BitVec 4) (sz : BitVec 2) (sx : Bool)
  /-- OI (R102): Inserts octets into a register pair. -/
  | oi (k : Fin 4) (rd rb : GReg) (j : BitVec 4) (sz : BitVec 2)
  /-- LD (R103): Loads a word. -/
  | ld (k : Fin 4) (rd ra : GReg) (imm : BitVec 20) (f : Arrive)
  /-- ST (R103): Posted store of a word. -/
  | st (k : Fin 4) (rs ra : GReg) (imm : BitVec 20) (f : Arrive)
  /-- LDP (R104): Loads two words into a pair. -/
  | ldp (k : Fin 4) (rd ra : GReg) (imm : BitVec 20) (f1 f2 : Arrive)
  /-- STP (R103): Stores a pair as two posted stores. -/
  | stp (k : Fin 4) (rs ra : GReg) (imm : BitVec 20) (f1 f2 : Arrive)
  /-- SWAP (R105): Atomic swap. -/
  | swap (k : Fin 4) (rd ra rb : GReg) (f : Arrive)
  /-- AADD (R105): Atomic add. -/
  | aadd (k : Fin 4) (rd ra rb : GReg) (f : Arrive)
  /-- CAS (R105): Atomic compare-and-swap. -/
  | cas (k : Fin 4) (rd ra rb rc : GReg) (f : Arrive)
  /-- B_COND (R106): Conditional branch on the flags. -/
  | bCond (k : Fin 4) (cond : BitVec 4) (off : BitVec 24)
  /-- CALL (R106): PC-relative call that writes g31. -/
  | call (k : Fin 4) (off : BitVec 24)
  /-- JR (R106): Register-indirect jump. -/
  | jr (k : Fin 4) (ra : GReg) (imm : BitVec 20)
  /-- CALLR (R106): Register-indirect call. -/
  | callr (k : Fin 4) (ra : GReg) (imm : BitVec 20)
  /-- NOP (R107): No operation. -/
  | nop (k : Fin 4) (w : Word) (f : Arrive)
  /-- FENCE (R73): Waits until every earlier access of the core has its response. -/
  | fence (k : Fin 4)
  /-- MFC (R108): Reads a control register; a read of c11 latches c12. -/
  | mfc (k : Fin 4) (rd : GReg) (n : BitVec 6)
  /-- MTC (R108): Writes a control register under the access rules. -/
  | mtc (k : Fin 4) (n : BitVec 6) (ra : GReg)
  /-- TRAP (R88): Takes trap SWT with the immediate as DETAIL. -/
  | trap (k : Fin 4) (imm : BitVec 8)
  /-- BRK (R216): Breakpoint: a debug break when a debugger is attached, otherwise trap BRK. -/
  | brk (k : Fin 4)
  /-- TRET (R88): Returns from a trap handler. -/
  | tret (k : Fin 4)
  /-- IRET (R80): Returns from an interrupt handler. -/
  | iret (k : Fin 4)
  /-- WFI (R109): Stops issue until a routed source is pending; the lane may enter IDLE. -/
  | wfi (k : Fin 4)
  /-- WFI_RESUME (R109): A routed source becomes pending and issue resumes after WFI. -/
  | wfiResume (k : Fin 4)
  /-- WAITF (R110): Waits for and consumes the frame-wait release and returns the frame number. -/
  | waitf (k : Fin 4) (rd : GReg)
  /-- WAITF_RESUME (R110): A latched frame-wait release is consumed by a waiting WAITF. -/
  | waitfResume (k : Fin 4)
  /-- XSUB (R111): Submits the declared output set to the XLA and returns a status code. -/
  | xsub (k : Fin 4) (rd : GReg)
  /-- SPLIT (R112): Ends lock-step comparison of the pair. -/
  | split (k : Fin 4) (rd : GReg)
  /-- JOIN (R113): Begins the rendezvous of the two cores of a split pair. -/
  | join (k : Fin 4) (rd ra : GReg)
  /-- JOIN_COMPLETE (R212): Both cores have arrived; the registers are copied and lock-step resumes. -/
  | joinComplete (p : Fin 2)
  /-- JOIN_TIMEOUT (R113): The JOIN timeout expires and the core continues split with rd = 1. -/
  | joinTimeout (k : Fin 4)
  /-- HOIST (R115): Hoists a software bunting flag. -/
  | hoist (k : Fin 4) (n : BitVec 8)
  /-- DIP (R115): Dips a bunting flag. -/
  | dip (k : Fin 4) (n : BitVec 8)
  /-- SENTER (R63): Enters secure mode through a gate word. -/
  | senter (k : Fin 4) (g : BitVec 6) (f : Arrive)
  /-- SEXIT (R63): Leaves secure mode. -/
  | sexit (k : Fin 4)
  /-- SEXITZ (R116): Clears g1–g29 and c28–c31, then leaves secure mode. -/
  | sexitz (k : Fin 4)
  /-- PERIOD_START (R230): At a bank's period start, the counter is 0, the shadows transfer in an open round, the effective compares are formed and the edge packets are queued. -/
  | periodStart (n : Fin 2)
  /-- ISN_SAMPLE (R291): At the anchor of a bank, ISN forms the sinc3 sample, checks validity, reconstructs and publishes it. -/
  | isnSample (n : Fin 2)
  /-- PWM_ENABLE (R229): Setting PWMn_CTRL.EN is checked, and it transfers the shadows and starts the counter. -/
  | pwmEnable (rq : Req) (n : Fin 2) (v : Word)
  /-- PWM_DISABLE (R252): Clearing PWMn_CTRL.EN sends an off trip packet and stops the counter. -/
  | pwmDisable (rq : Req) (n : Fin 2) (v : Word)
  /-- LOADALL (R231): Writing PWM0_LOAD.LOADALL opens a round. -/
  | loadall (rq : Req) (banks : BitVec 2)
  /-- TRIPOFF (R235): PWMn_CMD.TRIPOFF latches SWOFF. -/
  | tripoff (rq : Req) (n : Fin 2)
  /-- TRIPSHORT (R235): PWMn_CMD.TRIPSHORT latches SWSHORT. -/
  | tripshort (rq : Req) (n : Fin 2)
  /-- TRIP_ASSERT (R236): A change of the resolved trip state takes effect at the generator and is sent as a trip packet. -/
  | tripAssert (n : Fin 2)
  /-- EDGE_PACKET (R239): The gate-drive die decodes an edge packet and schedules its gate states for ETIME. -/
  | edgePacket (q : Fin 3) (crcOk : Bool)
  /-- EDGE_EXECUTION (R240): At ETIME, the die applies the packet's gate states through the command lockout. -/
  | edgeExecution (q : Fin 3)
  /-- TRIP_PACKET (R243): The die applies a trip packet on decode. -/
  | tripPacket (crcOk : Bool)
  /-- CONFIGURATION_WRITE (R244): The die applies a configuration write, including a safety-output command, in order. -/
  | configurationWrite (crcOk : Bool)
  /-- CONFIGURATION_REPEAT (R244): A configuration write that is not acknowledged within 800 ns is repeated, and CFGF is set after three repeats. -/
  | configurationRepeat (crcOk : Bool)
  /-- TSYNC_SEND (R241): The controller sends TSYNC every 1.6 µs. -/
  | tsyncSend
  /-- TSYNC (R238): The die sets its DTIME copy from a received TSYNC. -/
  | tsync (crcOk : Bool) (delay : BitVec 10)
  /-- HELLO (R251): The HELLO packet exchanges the DLK protocol version at bring-up. -/
  | hello (vmaj vmin : BitVec 4) (dly : BitVec 10)
  /-- UPSTREAM_SLOT (R245): At each 400 ns slot, the die sends the bitstream packet, any due event packet and one status packet. -/
  | upstreamSlot (octets : List (BitVec 8)) (vbus vgd : BitVec 12) (tdie : BitVec 9) (pins : BitVec 4)
  /-- BITSTREAM (R246): The controller receives the modulator bits and passes them, timestamped, to ISN. -/
  | bitstream (crcOk : Bool)
  /-- STATUS_PACKET (R248): The controller receives a die register value, updates the GDC image and takes the ACK. -/
  | statusPacket (crcOk : Bool)
  /-- EVENT_PACKET (R261): The controller receives the report vector and updates GDC_RPT and the event-matrix inputs. -/
  | eventPacket (crcOk : Bool)
  /-- LINK_LOSS (R249): The die declares link loss and applies the link-loss pattern, chopper off and safety outputs off. -/
  | linkLoss (quiet : Bool) (dcode : Nat)
  /-- CONTROLLER_LINK_LOSS (R250): The controller detects upstream loss, hoists LINKLOSS and stops transmitting for 1.0 µs. -/
  | controllerLinkLoss (quiet : Bool) (ucode : Nat)
  /-- LINK_RETRAIN (R250): After the 1.0 µs stop, the link trains again. -/
  | linkRetrain
  /-- LINK_UP (R251): Training and version exchange complete, and LSTATE reads 3 or 4. -/
  | linkUp
  /-- LLREL (R250): DLK_CMD.LLREL releases the held link-loss pattern. -/
  | llrel (rq : Req)
  /-- RETRAIN (R253): DLK_CMD.RETRAIN stops transmission for 1.0 µs and then trains. -/
  | retrain (rq : Req)
  /-- MONITOR_REPORT (R260): A power-stage monitor condition holds for its filter time, and its report bit is set and latched. -/
  | monitorReport (n : Fin 24) (ph : Fin 3) (level held : Nat)
  /-- MONITOR_RELEASE (R260): A monitor's release condition holds for its filter time, and the report bit clears. -/
  | monitorRelease (n : Fin 24) (ph : Fin 3) (level held : Nat)
  /-- GATE_DRIVE_RESET (R547): VGD falls below 7.5 V, so the gate-drive die resets and holds its outputs off. -/
  | gateDriveReset
  /-- EMTEST (R266): A write of SYS_EMTEST forces matrix inputs for 1.0 µs. -/
  | emtest (rq : Req) (v : BitVec 24)
  /-- EMTEST_EXPIRY (R266): The 1.0 µs force ends and the input returns to GDC_RPT. -/
  | emtestExpiry (m : BitVec 24)
  /-- CHOPPER_MINON (R267): The chopper MINON elapses and the gate turns off once CHON is 0. -/
  | chopperMinon
  /-- CHOPPER_MAXON (R267): The gate has been on for MAXON × 10 µs; it turns off and a rest interval starts. -/
  | chopperMaxon
  /-- CHOPPER_REST_END (R267): The rest interval ends. -/
  | chopperRestEnd
  /-- CHOPPER_EFFECT_CHECK (R268): After CHT µs on, VMS has not fallen by CHDV, so CHOPNF is set. -/
  | chopperEffectCheck (vms : Nat)
  /-- HALL_CHANGE (R279): A filtered Hall state change is accepted and classified as forward, backward, skip, invalid or re-entry. -/
  | hallChange (n : Fin 2) (raw : BitVec 3)
  /-- HALL_STANDSTILL (R279): No Hall edge for HSTO ms makes TSEC invalid and DIR unknown. -/
  | hallStandstill (n : Fin 2)
  /-- CATCH_TIMEOUT (R286): FSTO expires in START mode, and COM enters six-step from standstill. -/
  | catchTimeout (n : Fin 2)
  /-- LOCKED_ROTOR (R287): The locked-rotor timer reaches LOCKT, LOCKR is hoisted and source 114 + n becomes pending. -/
  | lockedRotor (n : Fin 2)
  /-- ISN_IU_READ (R293): A read of ISN_IUn captures the rest of the sample for the same source. -/
  | isnIuRead (rq : Req) (n : Fin 2)
  /-- FCE_RUN (R306): A trigger starts an FCE run, which acquires inputs, reads the set, regulates, modulates and writes the compares and LOADALL. -/
  | fceRun (n : Fin 2)
  /-- FCE_RUN_COMPLETE (R315): The response to the last compare write arrives, and the output tags and run record are written. -/
  | fceRunComplete (n : Fin 2)
  /-- LOAD (R303): FCEn_CMD.LOAD copies an image into the inactive copy for checking. -/
  | load (rq : Req) (n : Fin 2)
  /-- FCE_IMAGE_CHECK (R304): The loaded image is checked and either marked for swap or refused with CFGERR. -/
  | fceImageCheck (n : Fin 2)
  /-- FCE_ENABLE (R323): Setting FCEn_CTRL.EN starts the engine. -/
  | fceEnable (rq : Req) (n : Fin 2) (v : Word)
  /-- FCE_DISABLE (R322): Clearing FCEn_CTRL.EN abandons a run and clears the integrators. -/
  | fceDisable (rq : Req) (n : Fin 2) (v : Word)
  /-- SDP_START (R337): Setting SDP_CTRL.RUN starts the program at SDP_ENTRY in B0. -/
  | sdpStart (rq : Req) (v : Word)
  /-- SDP_STOP (R337): Clearing RUN halts the SDP with cause 8. -/
  | sdpStop (rq : Req) (v : Word)
  /-- CLR (R327): SDP_CMD.CLR clears both register banks. -/
  | clr (rq : Req)
  /-- SDP_TIMER (R345): The SDP timer pends source 228 every PER cycles. -/
  | sdpTimer
  /-- FAST_INTERRUPT (R335): The SDP takes its fast interrupt and switches to B1 at SDP_FIVEC. -/
  | fastInterrupt
  /-- SDP_STORE_ERROR (R336): An error response to an STF arrives and halts the SDP with cause 6. -/
  | sdpStoreError
  /-- SDP_NOP (R339): No operation. -/
  | sdpNop (w : Word)
  /-- SDP_HALT (R339): Halts with cause 1. -/
  | sdpHalt
  /-- WAIT (R335): Stops issue until the fast interrupt is taken. -/
  | wait
  /-- RTI (R335): Returns from the fast interrupt to B0. -/
  | rti
  /-- JMP (R339): Unconditional jump. -/
  | jmp (t : BitVec 11)
  /-- JZ (R339): Jumps when Z is 1. -/
  | jz (t : BitVec 11)
  /-- JNZ (R339): Jumps when Z is 0. -/
  | jnz (t : BitVec 11)
  /-- JN (R339): Jumps when N is 1. -/
  | jn (t : BitVec 11)
  /-- JNN (R339): Jumps when N is 0. -/
  | jnn (t : BitVec 11)
  /-- SYNC (R336): Stalls until every posted STF has its response. -/
  | sync
  /-- SIG (R339): Pends source 224 + n. -/
  | sig (t : BitVec 11)
  /-- XBANK (R335): Swaps the active register bank. -/
  | xbank
  /-- REP (R334): Hardware block repeat with an immediate count. -/
  | rep (last : BitVec 11) (count : BitVec 16)
  /-- REPR (R334): Hardware block repeat with a register count. -/
  | repr (last : BitVec 11) (ds : Fin 8)
  /-- MPY (R340): Multiply into an accumulator. -/
  | mpy (ad : Fin 4) (xs ys : Fin 8) (mv0 mv1 : Option SMove)
  /-- MAC (R340): Multiply-accumulate. -/
  | mac (ad : Fin 4) (xs ys : Fin 8) (mv0 mv1 : Option SMove)
  /-- MSU (R340): Multiply-subtract. -/
  | msu (ad : Fin 4) (xs ys : Fin 8) (mv0 mv1 : Option SMove)
  /-- MACSU (R340): Multiply-accumulate with unsigned y. -/
  | macsu (ad : Fin 4) (xs ys : Fin 8) (mv0 mv1 : Option SMove)
  /-- MAC2 (R340): Dual-unit MAC operation selected by MOP. -/
  | mac2 (mop : BitVec 3) (ad : Fin 4) (xs ys : Fin 8) (mv0 mv1 : Option SMove)
  /-- ADDA (R341): Adds accumulators. -/
  | adda (ad as_ : Fin 4) (mv : Option SMove)
  /-- SUBA (R341): Subtracts accumulators. -/
  | suba (ad as_ : Fin 4) (mv : Option SMove)
  /-- ADDQ (R341): Adds an S36-aligned data register. -/
  | addq (ad : Fin 4) (ds : Fin 8) (mv : Option SMove)
  /-- SDP_ADDI (R341): Adds an integer data register. -/
  | sdpAddi (ad : Fin 4) (ds : Fin 8) (mv : Option SMove)
  /-- SUBQ (R341): Subtracts an S36-aligned data register. -/
  | subq (ad : Fin 4) (ds : Fin 8) (mv : Option SMove)
  /-- SUBI (R341): Subtracts an integer data register. -/
  | subi (ad : Fin 4) (ds : Fin 8) (mv : Option SMove)
  /-- NEGA (R341): Negates an accumulator. -/
  | nega (ad as_ : Fin 4) (mv : Option SMove)
  /-- CLRA (R341): Clears an accumulator. -/
  | clra (ad : Fin 4) (mv : Option SMove)
  /-- MOVA (R341): Copies an accumulator. -/
  | mova (ad as_ : Fin 4) (mv : Option SMove)
  /-- ASHA (R341): Arithmetic shift of an accumulator. -/
  | asha (ad as_ : Fin 4) (n : BitVec 8) (mv : Option SMove)
  /-- RSHA (R341): Rounding right shift of an accumulator. -/
  | rsha (ad as_ : Fin 4) (n : BitVec 8) (mv : Option SMove)
  /-- ABIT (R341): Turns a sigma-delta bit into ±1. -/
  | abit (ad : Fin 4) (ds : Fin 8) (mv : Option SMove)
  /-- LDA (R341): Loads an accumulator at S36 alignment. -/
  | lda (ad : Fin 4) (ds : Fin 8) (mv : Option SMove)
  /-- LDAI (R341): Loads an accumulator as an integer. -/
  | ldai (ad : Fin 4) (ds : Fin 8) (mv : Option SMove)
  /-- CMPA (R341): Compares accumulators. -/
  | cmpa (ad as_ : Fin 4) (mv : Option SMove)
  /-- RND (R328): Rounds an accumulator to S36. -/
  | rnd (dd : Fin 8) (as_ : Fin 4) (mv : Option SMove)
  /-- RNDI (R328): Saturates an accumulator to I36. -/
  | rndi (dd : Fin 8) (as_ : Fin 4) (mv : Option SMove)
  /-- EXH (R328): Extracts accumulator bits [71:36]. -/
  | exh (dd : Fin 8) (as_ : Fin 4) (mv : Option SMove)
  /-- EXL (R328): Extracts accumulator bits [35:0]. -/
  | exl (dd : Fin 8) (as_ : Fin 4) (mv : Option SMove)
  /-- EXG (R328): Extracts the guard bits. -/
  | exg (dd : Fin 8) (as_ : Fin 4) (mv : Option SMove)
  /-- SDP_ADD (R342): Wrapping data addition. -/
  | sdpAdd (dd da db : Fin 8) (mv : Option SMove)
  /-- SDP_ADDS (R342): Saturating data addition. -/
  | sdpAdds (dd da db : Fin 8) (mv : Option SMove)
  /-- SDP_SUB (R342): Wrapping data subtraction. -/
  | sdpSub (dd da db : Fin 8) (mv : Option SMove)
  /-- SDP_SUBS (R342): Saturating data subtraction. -/
  | sdpSubs (dd da db : Fin 8) (mv : Option SMove)
  /-- SDP_AND (R342): Bitwise AND. -/
  | sdpAnd (dd da db : Fin 8) (mv : Option SMove)
  /-- SDP_OR (R342): Bitwise OR. -/
  | sdpOr (dd da db : Fin 8) (mv : Option SMove)
  /-- SDP_XOR (R342): Bitwise XOR. -/
  | sdpXor (dd da db : Fin 8) (mv : Option SMove)
  /-- SDP_SHL (R342): Immediate logical left shift. -/
  | sdpShl (dd da : Fin 8) (n : BitVec 6) (mv : Option SMove)
  /-- SDP_SHR (R342): Immediate logical right shift. -/
  | sdpShr (dd da : Fin 8) (n : BitVec 6) (mv : Option SMove)
  /-- SDP_SAR (R342): Immediate arithmetic right shift. -/
  | sdpSar (dd da : Fin 8) (n : BitVec 6) (mv : Option SMove)
  /-- SHLR (R342): Register logical left shift. -/
  | shlr (dd da db : Fin 8) (mv : Option SMove)
  /-- SHRR (R342): Register logical right shift. -/
  | shrr (dd da db : Fin 8) (mv : Option SMove)
  /-- MOV (R342): Copies a data register. -/
  | mov (dd da : Fin 8) (mv : Option SMove)
  /-- SDP_CMP (R342): Compares data registers. -/
  | sdpCmp (da db : Fin 8) (mv : Option SMove)
  /-- LDI (R343): Loads an immediate into a data register. -/
  | ldi (dd : Fin 8) (h : Bool) (imm : BitVec 28)
  /-- LDX (R343): Loads from local memory with displacement. -/
  | ldx (d i : Fin 8) (disp : BitVec 10)
  /-- STX (R343): Stores to local memory with displacement. -/
  | stx (d i : Fin 8) (disp : BitVec 10)
  /-- LDF (R336): Fabric load that stalls for its response. -/
  | ldf (d db : Fin 8) (imm : BitVec 20) (f : Arrive)
  /-- STF (R336): Posted fabric store. -/
  | stf (d db : Fin 8) (imm : BitVec 20) (f : Arrive)
  /-- SETI (R343): Sets an index register. -/
  | seti (k : Fin 8) (imm : BitVec 11)
  /-- SETM (R343): Sets a modifier register. -/
  | setm (k : Fin 8) (imm : BitVec 11)
  /-- SETB (R343): Sets a circular base. -/
  | setb (k : Fin 8) (imm : BitVec 11)
  /-- SETL (R343): Sets a circular length. -/
  | setl (k : Fin 8) (imm : BitVec 11)
  /-- MODI (R332): Post-modifies an index register without access. -/
  | modi (k : Fin 8)
  /-- MOVI (R343): Moves a data register to an index register. -/
  | movi (k ds : Fin 8)
  /-- MOVM (R343): Moves a data register to a modifier register. -/
  | movm (k ds : Fin 8)
  /-- RDI (R343): Reads an index register. -/
  | rdi (dd k : Fin 8)
  /-- RDM (R343): Reads a modifier register. -/
  | rdm (dd k : Fin 8)
  /-- QEP_EDGE (R349): An accepted encoder edge is counted, timed, used for speed and checked against the compare. -/
  | qepEdge (n : Fin 2) (a b : Bool)
  /-- INDEX_EVENT (R350): The index condition becomes true; the count is latched and drift is checked. -/
  | indexEvent (n : Fin 2) (z : Bool)
  /-- QEP_STANDSTILL (R355): No counted edge for SSTO × 10 µs, so SPDV falls. -/
  | qepStandstill (n : Fin 2)
  /-- SPEED_DECAY (R355): Every 1.000 µs with DECAY, SPD is replaced by the decaying estimate. -/
  | speedDecay (n : Fin 2)
  /-- QEP_POS_WRITE (R359): A write of QEPn_POS sets the counter and resets IREF. -/
  | qepPosWrite (rq : Req) (n : Fin 2) (v : Word)
  /-- QEP_CMP_WRITE (R357): A write of QEPn_CMP, or the setting of CEN, runs the behind test and may hoist CMPB. -/
  | qepCmpWrite (rq : Req) (n : Fin 2) (cen : Bool) (v : Word)
  /-- DOEN (R358): Setting DOEN is checked and starts the divided output. -/
  | doen (rq : Req) (n : Fin 2) (v : Word)
  /-- WIRE_FAULT (R360): A differential input is out of range for WFT µs, and its WIRE bit is set. -/
  | wireFault (n : Fin 2) (i : Fin 3) (vp vn : Int) (held : Nat)
  /-- PULL_TEST (R361): Every 1 ms, a high single-ended input is loaded and checked for its pull-up. -/
  | pullTest (n : Fin 2) (low edge : BitVec 3)
  /-- STUCK_LOW_CHECK (R361): An input not high for WLT ms while the other channel made WSTK edges is faulty. -/
  | stuckLowCheck (n : Fin 2) (i : Fin 2)
  /-- SENT_PULSE (R364): An accepted SENT falling edge ends a pulse, which is decoded, and a frame may be completed. -/
  | sentPulse (r : Fin 4) (p : Nat)
  /-- SENT_LINE_FAULT (R367): A line stuck high for 1,000 ticks or low for 100 ticks sets LINE. -/
  | sentLineFault (r : Fin 4) (low : Bool)
  /-- SENT_FC_READ (R365): A read of SENT_FCn captures SENT_FC2n and SENT_TSn for the same source. -/
  | sentFcRead (rq : Req) (r : Fin 4)
  /-- SENT_ENABLE (R372): Setting SENT_CFGn.EN is checked, and clearing it discards a frame in progress. -/
  | sentEnable (rq : Req) (r : Fin 4) (v : Word)
  /-- SENSOR_SUPPLY_FAULT (R369): A sensor supply meets an overcurrent, undervoltage or back-feed condition for its time. -/
  | sensorSupplyFault (i : Fin 4) (kind : Fin 3) (present : Bool)
  /-- SENSOR_SUPPLY_RETRY (R369): With AUTOR, the supply is switched on or closed again after its wait. -/
  | sensorSupplyRetry (i : Fin 4)
  /-- SIO_TICK (R376): At each 100 µs tick, the SIO evaluates channels, discrepancy, latches and safety outputs. -/
  | sioTick (pins : BitVec 16)
  /-- TEST_PULSE_START (R381): A test-pulse output goes low at its scheduled instant. -/
  | testPulseStart (k : Fin 4)
  /-- TEST_PULSE_CHECK (R383): At 5 µs before a pulse ends, the SIO checks the channels and the TPO. -/
  | testPulseCheck (k : Fin 4) (tpoLow : Bool) (pins : BitVec 16)
  /-- TPO_PRE_CHECK (R383): At 5 µs before a pulse starts, the TPO must read above 3.0 V. -/
  | tpoPreCheck (k : Fin 4) (high : Bool)
  /-- OUTPUT_TEST_PULSE (R386): An on output is turned off for OTW µs at its scheduled instant. -/
  | outputTestPulse (n : Fin 4)
  /-- OUTPUT_TEST_CHECK (R386): At 5 µs before the end, the output pin is read for stuck-on. -/
  | outputTestCheck (n : Fin 4) (high : Bool)
  /-- OUTPUT_OVERLOAD (R387): An output in current limit for 1.0 ms is commanded off and latched. -/
  | outputOverload (n : Fin 4)
  /-- SIO_ENABLE (R384): Setting SIO_CTRL.EN is checked and starts the ticks. -/
  | sioEnable (rq : Req) (v : Word)
  /-- OCLR (R386): SIO_CMD.OCLR clears the stuck-on and overload latches of an output. -/
  | oclr (rq : Req) (v : BitVec 4)
  /-- NCE_ENABLE (R406): Setting NCE_CTRL.EN is checked and moves the node from OFF to DELAY. -/
  | nceEnable (rq : Req) (v : Word)
  /-- NCE_DISABLE (R438): Clearing NCE_CTRL.EN puts the node in OFF. -/
  | nceDisable (rq : Req) (v : Word)
  /-- CYCLE_START (R405): At each cycle start, the cycle count advances and state, wrap, mode and version rules are applied. -/
  | cycleStart
  /-- MODE_REQUEST_TIMEOUT (R448): A request not agreed after MRTO cycles ends at the node. -/
  | modeRequestTimeout
  /-- FRAME_ASSEMBLY (R411): 2.50 µs before its sending time, the NCE copies a ready transmit buffer or prepares a null frame. -/
  | frameAssembly (j : Fin 256)
  /-- FRAME_SEND (R408): At its sending time, the node sends its static, dynamic or sync frame. -/
  | frameSend
  /-- MINISLOT_BOUNDARY (R413): At each minislot boundary, MC advances and a dynamic frame may be sent. -/
  | minislotBoundary
  /-- NETWORK_IDLE_START (R421): At the network idle segment, command frames are checked for RCMD and mode agreement is judged. -/
  | networkIdleStart
  /-- ROSMEL_FRAME (R415): A frame arrives; it is checked, forwarded cut-through and, at its FCS, delivered to a receive buffer. -/
  | rosmelFrame (p : Fin 2) (f : RFrame) (start : Nat) (hold : Fin 129)
  /-- SYNC_FRAME (R434): A received sync frame is measured for offset and rate correction, integration or coldstart abort. -/
  | syncFrame (p : Fin 2) (f : RFrame) (start : Nat)
  /-- LOOPED (R423): A received LOOPED link frame wraps the port and carries READY. -/
  | looped (p : Fin 2) (f : RFrame) (start : Nat)
  /-- DREQ (R432): A received delay request is answered by DRESP. -/
  | dreq (p : Fin 2) (f : RFrame) (start : Nat)
  /-- DRESP (R432): A received delay response gives a link-delay sample. -/
  | dresp (p : Fin 2) (f : RFrame) (start : Nat)
  /-- DELAY_REQUEST_SEND (R432): The node sends DREQ each cycle, or every 100 µs while it is not synchronised. -/
  | delayRequestSend (p : Fin 2)
  /-- LOOPED_SEND (R422): A wrapped port sends a LOOPED frame every 10 µs. -/
  | loopedSend (p : Fin 2)
  /-- NOISE (R417): Receive activity that yields no header is counted as noise. -/
  | noise (p : Fin 2)
  /-- PORT_DOWN (R422): A port goes down and the node wraps at it, hoisting RLOOP. -/
  | portDown (p : Fin 2)
  /-- WRAP0 (R427): NCE_CMD.WRAP0 declares port 0 down. -/
  | wrap0 (rq : Req)
  /-- WRAP1 (R427): NCE_CMD.WRAP1 declares port 1 down. -/
  | wrap1 (rq : Req)
  /-- NCE_UNWRAP (R425): NCE_CMD.UNWRAP permits the unwrap. -/
  | nceUnwrap (rq : Req)
  /-- LISTEN_TIMEOUT (R438): A candidate in LISTEN hears no valid frame for 2 × TCYC + NODE × SL and starts a coldstart. -/
  | listenTimeout
  /-- MODE_REQUEST (R446): A write of NCE_MREQ with GO originates a mode request, or is refused with MREF. -/
  | modeRequest (rq : Req) (mode : BitVec 3)
  /-- MARCH_START (R473): MEMC_MCMD.START starts a march, or is refused with STATE 6. -/
  | marchStart (rq : Req)
  /-- MARCH_ABORT (R473): MEMC_MCMD.ABORT ends the march and poisons destructive banks. -/
  | marchAbort (rq : Req)
  /-- MARCH_COMPLETE (R475): A march completes, with spare allocation, repair and repeat, and STATE is set. -/
  | marchComplete (reads again : List FailRead)
  /-- TAMPER_EVENT (R461): A tamper detector fires; TAMP is hoisted and bank 15 is wiped or the wipe becomes pending. -/
  | tamperEvent (i : Fin 4)
  /-- ECC_WRITE_BACK (R459): A corrected word is written back in a free bank cycle. -/
  | eccWriteBack (a : Nat)
  /-- MRAM_WRITE_COMPLETE (R463): A queued MRAM word reaches the array and its write response is given. -/
  | mramWriteComplete
  /-- SCRUB_BLOCK (R465): Every 659.2 ms, the scrub reads one MRAM block and corrects or reports its words. -/
  | scrubBlock (found : List (Fin 16 × Upset))
  /-- DMA_START (R477): Writing DMA_CTLc.EN with TEN = 0 starts one transfer. -/
  | dmaStart (rq : Req) (c : Fin 8) (v : Word)
  /-- DMA_TRIGGER (R477): A rising edge of TSRC starts a transfer or is counted as lost. -/
  | dmaTrigger (c : Fin 8)
  /-- DMA_TRANSFER_END (R477): The last write of a transfer completes and source 232 + c becomes pending. -/
  | dmaTransferEnd (c : Fin 8) (wlost : Nat)
  /-- DMA_ERROR (R478): A non-WLOST error response stops the channel. -/
  | dmaError (c : Fin 8) (k : Nat) (fr fw : Arrive)
  /-- DMA_STOP (R478): Writing EN = 0 stops a channel after its outstanding responses. -/
  | dmaStop (rq : Req) (c : Fin 8) (k : Nat)
  /-- POWER_STATE_REQUEST (R485): A write of PWR_CMD.TARGET requests SLEEP, DEEP or OFF and is evaluated or refused. -/
  | powerStateRequest (rq : Req) (target : BitVec 3)
  /-- POWER_ENTRY (R486): The entry begins when the last core waits: pads latch, state is saved, signatures are stored and supplies switch. -/
  | powerEntry (cut : Fin 3)
  /-- CANCEL (R502): PWR_CMD.CANCEL withdraws a pending request. -/
  | cancel (rq : Req)
  /-- PADREL (R487): PWR_CMD.PADREL hands every held pad to its block. -/
  | padrel (rq : Req)
  /-- WAKE_EVENT (R488): An enabled wake source fires and the lane leaves SLEEP, DEEP or OFF. -/
  | wakeEvent (high : Nat) (ed : BitVec 2) (adr : Option (BitVec 8)) (found : List (Nat × Upset))
  /-- DOMAIN_POWER_DOWN (R493): A write of PWR_DOMOFF unpowers an idle domain. -/
  | domainPowerDown (rq : Req) (v : BitVec 5)
  /-- DOMAIN_WAKE (R493): The first access to an unpowered domain powers it up with reset values. -/
  | domainWake (d : Fin 5)
  /-- RTC_TICK (R495): Each RTCCLK tick advances the calendar, applies calibration and SET or ADOPT, and checks the alarm. -/
  | rtcTick
  /-- SET (R496): RTC_CMD.SET loads the set registers at the next tick. -/
  | rtcSet (rq : Req)
  /-- ADOPT (R499): RTC_CMD.ADOPT subtracts XDIFF at the next tick. -/
  | adopt (rq : Req)
  /-- RTC_XREF_WRITE (R499): A write of RTC_XREF forms XDIFF and checks it against XTOL. -/
  | rtcXrefWrite (rq : Req) (v : Word)
  /-- ALARM_WRITE (R498): A write of the alarm or ALMEN sets APAST when the alarm lies in the past. -/
  | alarmWrite (rq : Req) (which : Fin 3) (v : Word)
  /-- RTC_CRYSTAL_STOP (R497): No RTCCLK edge for 100 µs sets XSTOP and hoists CLKF. -/
  | rtcCrystalStop
  /-- CLOCK_WARNING (R500): An LCLK deviation beyond WTHR for 10 µs hoists CLKF. -/
  | clockWarning (windows : List (BitVec 8))
  /-- SUPPLY_MONITOR (R501): A supply below its monitor threshold for 10 µs hoists SUPF. -/
  | supplyMonitor (i : Fin 3) (low : Bool)
  /-- POWERUP_TEST_AGE (R513): Hourly, a power-up test record older than PUTMAX pends source 253. -/
  | powerupTestAge
  /-- OVEN (R526): Setting SYS_OVLCFG.OVEN is checked against the building bound. -/
  | oven (rq : Req) (v : Word)
  /-- RUNLB (R537): BIST_CMD.RUNLB performs a warm reset with the full BIST sets. -/
  | runlb (rq : Req)
  /-- SCRAP (R521): LCY_CMD.SCRAP moves the lane to SCRAPPED without a record. -/
  | scrap (rq : Req)
  /-- ENDSESS (R536): LCY_CMD.ENDSESS closes an update session without a record. -/
  | endsess (rq : Req)
  /-- LCY_KOUT_READ (R530): A class-3 read of LCY_KOUT returns the next unwrapped key word. -/
  | lcyKoutRead (rq : Req)
  /-- OWNER (R529): An OWNER record stores the owner key and moves BLANK to DEVELOP. -/
  | owner (r : List Word)
  /-- WRITE (R529): A WRITE record writes its payload into a protected region. -/
  | write (r : List Word)
  /-- KEYS (R529): A KEYS record stores the key block wrapped. -/
  | keys (r : List Word)
  /-- SEAL (R529): A SEAL record checks the digests and moves DEVELOP to SEALED. -/
  | seal (r : List Word)
  /-- OPEN (R529): An OPEN record opens an update session. -/
  | sealOpen (r : List Word)
  /-- CLOSE (R529): A CLOSE record checks the digests and closes the session. -/
  | close (r : List Word)
  /-- RETURN (R529): A RETURN record moves SEALED to RETURNED. -/
  | sealReturn (r : List Word)
  /-- SCRAP_RECORD (R529): A SCRAP record moves the lane to SCRAPPED. -/
  | scrapRecord (r : List Word)
  /-- SVP_NOP (R532): Service-port NOP. -/
  | svpNop (f : SvpFrame) (cmd : BitVec 8)
  /-- IDENT (R532): Prepares the burgee as the response. -/
  | ident (f : SvpFrame)
  /-- VERSION (R532): Prepares the version word as the response. -/
  | version (f : SvpFrame)
  /-- READ (R533): The loader reads words for the response. -/
  | read (f : SvpFrame)
  /-- SVP_WRITE (R533): The loader writes words. -/
  | svpWrite (f : SvpFrame)
  /-- RECORD (R532): Delivers a chunk of a seal record; LAST submits it. -/
  | record (f : SvpFrame)
  /-- FETCH (R532): Returns the latest prepared response. -/
  | fetch (f : SvpFrame)
  /-- MSG (R532): Delivers a message to SVP_RX and sets RXV. -/
  | msg (f : SvpFrame)
  /-- RUNBIST (R532): Service-port command equivalent to BIST_CMD.RUNLB. -/
  | runbist (f : SvpFrame)
  /-- REGISTER_WRITE (R10): A write of a register without a row of its own sets, dips or sets bits under its access code, subject to class checks. -/
  | registerWrite (rq : Req) (a : Addr) (v : Word)
  /-- READ_CLEAR (R10): A read of an RC register returns the field and clears it. -/
  | readClear (rq : Req) (a : Addr)
  /-- RELEASE_TIME_EXPIRY (R168): In SAFE with action 11b, RELT ms after the release began, HAL trips the bank to all gates off. -/
  | releaseTimeExpiry (n : Fin 2)
  /-- OUTPUT_TEST_PULSE_END (R386): At the end of an output test pulse of OTW µs, the output turns on again, and a demand deferred during the pulse is applied. -/
  | outputTestPulseEnd (n : Fin 4)
  /-- TEST_PULSE_END (R381): TPW µs after a test pulse starts, the test-pulse output goes high again and the test window runs on for TPSET. -/
  | testPulseEnd (k : Fin 4)
  /-- WIRE_FAULT_CLEAR (R360): A differential encoder input that has been free of the fault conditions for WFT µs clears its WIRE bit. -/
  | wireFaultClear (n : Fin 2) (i : Fin 3) (vp vn : Int) (held : Nat)
  /-- SENT_LINE_HIGH (R367): A SENT line reported stuck low goes high, and LINE clears. -/
  | sentLineHigh (r : Fin 4)
  /-- VERSION_HOLD_TIMEOUT (R438): A node in LISTEN that has received frames with VMAJ other than 2, and no valid frame, for 2 × TCYC enters VERHOLD. -/
  | versionHoldTimeout
  /-- PORT_UP (R422): A Rosmel port's PHY link status and receiver status become OK, so the port leaves training or down and starts counting toward READY. -/
  | portUp (p : Fin 2)
  /-- GATE_DRIVE_POWER_UP (R547): VGD rises above 7.5 V, and the gate-drive die leaves reset with its registers at reset values, the link-loss pattern all off and its outputs disabled. -/
  | gateDrivePowerUp
  /-- RTC_POWER_UP (R495): After VBK and VIO have both been absent, the RTC domain powers up with time 0 and VALID 0. -/
  | rtcPowerUp
  /-- TAP_ACTIVITY (R539): Activity on the TAP pins while the debug port is closed pends source 255. -/
  | tapActivity
  /-- TAP_RESET (R559): TRSTN held low for at least 100 ns, or the TMS sequence into Test-Logic-Reset, resets the TAP and selects IDCODE. -/
  | tapReset
deriving DecidableEq, Repr

end Sys2Proof
end

