-- ==== Sys2Proof/WellFormed.lean ====
section
/-! DEFINITION. When an instruction of a core has an encoding: a field that its function does not use is 0 (R93). When the
operands of a command are ones that the outside can send: a source names a unit, an address has 24 bits, a message or record
is no longer than its carrier allows (R39, R67, R124, R400, R470, R528, R531). -/

namespace Sys2Proof

/-- The functions of OP 00h that use RC. -/
def Moagar.usesRc (op : Moagar.ROp) : Bool :=
  match op with
  | .clamp | .mid3 | .maj3 => true
  | _ => false

/-- The functions of OP 00h that use RB. -/
def Moagar.usesRb (op : Moagar.ROp) : Bool :=
  match op with
  | .neg | .negs | .abs | .abss | .clz => false
  | _ => true

/-- Is every unused field 0? -/
def Moagar.MInstr.wf (i : Moagar.MInstr) : Bool :=
  match i with
  | .rrr op rd _ rb rc =>
    (decide (op ≠ .cmp) || decide (rd = 0)) && (Moagar.usesRb op || decide (rb = 0)) && (Moagar.usesRc op || decide (rc = 0))
  | .rri op rd _ _ => decide (op ≠ .cmpi) || decide (rd = 0)
  | .mul op _ _ _ rc => decide (op = .madq) || decide (rc = 0)
  | .atom op _ _ _ rc => decide (op = .cas) || decide (rc = 0)
  | _ => true

/-- A source of R67, or the service-port loader; secure mode is a core's alone. -/
def Req.wf (r : Req) : Bool := decide (r.src ≤ 10) && decide (r.cls ≤ 3) && (!r.sec || decide (r.src < 4))

/-- A failing read of a march: an SRAM word, an element of R470, one of four backgrounds. -/
def FailRead.wf (f : FailRead) : Bool := decide (f.addr < 2 ^ 20) && decide (f.elem ≤ 7) && decide (f.bg ≤ 3)

/-- Is a command one that can be sent? -/
def Instr.wf (i : Instr) : Bool :=
  match i with
  | .startUp r => r.reads.all FailRead.wf && r.again.all FailRead.wf
  | .warmReset rq => rq.wf
  | .inputMessage _ _ _ m => decide (m.length ≤ 69)
  | .outputMessage _ _ _ m => decide (m.length ≤ 69)
  | .stateMessage _ _ _ m => decide (m.length ≤ 69)
  | .mirrorMessage _ _ m => decide (m.length ≤ 69)
  | .joinMessage _ _ m => decide (m.length ≤ 69)
  | .xlaEnable rq _ => rq.wf
  | .xlaDisable rq _ => rq.wf
  | .resync rq => rq.wf
  | .leave rq => rq.wf
  | .abort rq => rq.wf
  | .keyld rq => rq.wf
  | .claim rq => rq.wf
  | .release rq => rq.wf
  | .safe rq => rq.wf
  | .faultLogEnable rq _ => rq.wf
  | .restart1 rq => rq.wf
  | .retire1 rq => rq.wf
  | .softwareInterrupt rq _ => rq.wf
  | .pwmEnable rq _ _ => rq.wf
  | .pwmDisable rq _ _ => rq.wf
  | .loadall rq _ => rq.wf
  | .tripoff rq _ => rq.wf
  | .tripshort rq _ => rq.wf
  | .llrel rq => rq.wf
  | .retrain rq => rq.wf
  | .emtest rq _ => rq.wf
  | .isnIuRead rq _ => rq.wf
  | .load rq _ => rq.wf
  | .fceEnable rq _ _ => rq.wf
  | .fceDisable rq _ _ => rq.wf
  | .sdpStart rq _ => rq.wf
  | .sdpStop rq _ => rq.wf
  | .clr rq => rq.wf
  | .qepPosWrite rq _ _ => rq.wf
  | .qepCmpWrite rq _ _ _ => rq.wf
  | .doen rq _ _ => rq.wf
  | .sentFcRead rq _ => rq.wf
  | .sentEnable rq _ _ => rq.wf
  | .sioEnable rq _ => rq.wf
  | .oclr rq _ => rq.wf
  | .nceEnable rq _ => rq.wf
  | .nceDisable rq _ => rq.wf
  | .rosmelFrame _ f _ _ => decide (f.payload.length ≤ 60)
  | .syncFrame _ f _ => decide (f.payload.length ≤ 60)
  | .looped _ f _ => decide (f.payload.length ≤ 60)
  | .dreq _ f _ => decide (f.payload.length ≤ 60)
  | .dresp _ f _ => decide (f.payload.length ≤ 60)
  | .wrap0 rq => rq.wf
  | .wrap1 rq => rq.wf
  | .nceUnwrap rq => rq.wf
  | .modeRequest rq _ => rq.wf
  | .marchStart rq => rq.wf
  | .marchAbort rq => rq.wf
  | .marchComplete reads again => reads.all FailRead.wf && again.all FailRead.wf
  | .eccWriteBack a => decide (a < 2 ^ 24)
  | .dmaStart rq _ _ => rq.wf
  | .dmaStop rq _ _ => rq.wf
  | .powerStateRequest rq _ => rq.wf
  | .cancel rq => rq.wf
  | .padrel rq => rq.wf
  | .wakeEvent _ _ _ found => found.all (fun p => decide (p.1 < 2 ^ 24))
  | .domainPowerDown rq _ => rq.wf
  | .rtcSet rq => rq.wf
  | .adopt rq => rq.wf
  | .rtcXrefWrite rq _ => rq.wf
  | .alarmWrite rq _ _ => rq.wf
  | .oven rq _ => rq.wf
  | .runlb rq => rq.wf
  | .scrap rq => rq.wf
  | .endsess rq => rq.wf
  | .lcyKoutRead rq => rq.wf
  | .owner r => decide (r.length ≤ 4116)
  | .write r => decide (r.length ≤ 4116)
  | .keys r => decide (r.length ≤ 4116)
  | .seal r => decide (r.length ≤ 4116)
  | .sealOpen r => decide (r.length ≤ 4116)
  | .close r => decide (r.length ≤ 4116)
  | .sealReturn r => decide (r.length ≤ 4116)
  | .scrapRecord r => decide (r.length ≤ 4116)
  | .svpNop f _ => decide (f.payload.length ≤ 255)
  | .ident f => decide (f.payload.length ≤ 255)
  | .version f => decide (f.payload.length ≤ 255)
  | .read f => decide (f.payload.length ≤ 255)
  | .svpWrite f => decide (f.payload.length ≤ 255)
  | .record f => decide (f.payload.length ≤ 255)
  | .fetch f => decide (f.payload.length ≤ 255)
  | .msg f => decide (f.payload.length ≤ 255)
  | .runbist f => decide (f.payload.length ≤ 255)
  | .registerWrite rq _ _ => rq.wf
  | .readClear rq _ => rq.wf
  | _ => true

end Sys2Proof
end

