-- ==== Sys2Proof/Decode.lean ====
section
/-! DEFINITION. The command that a table word spells, the decoder and encoder of the Moagar-36 instruction word (R91 to
R107), and the decoder of the SDP's (R338 to R343). -/

namespace Sys2Proof

/-- The opcode table gives no row any bits: no word spells a command. -/
def decodeTableWord (_nbits _w : Nat) : Option Instr := none

namespace Moagar

/-! Numbers of the functions (R98 to R107) -/

/-- FN of the functions of OP 00h. -/
def fnR (op : ROp) : BitVec 8 :=
  match op with
  | .add => 0x00 | .adds => 0x01 | .sub => 0x02 | .subs => 0x03 | .cmp => 0x04 | .neg => 0x05 | .negs => 0x06 | .abs => 0x07
  | .abss => 0x08 | .and => 0x10 | .or => 0x11 | .xor => 0x12 | .andn => 0x13 | .clz => 0x14
  | .shl => 0x20 | .shr => 0x21 | .sar => 0x22 | .sarr => 0x23 | .shls => 0x24 | .rot => 0x25
  | .min => 0x30 | .max => 0x31 | .minu => 0x32 | .maxu => 0x33 | .clamp => 0x34 | .mid3 => 0x38 | .mean2 => 0x39
  | .maj3 => 0x3A

def allR : List ROp :=
  [.add, .adds, .sub, .subs, .cmp, .neg, .negs, .abs, .abss, .and, .or, .xor, .andn, .clz, .shl, .shr, .sar, .sarr, .shls,
   .rot, .min, .max, .minu, .maxu, .clamp, .mid3, .mean2, .maj3]

/-- The OP 00h function of an FN. -/
def opR (fn : BitVec 8) : Option ROp := allR.find? fun o => fnR o == fn

/-- Major opcode of the I-format arithmetic. -/
def opI (op : IOp) : BitVec 6 :=
  match op with
  | .addi => 0x08 | .addis => 0x09 | .andi => 0x0A | .ori => 0x0B | .xori => 0x0C | .cmpi => 0x0D

def fnMul (op : MulOp) : BitVec 8 :=
  match op with
  | .mul => 0 | .muls => 1 | .mulw => 2 | .mulwu => 3 | .mulq => 4 | .mulqw => 5 | .madq => 6

def fnDiv (op : DivOp) : BitVec 8 :=
  match op with
  | .div => 0x08 | .divu => 0x09 | .divq => 0x0A

def fnCvt (op : CvtOp) : BitVec 8 :=
  match op with
  | .cvtqi => 0x10 | .cvtiq => 0x11

def fnAtom (op : AtomOp) : BitVec 8 :=
  match op with
  | .swap => 0 | .aadd => 1 | .cas => 2

/-! Formats (R92) -/

def regBits (r : GReg) : BitVec 5 := BitVec.ofFin r
def regOf (b : BitVec 5) : GReg := b.toFin

def fmtR (op : BitVec 6) (rd ra rb rc : GReg) (fn : BitVec 8) : Word :=
  op ++ (regBits rd ++ (regBits ra ++ (regBits rb ++ (regBits rc ++ ((0 : BitVec 2) ++ fn)))))

def fmtO (rd ra rb : GReg) (j : BitVec 4) (sz : BitVec 2) (sx : Bool) (fn : BitVec 8) : Word :=
  (0x03 : BitVec 6) ++ (regBits rd ++ (regBits ra ++ (regBits rb ++ (j ++ (sz ++ (BitVec.ofBool sx ++ fn))))))

def fmtI (op : BitVec 6) (rd ra : GReg) (imm : BitVec 20) : Word := op ++ (regBits rd ++ (regBits ra ++ imm))

def fmtU (op : BitVec 6) (rd : GReg) (imm : BitVec 25) : Word := op ++ (regBits rd ++ imm)

def fmtB (cond : BitVec 4) (off : BitVec 24) : Word := (0x18 : BitVec 6) ++ ((0 : BitVec 2) ++ (cond ++ off))

def fmtJ (off : BitVec 24) : Word := (0x19 : BitVec 6) ++ ((0 : BitVec 6) ++ off)

def fmtS (rd ra : GReg) (k : BitVec 6) (imm : BitVec 8) (sfn : BitVec 6) : Word :=
  (0x3F : BitVec 6) ++ (regBits rd ++ (regBits ra ++ (k ++ (imm ++ sfn))))

/-! The encoder -/

/-- The word of an instruction. The word of an undefined encoding is that of R94. -/
def encode (i : MInstr) : Word :=
  match i with
  | .rrr op rd ra rb rc => fmtR 0x00 rd ra rb rc (fnR op)
  | .rri op rd ra imm => fmtI (opI op) rd ra imm
  | .shi rd ra kind n => fmtI 0x0E rd ra (kind ++ ((0 : BitVec 11) ++ n))
  | .li rd imm => fmtU 0x10 rd imm
  | .lhi rd imm => fmtU 0x11 rd ((0 : BitVec 7) ++ imm)
  | .mul op rd ra rb rc => fmtR 0x01 rd ra rb rc (fnMul op)
  | .div op rd rc ra rb => fmtR 0x01 rd ra rb rc (fnDiv op)
  | .cvt op rd ra => fmtR 0x01 rd ra 0 0 (fnCvt op)
  | .ox rd ra j sz sx => fmtO rd ra 0 j sz sx 0
  | .oi rd rb j sz => fmtO rd 0 rb j sz false 1
  | .ld rd ra imm => fmtI 0x14 rd ra imm
  | .st rs ra imm => fmtI 0x15 rs ra imm
  | .ldp rd ra imm => fmtI 0x16 rd ra imm
  | .stp rs ra imm => fmtI 0x17 rs ra imm
  | .atom op rd ra rb rc => fmtR 0x04 rd ra rb rc (fnAtom op)
  | .bcond cond off => fmtB cond off
  | .call off => fmtJ off
  | .jr ra imm => fmtI 0x1A 0 ra imm
  | .callr ra imm => fmtI 0x1B 0 ra imm
  | .nop => fmtS 0 0 0 0 0x00
  | .fence => fmtS 0 0 0 0 0x01
  | .mfc rd k => fmtS rd 0 k 0 0x02
  | .mtc k ra => fmtS 0 ra k 0 0x03
  | .trap imm => fmtS 0 0 0 imm 0x04
  | .brk => fmtS 0 0 0 0 0x05
  | .tret => fmtS 0 0 0 0 0x06
  | .iret => fmtS 0 0 0 0 0x07
  | .wfi => fmtS 0 0 0 0 0x08
  | .waitf rd => fmtS rd 0 0 0 0x10
  | .xsub rd => fmtS rd 0 0 0 0x11
  | .split rd => fmtS rd 0 0 0 0x12
  | .join rd ra => fmtS rd ra 0 0 0x13
  | .hoist n => fmtS 0 0 0 n 0x14
  | .dip n => fmtS 0 0 0 n 0x15
  | .senter k => fmtS 0 0 k 0 0x18
  | .sexit => fmtS 0 0 0 0 0x19
  | .sexitz => fmtS 0 0 0 0 0x1A
  | .undef => 0xFFFFFFFFF

/-! The decoder (R93): an encoding with a non-zero unused field is undefined -/

def need (c : Bool) (i : MInstr) : MInstr := if c then i else .undef

def fRd (w : Word) : GReg := regOf (w.extractLsb' 25 5)
def fRa (w : Word) : GReg := regOf (w.extractLsb' 20 5)
def fRb (w : Word) : GReg := regOf (w.extractLsb' 15 5)
def fRc (w : Word) : GReg := regOf (w.extractLsb' 10 5)

def decodeR (w : Word) : MInstr :=
  match opR (w.extractLsb' 0 8) with
  | none => .undef
  | some op =>
    let i : MInstr := .rrr op (fRd w) (fRa w) (fRb w) (fRc w)
    need (decide (w.extractLsb' 8 2 = 0) && i.wf) i

def decodeMul (w : Word) : MInstr :=
  let i : MInstr :=
    match (w.extractLsb' 0 8).toNat with
    | 0x00 => .mul .mul (fRd w) (fRa w) (fRb w) (fRc w)
    | 0x01 => .mul .muls (fRd w) (fRa w) (fRb w) (fRc w)
    | 0x02 => .mul .mulw (fRd w) (fRa w) (fRb w) (fRc w)
    | 0x03 => .mul .mulwu (fRd w) (fRa w) (fRb w) (fRc w)
    | 0x04 => .mul .mulq (fRd w) (fRa w) (fRb w) (fRc w)
    | 0x05 => .mul .mulqw (fRd w) (fRa w) (fRb w) (fRc w)
    | 0x06 => .mul .madq (fRd w) (fRa w) (fRb w) (fRc w)
    | 0x08 => .div .div (fRd w) (fRc w) (fRa w) (fRb w)
    | 0x09 => .div .divu (fRd w) (fRc w) (fRa w) (fRb w)
    | 0x0A => .div .divq (fRd w) (fRc w) (fRa w) (fRb w)
    | 0x10 => need (decide (fRb w = 0) && decide (fRc w = 0)) (.cvt .cvtqi (fRd w) (fRa w))
    | 0x11 => need (decide (fRb w = 0) && decide (fRc w = 0)) (.cvt .cvtiq (fRd w) (fRa w))
    | _ => .undef
  need (decide (w.extractLsb' 8 2 = 0) && i.wf) i

def decodeO (w : Word) : MInstr :=
  let j := w.extractLsb' 11 4
  let sz := w.extractLsb' 9 2
  let sx := w.getLsbD 8
  match (w.extractLsb' 0 8).toNat with
  | 0 => need (decide (fRb w = 0)) (.ox (fRd w) (fRa w) j sz sx)
  | 1 => need (decide (fRa w = 0) && !sx) (.oi (fRd w) (fRb w) j sz)
  | _ => .undef

def decodeAtom (w : Word) : MInstr :=
  let i : MInstr :=
    match (w.extractLsb' 0 8).toNat with
    | 0 => .atom .swap (fRd w) (fRa w) (fRb w) (fRc w)
    | 1 => .atom .aadd (fRd w) (fRa w) (fRb w) (fRc w)
    | 2 => .atom .cas (fRd w) (fRa w) (fRb w) (fRc w)
    | _ => .undef
  need (decide (w.extractLsb' 8 2 = 0) && i.wf) i

def decodeS (w : Word) : MInstr :=
  let rd := fRd w
  let ra := fRa w
  let k := w.extractLsb' 14 6
  let imm := w.extractLsb' 6 8
  let d0 := decide (rd = 0)
  let a0 := decide (ra = 0)
  let k0 := decide (k = 0)
  let i0 := decide (imm = 0)
  let none_ := d0 && a0 && k0 && i0
  match (w.extractLsb' 0 6).toNat with
  | 0x00 => need none_ .nop
  | 0x01 => need none_ .fence
  | 0x02 => need (a0 && i0) (.mfc rd k)
  | 0x03 => need (d0 && i0) (.mtc k ra)
  | 0x04 => need (d0 && a0 && k0) (.trap imm)
  | 0x05 => need none_ .brk
  | 0x06 => need none_ .tret
  | 0x07 => need none_ .iret
  | 0x08 => need none_ .wfi
  | 0x10 => need (a0 && k0 && i0) (.waitf rd)
  | 0x11 => need (a0 && k0 && i0) (.xsub rd)
  | 0x12 => need (a0 && k0 && i0) (.split rd)
  | 0x13 => need (k0 && i0) (.join rd ra)
  | 0x14 => need (d0 && a0 && k0) (.hoist imm)
  | 0x15 => need (d0 && a0 && k0) (.dip imm)
  | 0x18 => need (d0 && a0 && i0) (.senter k)
  | 0x19 => need none_ .sexit
  | 0x1A => need none_ .sexitz
  | _ => .undef

/-- The instruction of a word (R91 to R94). -/
def decode (w : Word) : MInstr :=
  let rd := fRd w
  let ra := fRa w
  let imm := w.extractLsb' 0 20
  match (w.extractLsb' 30 6).toNat with
  | 0x00 => decodeR w
  | 0x01 => decodeMul w
  | 0x03 => decodeO w
  | 0x04 => decodeAtom w
  | 0x08 => .rri .addi rd ra imm
  | 0x09 => .rri .addis rd ra imm
  | 0x0A => .rri .andi rd ra imm
  | 0x0B => .rri .ori rd ra imm
  | 0x0C => .rri .xori rd ra imm
  | 0x0D => need (decide (rd = 0)) (.rri .cmpi rd ra imm)
  | 0x0E => need (decide (w.extractLsb' 6 11 = 0)) (.shi rd ra (w.extractLsb' 17 3) (w.extractLsb' 0 6))
  | 0x10 => .li rd (w.extractLsb' 0 25)
  | 0x11 => need (decide (w.extractLsb' 18 7 = 0)) (.lhi rd (w.extractLsb' 0 18))
  | 0x14 => .ld rd ra imm
  | 0x15 => .st rd ra imm
  | 0x16 => .ldp rd ra imm
  | 0x17 => .stp rd ra imm
  | 0x18 => need (decide (w.extractLsb' 28 2 = 0)) (.bcond (w.extractLsb' 24 4) (w.extractLsb' 0 24))
  | 0x19 => need (decide (w.extractLsb' 24 6 = 0)) (.call (w.extractLsb' 0 24))
  | 0x1A => need (decide (rd = 0)) (.jr ra imm)
  | 0x1B => need (decide (rd = 0)) (.callr ra imm)
  | 0x3F => decodeS w
  | _ => .undef

end Moagar

namespace Sdp

/-! The decoder of the SDP's instruction word (R338 to R343) -/

/-- A three-bit field. -/
def f3 (w : Word) (lo : Nat) : Fin 8 := (w.extractLsb' lo 3).toFin
/-- A two-bit field. -/
def f2 (w : Word) (lo : Nat) : Fin 4 := (w.extractLsb' lo 2).toFin
/-- Is a field of n bits from lo zero? -/
def zero (w : Word) (lo n : Nat) : Bool := decide (w.extractLsb' lo n = 0)
def num (w : Word) (lo n : Nat) : Nat := (w.extractLsb' lo n).toNat

/-- A move field (R333); none when it is undefined. DEDUCED: the other bits of a move that is not enabled are unused, so that they
must be 0. -/
def moveAt (w : Word) (lo : Nat) : Option (Option SMove) :=
  if w.getLsbD (lo + 8) then
    some (some { store := w.getLsbD (lo + 7), d := f3 w (lo + 4), i := f3 w (lo + 1), keep := w.getLsbD lo })
  else if zero w lo 9 then some none
  else none

/-- The element of a list that has a number. -/
def numbered {α : Type} (l : List α) (n : Nat) : Option α := l[n]?

/-- OP 0h (R339). -/
def decodeC (w : Word) : Option SInstr :=
  let t : BitVec 11 := w.extractLsb' 0 11
  let plain := fun (o : COp) => if t = 0 then some (SInstr.ctl o) else none
  if !zero w 11 17 then none
  else
    match num w 28 4 with
    | 0x0 => plain .nop
    | 0x1 => plain .halt
    | 0x2 => plain .wait
    | 0x3 => plain .rti
    | 0x4 => some (.jump .jmp t)
    | 0x5 => some (.jump .jz t)
    | 0x6 => some (.jump .jnz t)
    | 0x7 => some (.jump .jn t)
    | 0x8 => some (.jump .jnn t)
    | 0x9 => plain .sync
    | 0xA => if t.toNat < 4 then some (.jump .sig t) else none
    | 0xB => plain .xbank
    | _ => none

/-- OP 1h and 2h (R334). -/
def decodeR (w : Word) : Option SInstr :=
  let last : BitVec 11 := w.extractLsb' 21 11
  if !zero w 16 2 then none
  else if num w 32 4 = 1 then (if zero w 18 3 then some (.rep last (w.extractLsb' 0 16)) else none)
  else if zero w 0 16 then some (.repr last (f3 w 18))
  else none

/-- OP 3h and 4h (R340). -/
def decodeM (w : Word) : Option SInstr :=
  match numbered [MOp.mpy, .mac, .msu, .macsu] (num w 29 3), moveAt w 12, moveAt w 3 with
  | some op, some m0, some m1 =>
    let c := if num w 32 4 = 3 then SInstr.mac else SInstr.mac2
    if zero w 0 3 then some (c op (f2 w 27) (f3 w 24) (f3 w 21) m0 m1) else none
  | _, _, _ => none

/-- Accumulator instructions that name as, ds and n. -/
def AOp.usesAs (o : AOp) : Bool := [AOp.adda, .suba, .nega, .mova, .asha, .rsha, .cmpa].contains o
def AOp.usesDs (o : AOp) : Bool := [AOp.addq, .addi, .subq, .subi, .abit, .lda, .ldai].contains o
def AOp.usesN (o : AOp) : Bool := [AOp.asha, .rsha].contains o

/-- OP 5h (R341); n of RSHA is 1 to 255. -/
def decodeA (w : Word) : Option SInstr :=
  let ops : List AOp :=
    [.adda, .suba, .addq, .addi, .subq, .subi, .nega, .clra, .mova, .asha, .rsha, .abit, .lda, .ldai, .cmpa]
  match numbered ops (num w 27 5), moveAt w 0 with
  | some op, some mv =>
    if zero w 9 3 && (op.usesAs || zero w 23 2) && (op.usesDs || zero w 20 3) && (op.usesN || zero w 12 8)
        && (decide (op ≠ .rsha) || !zero w 12 8) then
      some (.acc op (f2 w 25) (f2 w 23) (f3 w 20) (w.extractLsb' 12 8) mv)
    else none
  | _, _ => none

/-- The XOP of a code (R342). -/
def opX : Nat → Option XOp
  | 0x00 => some .rnd | 0x01 => some .rndi | 0x02 => some .exh | 0x03 => some .exl | 0x04 => some .exg
  | 0x08 => some .add | 0x09 => some .adds | 0x0A => some .sub | 0x0B => some .subs
  | 0x0C => some .and | 0x0D => some .or | 0x0E => some .xor
  | 0x0F => some .shl | 0x10 => some .shr | 0x11 => some .sar | 0x12 => some .shlr | 0x13 => some .shrr
  | 0x14 => some .mov | 0x15 => some .cmp
  | _ => none

/-- Data instructions that name as, db and n; the extractions name no da, and CMP no dd. -/
def XOp.usesAs (o : XOp) : Bool := [XOp.rnd, .rndi, .exh, .exl, .exg].contains o
def XOp.usesDb (o : XOp) : Bool :=
  [XOp.add, .adds, .sub, .subs, .and, .or, .xor, .shlr, .shrr, .cmp].contains o
def XOp.usesN (o : XOp) : Bool := [XOp.shl, .shr, .sar].contains o

/-- OP 6h (R342); IMM6 is 0 to 35. -/
def decodeD (w : Word) : Option SInstr :=
  match opX (num w 27 5), moveAt w 0 with
  | some op, some mv =>
    if zero w 9 1 && (decide (op ≠ .cmp) || zero w 24 3) && (!op.usesAs || zero w 21 3) && (op.usesDb || zero w 18 3)
        && (op.usesAs || zero w 16 2) && (op.usesN || zero w 10 6) && decide (num w 10 6 ≤ 35) then
      some (.data op (f3 w 24) (f3 w 21) (f3 w 18) (f2 w 16) (w.extractLsb' 10 6) mv)
    else none
  | _, _ => none

/-- Address instructions that name ds or dd, and an immediate; bit 10 of it belongs to SETM alone. -/
def GOp.usesD (o : GOp) : Bool := [GOp.movi, .movm, .rdi, .rdm].contains o
def GOp.usesImm (o : GOp) : Bool := [GOp.seti, .setm, .setb, .setl].contains o

/-- OP Ah (R343). -/
def decodeG (w : Word) : Option SInstr :=
  match numbered [GOp.seti, .setm, .setb, .setl, .modi, .movi, .movm, .rdi, .rdm] (num w 28 4) with
  | some op =>
    if zero w 11 11 && (op.usesD || zero w 22 3) && (op.usesImm || zero w 0 11) && (decide (op = .setm) || zero w 10 1) then
      some (.idx op (f3 w 25) (f3 w 22) (w.extractLsb' 0 11))
    else none
  | none => none

/-- R331: two loads of one d register, two post-modifies of one index, or a load of the d register that the instruction itself
writes. -/
def movesClash (dd : Option (Fin 8)) (ms : List SMove) : Bool :=
  let loads := (ms.filter fun m => !m.store).map (·.d)
  let mods := (ms.filter fun m => !m.keep).map (·.i)
  !decide loads.Nodup || !decide mods.Nodup || (match dd with | some d => loads.contains d | none => false)

/-- The moves of an instruction, and the d register that it writes beside them. -/
def SInstr.moves (i : SInstr) : Option (Fin 8) × List SMove :=
  match i with
  | .mac _ _ _ _ m0 m1 | .mac2 _ _ _ _ m0 m1 => (none, m0.toList ++ m1.toList)
  | .acc op _ _ ds _ mv => (if op = .abit then some ds else none, mv.toList)
  | .data op dd _ _ _ _ mv => (if op = .cmp then none else some dd, mv.toList)
  | _ => (none, [])

/-- The fields of a word by its opcode. -/
def fields (w : Word) : Option SInstr :=
  match num w 32 4 with
  | 0x0 => decodeC w
  | 0x1 => decodeR w
  | 0x2 => decodeR w
  | 0x3 => decodeM w
  | 0x4 => decodeM w
  | 0x5 => decodeA w
  | 0x6 => decodeD w
  | 0x7 => if w.getLsbD 28 && !zero w 18 10 then none else some (.ldi (f3 w 29) (w.getLsbD 28) (w.extractLsb' 0 28))
  | 0x8 => if zero w 10 15 then some (.loc (w.getLsbD 31) (f3 w 28) (f3 w 25) (w.extractLsb' 0 10)) else none
  | 0x9 => if zero w 20 5 then some (.far (w.getLsbD 31) (f3 w 28) (f3 w 25) (w.extractLsb' 0 20)) else none
  | 0xA => decodeG w
  | _ => none

/-- The instruction of a word; none for an undefined encoding: an opcode or sub-opcode that is not listed, a field that must be 0
and is not, an immediate outside its range, or a case of R331 (R338). -/
def decode (w : Word) : Option SInstr :=
  match fields w with
  | some i => if movesClash i.moves.1 i.moves.2 then none else some i
  | none => none

end Sdp

end Sys2Proof
end

