-- ==== Sys2Proof/Machine/Sparse.lean ====
section
/-! DEFINITION. Sparse storage of words by address in one canonical form: addresses strictly rising, and no entry
equal to what an unlisted address reads as, so that equal contents are equal lists. -/

namespace Sys2Proof.Machine

/-- Words by address; what an unlisted address reads as is the reader's default. -/
abbrev Cells := List (Nat × Word)

namespace Sparse

/-- The word at an address. -/
def get (d : Nat → Word) : Cells → Nat → Word
  | [], a => d a
  | (b, x) :: r, a => if a = b then x else get d r a

/-- The cells with the word at `a` listed as `v`. -/
def ins : Cells → Nat → Word → Cells
  | [], a, v => [(a, v)]
  | (b, x) :: r, a, v =>
    if a < b then (a, v) :: (b, x) :: r
    else if a = b then (a, v) :: r
    else (b, x) :: ins r a v

/-- The cells with the word at `a` set to `v`; setting the default removes the entry. -/
def put (d : Nat → Word) (m : Cells) (a : Nat) (v : Word) : Cells :=
  if v = d a then m.filter fun c => c.1 != a else ins m a v

/-- Is the list in canonical form above the address `lo` (exclusive when it is given)? -/
def wfFrom (d : Nat → Word) : Option Nat → Cells → Bool
  | _, [] => true
  | lo, (b, x) :: r =>
    (match lo with | none => true | some l => decide (l < b)) && decide (x ≠ d b) && wfFrom d (some b) r

/-- The canonical form. -/
def wf (d : Nat → Word) (m : Cells) : Bool := wfFrom d none m

end Sparse

end Sys2Proof.Machine
end

