-- ==== Sys2Proof/Machine/StatePwm.lean ====
section
/-! DEFINITION. State of the PWM generators, the drive link, the chopper generator and the gate-drive die that no
register of the controller die shows (07, 08). -/

namespace Sys2Proof.Machine

/-- One edge packet (R239): execution time DTIME[19:0], gate states GH U, GL U, GH V, GL V, GH W, GL W from bit 5 down to
bit 0 (for the chopper, bit 5), RESUME and FIRST. -/
structure EdgePkt where
  etime : Nat
  gs : Nat
  resume : Bool
  first : Bool
deriving DecidableEq, Repr

/-- K symbols that begin the packets of the drive link (R237, R239, R245). -/
inductive KSym
  | k280 | k281 | k282 | k283 | k284 | k285 | k286 | k287 | k237
deriving DecidableEq, Repr

/-- A packet on the drive link: its K symbol and the octets after it, the CRC-8 last (R237). -/
structure LinkPkt where
  k : KSym
  octets : List (BitVec 8)
deriving DecidableEq, Repr

/-- One PWM bank (R222 to R230, R241). -/
structure PwmHidden where
  /-- No period has started since EN was set. -/
  fresh : Bool
  /-- The next period-start packet carries RESUME = 1 (R239, R250). -/
  resume : Bool
  /-- Value of the signal S of phases U, V, W at the end of the preceding period, and the counts it has held (R226). -/
  sVal : Vector Bool 3
  sAge : Vector Nat 3
  /-- Role of each phase in the running period: 0 PWM, 1 LOW, 2 HIGH, 3 FLOAT; it changed at the period start (R283). -/
  role : Vector Nat 3
  chg : Vector Bool 3
  /-- Gates of each phase at the end of the preceding period (high side bit 1, low side bit 0), and the counts for which its
  low side had then been on (R283, R292). -/
  lastG : Vector Nat 3
  lowAge : Vector Nat 3
  /-- DTIME of the last change of the trip state, and the counts for which the low sides had then been on (R292). -/
  tripD : DWord
  tripLow : Vector Nat 3
  /-- LTIME of the running period's start cycle (R291). -/
  startL : DWord
  /-- Active compare registers: CMP and FULL of phases U, V, W (R230). -/
  acmp : Vector (BitVec 21) 3
  /-- The running period is a refresh period (R228). -/
  refresh : Bool
  /-- DTIME of the running period's start cycle. -/
  startD : DWord
  /-- Slot and APER at the preceding frame start of a member; none before the first (R224). -/
  phased : Option (Nat × Nat)
  /-- The next period of bank 1 is the one that answers a stretched period of bank 0 (R221, R224). -/
  strNext : Bool
  /-- The bank has transferred in the open round (R231). -/
  done : Bool
  /-- Bank 0: the instant of LTIME from which the next period starts are counted: E0, or the last period start's own
  instant (R222). -/
  base : DWord
  /-- Bank 0: LTIME in the cycle of count APER − 1 of the running period (R224). -/
  ripe : Option DWord
  /-- Bank 1: it has started its period for the running period of bank 0 (R221). -/
  answered : Bool
deriving DecidableEq, Repr

/-- A configuration write (R239, R244): SPACE, offset, data, its SEQ once sent, repeats so far, DTIME at which it was last
sent. -/
structure CfgWrite where
  space : Nat
  off : Nat
  data : Word
  seq : Nat
  tries : Nat
  sentAt : DWord
deriving DecidableEq, Repr

/-- The controller's end of the drive link (R237 to R251). -/
structure DlkHidden where
  /-- Drive-link time (R238). -/
  dtime : DWord
  /-- Edge packets of bank 0, bank 1 and the chopper, in ETIME order (R241). -/
  edgeQ : Vector (List EdgePkt) 3
  /-- Trip packets to send: octet O1 (R239). -/
  tripQ : List Nat
  /-- Writes not yet sent; sent and not acknowledged, oldest first; pending safety-output commands, one per output. -/
  cfgQ : List CfgWrite
  cfgSent : List CfgWrite
  soPend : List (Nat × Bool)
  nextSeq : Nat
  /-- DTIME in the TSYNC on the link, and the DTIME from which the next one is due (R238, R241). -/
  tsync : Option DWord
  tsyncAt : DWord
  /-- DTIME at which transmission stopped; none since the lane reset (R250). -/
  stopAt : Option DWord
  /-- The last packet that each direction has carried; none is a line that has carried idles alone (R237). -/
  downLine : Option LinkPkt
  upLine : Option LinkPkt
  /-- The next training ends with the pattern held (R250). -/
  patNext : Bool
  /-- The upstream packets of the slot that have not arrived yet: SEQ and octets of the bitstream packet, the report vector,
  and a status packet (SPACE, offset, ACK, value). -/
  upBits : Option (Nat × List (BitVec 8))
  upEvent : Option Nat
  upStatus : List (Nat × Nat × Nat × Word)
deriving DecidableEq, Repr

/-- What a bank of the gate-drive die executes at a time: gate states; whether it is a turn-on that the command lockout
delayed (R258). -/
structure DieEdge where
  at_ : Nat
  gs : Nat
  delayed : Bool
deriving DecidableEq, Repr

/-- One bank of the gate-drive die (R240 to R244, R249, R258). -/
structure DieBank where
  /-- Gate states commanded now, GH U at bit 5 down to GL W at bit 0. -/
  gates : Nat
  /-- DTIME at which each gate last turned off and last turned on, gate bit 0 first. -/
  offAt : Vector (Option Nat) 6
  onAt : Vector (Option Nat) 6
  /-- Edge packets are accepted: no trip, pattern or disable since the last RESUME (R243). -/
  accept : Bool
  /-- A packet was discarded: all off until the next packet with FIRST (R244). -/
  discard : Bool
  sched : List DieEdge
deriving DecidableEq, Repr

/-- The gate-drive die (08). -/
structure DieHidden where
  /-- VGD has risen above its reset threshold (R547). -/
  powered : Bool
  /-- Its copy of DTIME (R238). -/
  dtime : DWord
  /-- Its registers, by the address of their image (R273). -/
  regs : Cells
  /-- Its copies of DLK_LLPAT and of the dead times (R243, R249). -/
  llpat : Nat
  dt : Vector Nat 2
  bank : Vector DieBank 2
  /-- Chopper gate and its scheduled states (R267). -/
  chop : Bool
  chopSched : List DieEdge
  /-- SEQ of the last applied write (R245). -/
  lastSeq : Nat
  /-- The link-loss pattern is held until LLREL (R250). -/
  patHeld : Bool
  /-- Commanded safety outputs, bit o output o (R375). -/
  soCmd : Nat
  /-- Registers (SPACE, offset) changed since their last transmission, and the round-robin index (R248). -/
  dirty : List (Nat × Nat)
  rr : Nat
  /-- The report vector has changed and waits for an event packet (R247). -/
  evDue : Bool
  /-- SEQ of the next bitstream packet. -/
  bitSeq : Nat
  /-- Claim lines observed asserted at the die, DTIME since which the condition of its shared-output gates holds, and
  whether they are enabled (R176, R177). -/
  gobs : Nat
  armAt : Option DWord
  shen : Bool
  /-- Levels of the safety-output pins (R375). -/
  pins : Nat
  /-- Late packets, code errors and CRC errors since the last report of them (R242, R244, R253). -/
  lateN : Nat
  codeN : Nat
  crcN : Nat
  /-- DTIME of the last valid TSYNC since the training, and how many in a row were more than 2 ns off (R249). -/
  tsAt : Option DWord
  tsBad : Nat
  /-- VMS in mV as last measured; DTIME and VMS at the turn-on of the chopper output, while it is on (R268). -/
  vms : Nat
  chopAt : Option (DWord × Nat)
  /-- DTIME at which each report bit was last set, and the bits that clear once they have been set for 400 ns (R261). -/
  rptAt : Vector DWord 24
  relDue : Nat
deriving DecidableEq, Repr

/-- The chopper generator (R267). -/
structure ChopHidden where
  /-- MINON has elapsed since the gate turned on. -/
  minDone : Bool
  /-- DTIME at which the gate turned on, and at which the rest interval began. -/
  onAt : DWord
  restAt : DWord
  /-- DTIME at which each matrix input was last forced (R266). -/
  emAt : Vector DWord 24
deriving DecidableEq, Repr

end Sys2Proof.Machine
end

