-- ==== Sys2Proof/Machine/DlkPacket.lean ====
section
/-! DEFINITION. The packets of the drive link as they go over the line: K symbol, octets and CRC-8 (R237, R239, R245). -/

namespace Sys2Proof.Machine

/-- One bit of the CRC-8: polynomial 2Fh. -/
def crc8Bit (c : BitVec 8) : BitVec 8 := if c.msb then (c <<< 1) ^^^ 0x2F else c <<< 1

/-- The CRC-8 of R237 over octets: initial FFh, final XOR FFh; the most significant bit of an octet goes first (PRESUMED:
the spec names no bit order). -/
def crc8 (l : List (BitVec 8)) : BitVec 8 :=
  ~~~(l.foldl (fun c o => (List.range 8).foldl (fun c _ => crc8Bit c) (c ^^^ o)) 0xFF)

/-- n octets of a number, the most significant first. -/
def pktOctets (n x : Nat) : List (BitVec 8) := (List.range n).map fun i => BitVec.ofNat 8 (x / 256 ^ (n - 1 - i))

/-- A packet of n octets and its CRC. -/
def linkPkt (k : KSym) (n x : Nat) : LinkPkt := ⟨k, pktOctets n x ++ [crc8 (pktOctets n x)]⟩

/-- Do the octets of a packet end with their CRC-8? -/
def LinkPkt.good (p : LinkPkt) : Bool := p.octets.getLast? == some (crc8 p.octets.dropLast)

/-- The symbol that a line carries first: of its packet, or K28.5 between packets. -/
def lineSymbol (p : Option LinkPkt) : KSym := match p with | some p => p.k | none => .k285

/-- An edge packet of bank 0, bank 1 or the chopper. -/
def edgePkt (q : Fin 3) (e : EdgePkt) : LinkPkt :=
  linkPkt (if q = 0 then .k281 else if q = 1 then .k282 else .k283) 4
    (e.gs % 2 ^ 6 * 2 ^ 26 + e.etime % 2 ^ 20 * 2 ^ 6 + (if e.resume then 2 ^ 5 else 0) + (if e.first then 2 ^ 4 else 0))

def tripPkt (o1 : Nat) : LinkPkt := linkPkt .k287 1 o1

/-- A packet that carries a register: offset, SPACE, SEQ or ACK, 36 bits of data. -/
def regPkt (k : KSym) (space off seq : Nat) (v : Word) : LinkPkt :=
  linkPkt k 6 (off % 2 ^ 8 * 2 ^ 40 + space % 2 * 2 ^ 39 + seq % 8 * 2 ^ 36 + v.toNat)

def cfgPkt (w : CfgWrite) : LinkPkt := regPkt .k284 w.space w.off w.seq w.data

def statusPkt (space off ack : Nat) (v : Word) : LinkPkt := regPkt .k284 space off ack v

def tsyncPkt (t : DWord) : LinkPkt := linkPkt .k280 3 (t.toNat % 2 ^ 24)

def helloPkt (vmaj vmin : BitVec 4) : LinkPkt := linkPkt .k237 1 (vmaj.toNat * 16 + vmin.toNat)

def bitPkt (seq : Nat) (os : List (BitVec 8)) : LinkPkt :=
  let l := BitVec.ofNat 8 seq :: (List.range 7).map fun i => os.getD i 0
  ⟨.k286, l ++ [crc8 l]⟩

def eventPkt (v : Nat) : LinkPkt := linkPkt .k283 3 v

end Sys2Proof.Machine
end

