-- ==== Sys2Proof/Config.lean ====
section
/-! DEFINITION. Values that the spec leaves open: constants with no body, so that no proof can see what they are. -/

namespace Sys2Proof.Config

/-- A free value: the k-th one that the machine takes. -/
opaque freeWord : Nat → Word

end Sys2Proof.Config
end

