-- ==== Sys2Proof/Machine/Bits.lean ====
section
/-! DEFINITION. Bit fields, sign and width conversions, saturation and rounding (R8, R46, R48, R49 to R51). -/

namespace Sys2Proof.Machine

/-- The field [lo + w - 1 : lo] of a word, as a number. -/
def getBits (x : Word) (lo w : Nat) : Nat := (x.toNat >>> lo) % 2 ^ w

/-- A word whose bits [lo + w - 1 : lo] are 1. -/
def maskBits (lo w : Nat) : Word := BitVec.ofNat 36 ((2 ^ w - 1) <<< lo)

/-- The word `x` with the field [lo + w - 1 : lo] set to the low w bits of `v`. -/
def putBits (x : Word) (lo w v : Nat) : Word :=
  (x &&& ~~~(maskBits lo w)) ||| BitVec.ofNat 36 ((v % 2 ^ w) <<< lo)

/-- Bit `i` of a word. -/
def bit (x : Word) (i : Nat) : Bool := x.getLsbD i

def b2n (b : Bool) : Nat := if b then 1 else 0

/-- The two's complement word of an integer: its low 36 bits (R49, wrapping). -/
def wrap36 (i : Int) : Word := BitVec.ofInt 36 i

/-- Limits of the I36 range, which are those of S36 as well (R46). -/
def i36Max : Int := 2 ^ 35 - 1
def i36Min : Int := -(2 ^ 35)

/-- Is an exact result outside the I36 range (R49)? -/
def satur (i : Int) : Bool := decide (i36Max < i) || decide (i < i36Min)

/-- The saturated value of an exact result (R49). -/
def sat36 (i : Int) : Int := if i36Max < i then i36Max else if i < i36Min then i36Min else i

/-- floor((x + 2^(n-1)) / 2^n), ties toward +infinity (R50, R51); x for n = 0. -/
def rnd (x : Int) (n : Nat) : Int :=
  if n = 0 then x else (x + 2 ^ (n - 1)) / 2 ^ n

/-- Quotient truncated toward zero (R52). -/
def truncDiv (a b : Int) : Int := Int.tdiv a b

/-- The 72 bits of a register pair: the even register high (R46, R48). -/
def pairNat (hi lo : Word) : Nat := hi.toNat * 2 ^ 36 + lo.toNat

/-- A number clamped at a counter's largest value: counters saturate there. -/
def satInc (x n : Nat) (w : Nat) : Nat := if x + n < 2 ^ w then x + n else 2 ^ w - 1

/-- Sign extension of a narrow field to a word. -/
def sext36 {n : Nat} (x : BitVec n) : Word := x.signExtend 36

def zext36 {n : Nat} (x : BitVec n) : Word := x.setWidth 36

/-- The number a w-bit two's complement field stands for. -/
def signedOf (w x : Nat) : Int :=
  if x % 2 ^ w < 2 ^ (w - 1) then (x % 2 ^ w : Nat) else ((x % 2 ^ w : Nat) : Int) - 2 ^ w

/-- The w-bit field of an integer, wrapping. -/
def fieldOf (w : Nat) (i : Int) : Nat := (i % (2 ^ w : Nat)).toNat

/-- Number of one bits among the low n bits. -/
def popNat : Nat → Nat → Nat
  | 0, _ => 0
  | n + 1, x => x % 2 + popNat n (x / 2)

end Sys2Proof.Machine
end

