-- ==== Sys2Proof/Machine/RegMap.lean ====
section
/-! DEFINITION. The register map of the lane: one named address per register of the spec's register tables
(R87, R158, R189, R191, R217, R219, R252, R253, R273, R274, R295 to R297, R323, R345, R370, R372, R395, R427,
R428, R453, R480, R481, R502 to R504, R535 to R538), at the block bases of R39. -/

namespace Sys2Proof.Machine.R

/-- R87 INT+0h: configuration of source n at offset n. -/
def INT_CFG (i : Nat) : Nat := 0x852000 + i
/-- R87 INT+100h: pending bits, 32 sources per word. -/
def INT_PEND (i : Nat) : Nat := 0x852100 + i
/-- R87 INT+110h: software interrupt request. -/
def INT_SWI : Nat := 0x852110
/-- R87 INT+120h: highest pending source of target 0–4. -/
def INT_TOP (i : Nat) : Nat := 0x852120 + i
/-- R87 INT+130h: count of arbitration cycles in which a pending source was held by TH or SEC. -/
def INT_HOLDCNT : Nat := 0x852130
/-- R158 XLA+0h: enable and join options. -/
def XLA_CTRL : Nat := 0x811000
/-- R158 XLA+1h: phase and configuration state. -/
def XLA_STAT : Nat := 0x811001
/-- R158 XLA+2h: frame length. -/
def XLA_TFRAME : Nat := 0x811002
/-- R158 XLA+3h: output deadline. -/
def XLA_ODL : Nat := 0x811003
/-- R158 XLA+4h: acceptance half-window. -/
def XLA_WIN : Nat := 0x811004
/-- R158 XLA+5h: set version and lengths. -/
def XLA_SET : Nat := 0x811005
/-- R158 XLA+6h: agreed vector area. -/
def XLA_AGBASE : Nat := 0x811006
/-- R158 XLA+7h: output area. -/
def XLA_OSBASE : Nat := 0x811007
/-- R158 XLA+8h: mirrored state base. -/
def XLA_MBASE : Nat := 0x811008
/-- R158 XLA+9h: mirror size and limits. -/
def XLA_MCFG : Nat := 0x811009
/-- R158 XLA+Ah: withdrawn state per bank. -/
def XLA_WCFG : Nat := 0x81100a
/-- R158 XLA+Bh: commands. -/
def XLA_CMD : Nat := 0x81100b
/-- R158 XLA+Ch: membership. -/
def XLA_MEMB : Nat := 0x81100c
/-- R158 XLA+Dh: last vote. -/
def XLA_VOTE : Nat := 0x81100d
/-- R158 XLA+Eh: committed buffer. -/
def XLA_COMMIT : Nat := 0x81100e
/-- R158 XLA+Fh: resynchronisation state. -/
def XLA_RSTAT : Nat := 0x81100f
/-- R158 XLA+10h: resynchronisation events. -/
def XLA_RSCNT : Nat := 0x811010
/-- R158 XLA+11h: key block. -/
def XLA_KEYSTAT : Nat := 0x811011
/-- R158 XLA+12h: link delays. -/
def XLA_LDLY : Nat := 0x811012
/-- R158 XLA+13h: time offset of lane A, B, C. -/
def XLA_TOFF (i : Nat) : Nat := 0x811013 + i
/-- R158 XLA+16h: release and vote times. -/
def XLA_TREL : Nat := 0x811016
/-- R158 XLA+17h: repeated WLOST writes. -/
def XLA_WLCNT : Nat := 0x811017
/-- R158 XLA+18h: deviation counts per lane. -/
def XLA_DEV (i : Nat) : Nat := 0x811018 + i
/-- R158 XLA+20h: error counters per lane. -/
def XLA_ERR1 (i : Nat) : Nat := 0x811020 + i
/-- R158 XLA+24h: error counters per lane. -/
def XLA_ERR2 (i : Nat) : Nat := 0x811024 + i
/-- R158 XLA+40h: input descriptors. -/
def XLA_IDSC (i : Nat) : Nat := 0x811040 + i
/-- R158 XLA+60h: qualifiers. -/
def XLA_IQUAL (i : Nat) : Nat := 0x811060 + i
/-- R158 XLA+80h: tolerance or default. -/
def XLA_IPAR (i : Nat) : Nat := 0x811080 + i
/-- R189 HAL+0h: claim mode, isolation period. -/
def HAL_CTRL : Nat := 0x812000
/-- R189 HAL+1h: halyard and ensign. -/
def HAL_STAT : Nat := 0x812001
/-- R189 HAL+2h: claim and SAFE commands. -/
def HAL_CMD : Nat := 0x812002
/-- R189 HAL+3h: lane and redundancy states. -/
def HAL_RSTAT : Nat := 0x812003
/-- R189 HAL+4h: authority and limp time. -/
def HAL_HMCFG : Nat := 0x812004
/-- R189 HAL+5h: classes that end half-mast. -/
def HAL_DIAGMASK : Nat := 0x812005
/-- R189 HAL+6h: safe action per bank. -/
def HAL_SAFECFG : Nat := 0x812006
/-- R189 HAL+7h: release reference, bank 0 and 1. -/
def HAL_REL (i : Nat) : Nat := 0x812007 + i
/-- R189 HAL+9h: limp timer. -/
def HAL_LIMP : Nat := 0x812009
/-- R189 HAL+Ah: contentions. -/
def HAL_CCNT : Nat := 0x81200a
/-- R189 HAL+Bh: ensign gains under R182, counted in the cycle of the gain, with source 33. -/
def HAL_HOCNT : Nat := 0x81200b
/-- R191 FLT+0h: bunting. -/
def FLT_BUNT (i : Nat) : Nat := 0x813000 + i
/-- R191 FLT+4h: interrupt mask per flag. -/
def FLT_IRQM (i : Nat) : Nat := 0x813004 + i
/-- R191 FLT+8h: log mask per flag. -/
def FLT_LOGM (i : Nat) : Nat := 0x813008 + i
/-- R191 FLT+Ch: classes in the summary. -/
def FLT_SUMMASK : Nat := 0x81300c
/-- R191 FLT+Dh: class of each software flag. -/
def FLT_SWCLS : Nat := 0x81300d
/-- R191 FLT+Eh: fault summary. -/
def FLT_SUM : Nat := 0x81300e
/-- R191 FLT+10h: counter flag selection. -/
def FLT_CNTSEL (i : Nat) : Nat := 0x813010 + i
/-- R191 FLT+18h: hoist-event counters. -/
def FLT_CNT (i : Nat) : Nat := 0x813018 + i
/-- R191 FLT+20h: log base in MRAM. -/
def FLT_LOGBASE : Nat := 0x813020
/-- R191 FLT+21h: log enable and size. -/
def FLT_LOGCFG : Nat := 0x813021
/-- R191 FLT+22h: next sequence number. -/
def FLT_LOGHEAD : Nat := 0x813022
/-- R191 FLT+23h: entries lost. -/
def FLT_LOGDROP : Nat := 0x813023
/-- R217 LSC+0h: single-core use, P1 restart. -/
def LSC_CTRL : Nat := 0x810000
/-- R217 LSC+1h: pair states, safety pair. -/
def LSC_STAT : Nat := 0x810001
/-- R217 LSC+2h: commands for P1. -/
def LSC_CMD : Nat := 0x810002
/-- R217 LSC+3h: restart address of the safety software. -/
def LSC_RENTRY (p : Nat) : Nat := 0x810003 + p
/-- R217 LSC+5h: last mismatch of P0, P1. -/
def LSC_MM (i : Nat) : Nat := 0x810005 + i
/-- R217 LSC+7h: last verdicts. -/
def LSC_VERD : Nat := 0x810007
/-- R217 LSC+8h: verdict-1 count this power cycle. -/
def LSC_TCNT : Nat := 0x810008
/-- R217 LSC+9h: mismatch counts. -/
def LSC_MMCNT : Nat := 0x810009
/-- R217 LSC+Ah: injection test results. -/
def LSC_INJL (p : Nat) : Nat := 0x81000a + 0x2 * p
/-- R217 LSC+Bh: injection test results. -/
def LSC_INJH (p : Nat) : Nat := 0x81000b + 0x2 * p
/-- R217 LSC+Eh: core health. -/
def LSC_CORES : Nat := 0x81000e
/-- R219 DBG+0h: port and attach state. -/
def DBG_STAT : Nat := 0x853000
/-- R252 PWM0+0h: enable. -/
def PWM_CTRL (n : Nat) : Nat := 0x820000 + 0x1000 * n
/-- R252 PWM0+1h: state. -/
def PWM_STAT (n : Nat) : Nat := 0x820001 + 0x1000 * n
/-- R252 PWM0+2h: period shadow. -/
def PWM_PER (n : Nat) : Nat := 0x820002 + 0x1000 * n
/-- R252 PWM0+3h: bank 1 offset. -/
def PWM_OFS (n : Nat) : Nat := 0x820003 + 0x1000 * n
/-- R252 PWM0+4h: dead time. -/
def PWM_DT (n : Nat) : Nat := 0x820004 + 0x1000 * n
/-- R252 PWM0+5h: minimum on and off time. -/
def PWM_LIM (n : Nat) : Nat := 0x820005 + 0x1000 * n
/-- R252 PWM0+6h: bootstrap refresh. -/
def PWM_RFR (n : Nat) : Nat := 0x820006 + 0x1000 * n
/-- R252 PWM0+8h: compare shadows. -/
def PWM_CMP (n : Nat) (i : Nat) : Nat := 0x820008 + 0x1000 * n + i
/-- R252 PWM0+Bh: invert and swap shadow. -/
def PWM_OVR (n : Nat) : Nat := 0x82000b + 0x1000 * n
/-- R252 PWM0+Ch: active period. -/
def PWM_APER (n : Nat) : Nat := 0x82000c + 0x1000 * n
/-- R252 PWM0+Dh: effective compares. -/
def PWM_ECMP (n : Nat) (i : Nat) : Nat := 0x82000d + 0x1000 * n + i
/-- R252 PWM0+10h: active invert and swap. -/
def PWM_AOVR (n : Nat) : Nat := 0x820010 + 0x1000 * n
/-- R252 PWM0+11h: counter. -/
def PWM_CNT (n : Nat) : Nat := 0x820011 + 0x1000 * n
/-- R252 PWM0+12h: LOADALL round. -/
def PWM_LOAD : Nat := 0x820012
/-- R252 PWM0+13h: trip sources. -/
def PWM_TRIP (n : Nat) : Nat := 0x820013 + 0x1000 * n
/-- R252 PWM0+14h: software trips. -/
def PWM_CMD (n : Nat) : Nat := 0x820014 + 0x1000 * n
/-- R252 PWM0+15h: LTIME of the last period start. -/
def PWM_PSTART (n : Nat) : Nat := 0x820015 + 0x1000 * n
/-- R252 PWM0+16h: compare clamps. -/
def PWM_CLCNT (n : Nat) : Nat := 0x820016 + 0x1000 * n
/-- R253 DLK+0h: enable. -/
def DLK_CTRL : Nat := 0x822000
/-- R253 DLK+1h: link state and version. -/
def DLK_STAT : Nat := 0x822001
/-- R253 DLK+2h: link-loss pattern. -/
def DLK_LLPAT : Nat := 0x822002
/-- R253 DLK+3h: ETIME trims. -/
def DLK_TRIM : Nat := 0x822003
/-- R253 DLK+4h: link delay. -/
def DLK_LDLY : Nat := 0x822004
/-- R253 DLK+5h: commands. -/
def DLK_CMD : Nat := 0x822005
/-- R253 DLK+6h: configuration queue. -/
def DLK_CFGQ : Nat := 0x822006
/-- R253 DLK+8h: errors. -/
def DLK_ERRCNT : Nat := 0x822008
/-- R253 DLK+9h: link-loss events. -/
def DLK_LLCNT : Nat := 0x822009
/-- R253 DLK+Ah: late edge packets. -/
def DLK_LATE : Nat := 0x82200a
/-- R273 GDC+0h: output enables. -/
def GDC_CTRL : Nat := 0x823000
/-- R273 GDC+1h: die state. -/
def GDC_STAT : Nat := 0x823001
/-- R273 GDC+2h: drive strength, bank 0 and 1. -/
def GDC_DRV (i : Nat) : Nat := 0x823002 + i
/-- R273 GDC+4h: drive strength, chopper. -/
def GDC_DRVCH : Nat := 0x823004
/-- R273 GDC+5h: command lockout gap. -/
def GDC_LOCK : Nat := 0x823005
/-- R273 GDC+6h: desaturation, bank 0 and 1. -/
def GDC_DESAT (i : Nat) : Nat := 0x823006 + i
/-- R273 GDC+8h: overcurrent. -/
def GDC_OCP : Nat := 0x823008
/-- R273 GDC+9h: over-voltage. -/
def GDC_OV : Nat := 0x823009
/-- R273 GDC+Ah: undervoltage. -/
def GDC_UV : Nat := 0x82300a
/-- R273 GDC+Bh: chopper thresholds. -/
def GDC_CHOP : Nat := 0x82300b
/-- R273 GDC+Ch: temperature warning. -/
def GDC_TEMP : Nat := 0x82300c
/-- R273 GDC+Dh: trickle pumps. -/
def GDC_PUMP : Nat := 0x82300d
/-- R273 GDC+10h: report vector. -/
def GDC_RPT : Nat := 0x823010
/-- R273 GDC+11h: latched reports. -/
def GDC_LATCH : Nat := 0x823011
/-- R273 GDC+12h: bootstrap per phase. -/
def GDC_BSTAT : Nat := 0x823012
/-- R273 GDC+13h: command lockout events. -/
def GDC_XC : Nat := 0x823013
/-- R273 GDC+14h: motor-bus voltage. -/
def GDC_VBUS : Nat := 0x823014
/-- R273 GDC+15h: gate supply voltage. -/
def GDC_VGD : Nat := 0x823015
/-- R273 GDC+16h: die temperature. -/
def GDC_TDIE : Nat := 0x823016
/-- R273 GDC+17h: die identity. -/
def GDC_VER : Nat := 0x823017
/-- R273 GDC+18h: overlap refusals. -/
def GDC_XCCNT : Nat := 0x823018
/-- R273 GDC+19h: desaturation reports. -/
def GDC_DSCNT : Nat := 0x823019
/-- R274 SYS+100h: routing of report bit n. -/
def SYS_EMRT (i : Nat) : Nat := 0x800100 + i
/-- R274 SYS+118h: forced matrix inputs. -/
def SYS_EMTEST : Nat := 0x800118
/-- R274 SYS+119h: matrix inputs now. -/
def SYS_EMSTAT : Nat := 0x800119
/-- R274 SYS+11Ah: chopper generator. -/
def SYS_CHCFG : Nat := 0x80011a
/-- R274 SYS+11Bh: chopper state. -/
def SYS_CHSTAT : Nat := 0x80011b
/-- R274 SYS+11Ch: chopper turn-ons. -/
def SYS_CHCNT : Nat := 0x80011c
/-- R295 COM+0h: mode. -/
def COM_MODE (n : Nat) : Nat := 0x826000 + 0x20 * n
/-- R295 COM+1h: phase, catch, sector, angle valid. -/
def COM_STAT (n : Nat) : Nat := 0x826001 + 0x20 * n
/-- R295 COM+2h: angle source. -/
def COM_ACFG (n : Nat) : Nat := 0x826002 + 0x20 * n
/-- R295 COM+3h: counts per revolution. -/
def COM_CPR (n : Nat) : Nat := 0x826003 + 0x20 * n
/-- R295 COM+4h: position at angle 0. -/
def COM_ZERO (n : Nat) : Nat := 0x826004 + 0x20 * n
/-- R295 COM+5h: software angle. -/
def COM_SWANG (n : Nat) : Nat := 0x826005 + 0x20 * n
/-- R295 COM+6h: electrical angle. -/
def COM_ANG (n : Nat) : Nat := 0x826006 + 0x20 * n
/-- R295 COM+7h: angle timestamp. -/
def COM_ATS (n : Nat) : Nat := 0x826007 + 0x20 * n
/-- R295 COM+8h: six-step and start. -/
def COM_SS (n : Nat) : Nat := 0x826008 + 0x20 * n
/-- R295 COM+9h: locked rotor. -/
def COM_LOCK (n : Nat) : Nat := 0x826009 + 0x20 * n
/-- R295 COM+Ah: locked-rotor current. -/
def COM_LOCKI (n : Nat) : Nat := 0x82600a + 0x20 * n
/-- R295 COM+Bh: short configuration. -/
def COM_SHORT (n : Nat) : Nat := 0x82600b + 0x20 * n
/-- R295 COM+Ch: fall-backs. -/
def COM_FBCNT (n : Nat) : Nat := 0x82600c + 0x20 * n
/-- R296 HALL+0h: enables, filter, timeout. -/
def HALL_CTRL : Nat := 0x832000
/-- R296 HALL+1h: state-to-sector map. -/
def HALL_MAP (i : Nat) : Nat := 0x832001 + i
/-- R296 HALL+3h: states, direction. -/
def HALL_STAT (i : Nat) : Nat := 0x832003 + i
/-- R296 HALL+5h: last edge time. -/
def HALL_TEDGE (i : Nat) : Nat := 0x832005 + i
/-- R296 HALL+7h: sector interval. -/
def HALL_TSEC (i : Nat) : Nat := 0x832007 + i
/-- R296 HALL+9h: error counts. -/
def HALL_ERR (i : Nat) : Nat := 0x832009 + i
/-- R297 ISN+0h: enables. -/
def ISN_CTRL : Nat := 0x827000
/-- R297 ISN+2h: oversampling and anchor per bank. -/
def ISN_CFG (i : Nat) : Nat := 0x827002 + i
/-- R297 ISN+10h: gain per channel. -/
def ISN_GAIN (i : Nat) : Nat := 0x827010 + i
/-- R297 ISN+18h: offset per channel. -/
def ISN_OFFS (i : Nat) : Nat := 0x827018 + i
/-- R297 ISN+1Fh: bus voltage scale. -/
def ISN_VGAIN : Nat := 0x82701f
/-- R297 ISN+20h: bank 0 currents. -/
def ISN_IU (n : Nat) : Nat := 0x827020 + 0x8 * n
/-- R297 ISN+21h: bank 0 currents. -/
def ISN_IV (n : Nat) : Nat := 0x827021 + 0x8 * n
/-- R297 ISN+22h: bank 0 currents. -/
def ISN_IW (n : Nat) : Nat := 0x827022 + 0x8 * n
/-- R297 ISN+23h: bank 0 timestamp. -/
def ISN_TS (n : Nat) : Nat := 0x827023 + 0x8 * n
/-- R297 ISN+24h: bank 0 quality. -/
def ISN_QUAL (n : Nat) : Nat := 0x827024 + 0x8 * n
/-- R297 ISN+30h: bus current. -/
def ISN_IBUS : Nat := 0x827030
/-- R297 ISN+31h: its timestamp. -/
def ISN_TSB : Nat := 0x827031
/-- R297 ISN+32h: its quality. -/
def ISN_QUALB : Nat := 0x827032
/-- R297 ISN+34h: bus voltage. -/
def ISN_VBUS : Nat := 0x827034
/-- R297 ISN+38h: channels with missing bits. -/
def ISN_MISS : Nat := 0x827038
/-- R297 ISN+39h: reconstructions. -/
def ISN_REC : Nat := 0x827039
/-- R297 ISN+3Ah: stale samples. -/
def ISN_STALE : Nat := 0x82703a
/-- R297 ISN+40h: raw bitstream. -/
def ISN_RAW (i : Nat) : Nat := 0x827040 + i
/-- R323 FCE0+0h: enable, trigger, regenerative clamp. -/
def FCE_CTRL (n : Nat) : Nat := 0x824000 + 0x1000 * n
/-- R323 FCE0+1h: run, hand-over and image state. -/
def FCE_STAT (n : Nat) : Nat := 0x824001 + 0x1000 * n
/-- R323 FCE0+2h: class, mode word, limits. -/
def FCE_CFG (n : Nat) : Nat := 0x824002 + 0x1000 * n
/-- R323 FCE0+3h: image address. -/
def FCE_IMGBASE (n : Nat) : Nat := 0x824003 + 0x1000 * n
/-- R323 FCE0+4h: load. -/
def FCE_CMD (n : Nat) : Nat := 0x824004 + 0x1000 * n
/-- R323 FCE0+5h: hand-over frames. -/
def FCE_HOCFG (n : Nat) : Nat := 0x824005 + 0x1000 * n
/-- R323 FCE0+6h: hand-over tolerance. -/
def FCE_HOTOL (n : Nat) : Nat := 0x824006 + 0x1000 * n
/-- R323 FCE0+7h: minimum bus. -/
def FCE_VBMIN (n : Nat) : Nat := 0x824007 + 0x1000 * n
/-- R323 FCE0+8h: run record ring. -/
def FCE_RCFG (n : Nat) : Nat := 0x824008 + 0x1000 * n
/-- R323 FCE0+10h: integrators. -/
def FCE_INTG (n : Nat) (i : Nat) : Nat := 0x824010 + 0x1000 * n + i
/-- R323 FCE0+14h: last run. -/
def FCE_ID (n : Nat) : Nat := 0x824014 + 0x1000 * n
/-- R323 FCE0+15h: last run. -/
def FCE_IQ (n : Nat) : Nat := 0x824015 + 0x1000 * n
/-- R323 FCE0+16h: last run. -/
def FCE_VD (n : Nat) : Nat := 0x824016 + 0x1000 * n
/-- R323 FCE0+17h: last run. -/
def FCE_VQ (n : Nat) : Nat := 0x824017 + 0x1000 * n
/-- R323 FCE0+18h: output angle. -/
def FCE_THO (n : Nat) : Nat := 0x824018 + 0x1000 * n
/-- R323 FCE0+19h: sample timestamp. -/
def FCE_OTS (n : Nat) : Nat := 0x824019 + 0x1000 * n
/-- R323 FCE0+1Ah: latency and age. -/
def FCE_OLAT (n : Nat) : Nat := 0x82401a + 0x1000 * n
/-- R323 FCE0+1Bh: region and gain set. -/
def FCE_REGN (n : Nat) : Nat := 0x82401b + 0x1000 * n
/-- R323 FCE0+1Ch: skipped runs. -/
def FCE_SKCNT (n : Nat) : Nat := 0x82401c + 0x1000 * n
/-- R323 FCE0+1Dh: lost triggers. -/
def FCE_OVRCNT (n : Nat) : Nat := 0x82401d + 0x1000 * n
/-- R323 FCE0+1Eh: largest latency. -/
def FCE_LATMAX (n : Nat) : Nat := 0x82401e + 0x1000 * n
/-- R345 SDP+0h: run, fast interrupt, class. -/
def SDP_CTRL : Nat := 0x850000
/-- R345 SDP+1h: state and halt record. -/
def SDP_STAT : Nat := 0x850001
/-- R345 SDP+2h: start address. -/
def SDP_ENTRY : Nat := 0x850002
/-- R345 SDP+3h: fast-interrupt address. -/
def SDP_FIVEC : Nat := 0x850003
/-- R345 SDP+4h: clear. -/
def SDP_CMD : Nat := 0x850004
/-- R345 SDP+5h: timer. -/
def SDP_TMR : Nat := 0x850005
/-- R345 SDP+6h: sticky saturation. -/
def SDP_OVF : Nat := 0x850006
/-- R345 SDP+7h: lost MAC results. -/
def SDP_HAZCNT : Nat := 0x850007
/-- R345 SDP+8h: mailboxes. -/
def SDP_MBX (i : Nat) : Nat := 0x850008 + i
/-- R345 SDP+400h: X memory (R326). -/
def SDP_XMEM (i : Nat) : Nat := 0x850400 + i
/-- R345 SDP+600h: Y memory. -/
def SDP_YMEM (i : Nat) : Nat := 0x850600 + i
/-- R345 SDP+800h: program memory. -/
def SDP_PMEM (i : Nat) : Nat := 0x850800 + i
/-- R370 QEP0+0h: enable, mode, filter, index. -/
def QEP_CTRL (n : Nat) : Nat := 0x830000 + 0x1000 * n
/-- R370 QEP0+1h: direction, speed valid, wire. -/
def QEP_STAT (n : Nat) : Nat := 0x830001 + 0x1000 * n
/-- R370 QEP0+2h: event flags. -/
def QEP_FLG (n : Nat) : Nat := 0x830002 + 0x1000 * n
/-- R370 QEP0+3h: position counter. -/
def QEP_POS (n : Nat) : Nat := 0x830003 + 0x1000 * n
/-- R370 QEP0+4h: time of the last counted edge. -/
def QEP_TEDGE (n : Nat) : Nat := 0x830004 + 0x1000 * n
/-- R370 QEP0+5h: speed. -/
def QEP_SPD (n : Nat) : Nat := 0x830005 + 0x1000 * n
/-- R370 QEP0+6h: interval of the last speed. -/
def QEP_PER (n : Nat) : Nat := 0x830006 + 0x1000 * n
/-- R370 QEP0+7h: speed configuration. -/
def QEP_SPCFG (n : Nat) : Nat := 0x830007 + 0x1000 * n
/-- R370 QEP0+8h: counts per revolution. -/
def QEP_CPR (n : Nat) : Nat := 0x830008 + 0x1000 * n
/-- R370 QEP0+9h: drift tolerance. -/
def QEP_DTOL (n : Nat) : Nat := 0x830009 + 0x1000 * n
/-- R370 QEP0+Ah: index latch. -/
def QEP_ILATCH (n : Nat) : Nat := 0x83000a + 0x1000 * n
/-- R370 QEP0+Bh: previous index latch. -/
def QEP_ILPREV (n : Nat) : Nat := 0x83000b + 0x1000 * n
/-- R370 QEP0+Ch: index time. -/
def QEP_ITS (n : Nat) : Nat := 0x83000c + 0x1000 * n
/-- R370 QEP0+Dh: compare value. -/
def QEP_CMP (n : Nat) : Nat := 0x83000d + 0x1000 * n
/-- R370 QEP0+Eh: compare configuration. -/
def QEP_CMPCFG (n : Nat) : Nat := 0x83000e + 0x1000 * n
/-- R370 QEP0+Fh: time of the last hit. -/
def QEP_CTS (n : Nat) : Nat := 0x83000f + 0x1000 * n
/-- R370 QEP0+10h: output ratio. -/
def QEP_DIV (n : Nat) : Nat := 0x830010 + 0x1000 * n
/-- R370 QEP0+11h: divided output. -/
def QEP_DOCTL (n : Nat) : Nat := 0x830011 + 0x1000 * n
/-- R370 QEP0+12h: wire checks. -/
def QEP_WCFG (n : Nat) : Nat := 0x830012 + 0x1000 * n
/-- R370 QEP0+13h: error counts. -/
def QEP_ERR (n : Nat) : Nat := 0x830013 + 0x1000 * n
/-- R370 QEP0+14h: snapshot position. -/
def QEP_SPOS (n : Nat) : Nat := 0x830014 + 0x1000 * n
/-- R370 QEP0+15h: snapshot edge time. -/
def QEP_STS (n : Nat) : Nat := 0x830015 + 0x1000 * n
/-- R370 QEP0+16h: snapshot speed. -/
def QEP_SSPD (n : Nat) : Nat := 0x830016 + 0x1000 * n
/-- R370 QEP0+17h: snapshot status. -/
def QEP_SSTAT (n : Nat) : Nat := 0x830017 + 0x1000 * n
/-- R372 SENT+0h: sensor supply enables. -/
def SENT_SUPCTRL : Nat := 0x833000
/-- R372 SENT+1h: sensor supply states. -/
def SENT_SUPSTAT : Nat := 0x833001
/-- R372 SENT+2h: sensor supply faults. -/
def SENT_SUPCNT : Nat := 0x833002
/-- R372 SENT+10h: receiver configuration. -/
def SENT_CFG (n : Nat) : Nat := 0x833010 + 0x10 * n
/-- R372 SENT+11h: receiver state. -/
def SENT_STAT (n : Nat) : Nat := 0x833011 + 0x10 * n
/-- R372 SENT+12h: fast channel 1. -/
def SENT_FC (n : Nat) : Nat := 0x833012 + 0x10 * n
/-- R372 SENT+13h: fast channel 2. -/
def SENT_FC2 (n : Nat) : Nat := 0x833013 + 0x10 * n
/-- R372 SENT+14h: frame timestamp. -/
def SENT_TS (n : Nat) : Nat := 0x833014 + 0x10 * n
/-- R372 SENT+15h: measured tick. -/
def SENT_TICK (n : Nat) : Nat := 0x833015 + 0x10 * n
/-- R372 SENT+16h: serial message. -/
def SENT_SM (n : Nat) : Nat := 0x833016 + 0x10 * n
/-- R372 SENT+17h: error counts. -/
def SENT_ERR (n : Nat) : Nat := 0x833017 + 0x10 * n
/-- R372 SENT+18h: snapshot value. -/
def SENT_SFC (n : Nat) : Nat := 0x833018 + 0x10 * n
/-- R372 SENT+19h: snapshot age. -/
def SENT_SAGE (n : Nat) : Nat := 0x833019 + 0x10 * n
/-- R395 SIO+0h: enables. -/
def SIO_CTRL : Nat := 0x834000
/-- R395 SIO+1h: configuration and straps. -/
def SIO_STAT : Nat := 0x834001
/-- R395 SIO+2h: pair results of the latest tick. -/
def SIO_IRES : Nat := 0x834002
/-- R395 SIO+3h: channel values and masks. -/
def SIO_ICH : Nat := 0x834003
/-- R395 SIO+4h: snapshot of SIO_IRES (R23). -/
def SIO_SRES : Nat := 0x834004
/-- R395 SIO+5h: outputs. -/
def SIO_OSTAT : Nat := 0x834005
/-- R395 SIO+6h: test-pulse outputs. -/
def SIO_TPSTAT : Nat := 0x834006
/-- R395 SIO+7h: software output values. -/
def SIO_OUTSW : Nat := 0x834007
/-- R395 SIO+8h: faults. -/
def SIO_FLT : Nat := 0x834008
/-- R395 SIO+9h: commands. -/
def SIO_CMD : Nat := 0x834009
/-- R395 SIO+Ah: discrepancy latches. -/
def SIO_DCNT : Nat := 0x83400a
/-- R395 SIO+Bh: channel test faults. -/
def SIO_TPFCNT : Nat := 0x83400b
/-- R395 SIO+Ch: header of the loaded block. -/
def SIO_CFGID : Nat := 0x83400c
/-- R395 SIO+10h: input pairs. -/
def SIO_ICFG (i : Nat) : Nat := 0x834010 + i
/-- R395 SIO+20h: outputs. -/
def SIO_OCFG (i : Nat) : Nat := 0x834020 + i
/-- R395 SIO+28h: input test pulses. -/
def SIO_TPCFG : Nat := 0x834028
/-- R395 SIO+29h: output test pulses. -/
def SIO_OTCFG : Nat := 0x834029
/-- R427 NCE+0h: enables, roles. -/
def NCE_CTRL : Nat := 0x840000
/-- R427 NCE+1h: ports, wrap, positions. -/
def NCE_STAT : Nat := 0x840001
/-- R427 NCE+2h: own node ID. -/
def NCE_NODE : Nat := 0x840002
/-- R427 NCE+3h: head node ID. -/
def NCE_HEAD : Nat := 0x840003
/-- R427 NCE+4h: cycle and static slots. -/
def NCE_CYC1 : Nat := 0x840004
/-- R427 NCE+5h: slot, action point, gap. -/
def NCE_CYC2 : Nat := 0x840005
/-- R427 NCE+6h: minislots. -/
def NCE_CYC3 : Nat := 0x840006
/-- R427 NCE+7h: acceptance half-window. -/
def NCE_WIN : Nat := 0x840007
/-- R427 NCE+8h: node table. -/
def NCE_NTAB0 : Nat := 0x840008
/-- R427 NCE+9h: node table. -/
def NCE_NTAB1 : Nat := 0x840009
/-- R427 NCE+Ah: port positions. -/
def NCE_POS (i : Nat) : Nat := 0x84000a + i
/-- R427 NCE+Ch: insertion offset P. -/
def NCE_OFS : Nat := 0x84000c
/-- R427 NCE+Dh: ROUND. -/
def NCE_ROUND : Nat := 0x84000d
/-- R427 NCE+Eh: cycle count and segment. -/
def NCE_CYCLE : Nat := 0x84000e
/-- R427 NCE+Fh: status frame. -/
def NCE_STFID : Nat := 0x84000f
/-- R427 NCE+10h: commands. -/
def NCE_CMD : Nat := 0x840010
/-- R427 NCE+11h: SRAM mirror. -/
def NCE_MIR : Nat := 0x840011
/-- R427 NCE+18h: port errors. -/
def NCE_ERR (i : Nat) : Nat := 0x840018 + i
/-- R427 NCE+1Ah: dropped frames. -/
def NCE_DROP : Nat := 0x84001a
/-- R427 NCE+1Bh: null, duplicate, command, skip counts. -/
def NCE_CNT2 : Nat := 0x84001b
/-- R427 NCE+1Ch: wraps. -/
def NCE_LOOPCNT : Nat := 0x84001c
/-- R427 NCE+1Dh: position changes. -/
def NCE_POSCNT : Nat := 0x84001d
/-- R427 NCE+800h: schedule table: word 800h + 100h × m + j, mode m 0–7, slot j 1–255. -/
def NCE_SCHED (m : Nat) (j : Nat) : Nat := 0x840800 + 0x100 * m + j
/-- R453 NCE+20h: state, guidon, passive count. -/
def NCE_TSTAT : Nat := 0x840020
/-- R453 NCE+21h: coldstart candidates. -/
def NCE_CAND : Nat := 0x840021
/-- R453 NCE+22h: delay of port 0, 1. -/
def NCE_LDLY (i : Nat) : Nat := 0x840022 + i
/-- R453 NCE+24h: last offset e. -/
def NCE_TOFF : Nat := 0x840024
/-- R453 NCE+25h: drift term. -/
def NCE_DRIFT : Nat := 0x840025
/-- R453 NCE+26h: adjustment a. -/
def NCE_ADJ : Nat := 0x840026
/-- R453 NCE+27h: NTIME. -/
def NCE_NTL : Nat := 0x840027
/-- R453 NCE+28h: NTIME. -/
def NCE_NTH : Nat := 0x840028
/-- R453 NCE+29h: modes and request. -/
def NCE_MODE : Nat := 0x840029
/-- R453 NCE+2Ah: request a mode. -/
def NCE_MREQ : Nat := 0x84002a
/-- R453 NCE+2Bh: enabled modes, timeout. -/
def NCE_MCFG : Nat := 0x84002b
/-- R453 NCE+2Ch: snapshot of NCE_MODE. -/
def NCE_SMODE : Nat := 0x84002c
/-- R453 NCE+2Dh: versions. -/
def NCE_VER : Nat := 0x84002d
/-- R453 NCE+2Eh: start-up and mode counters. -/
def NCE_TCNT : Nat := 0x84002e
/-- R480 MEMC+0h: write-back, scrub. -/
def MEMC_CTRL : Nat := 0x805000
/-- R480 MEMC+1h: march, wipe, tamper pending. -/
def MEMC_STAT : Nat := 0x805001
/-- R480 MEMC+2h: corrected reads. -/
def MEMC_ECCCNT : Nat := 0x805002
/-- R480 MEMC+3h: last corrected read. -/
def MEMC_ECCADDR : Nat := 0x805003
/-- R480 MEMC+4h: last uncorrectable read. -/
def MEMC_UEADDR : Nat := 0x805004
/-- R480 MEMC+5h: poisoned banks. -/
def MEMC_POISON : Nat := 0x805005
/-- R480 MEMC+6h: banks retained in DEEP. -/
def MEMC_RET : Nat := 0x805006
/-- R480 MEMC+7h: retention results. -/
def MEMC_RETST : Nat := 0x805007
/-- R480 MEMC+8h: march commands. -/
def MEMC_MCMD : Nat := 0x805008
/-- R480 MEMC+9h: march configuration. -/
def MEMC_MCFG : Nat := 0x805009
/-- R480 MEMC+Ah: march result. -/
def MEMC_MSTAT : Nat := 0x80500a
/-- R480 MEMC+Bh: first failing read. -/
def MEMC_MFAIL : Nat := 0x80500b
/-- R480 MEMC+Ch: failing reads. -/
def MEMC_MFCNT : Nat := 0x80500c
/-- R480 MEMC+Dh: tamper events. -/
def MEMC_TAMP : Nat := 0x80500d
/-- R480 MEMC+Eh: wipes. -/
def MEMC_WIPECNT : Nat := 0x80500e
/-- R480 MEMC+Fh: scrub position. -/
def MEMC_SCRPOS : Nat := 0x80500f
/-- R480 MEMC+10h: scrub counts. -/
def MEMC_SCRCNT : Nat := 0x805010
/-- R480 MEMC+11h: last uncorrectable scrub word. -/
def MEMC_SCRADDR : Nat := 0x805011
/-- R480 MEMC+20h: spares in use per bank. -/
def MEMC_REP (i : Nat) : Nat := 0x805020 + i
/-- R481 DMA+0h: source address. -/
def DMA_SRC (c : Nat) : Nat := 0x851000 + 0x4 * c
/-- R481 DMA+1h: destination address. -/
def DMA_DST (c : Nat) : Nat := 0x851001 + 0x4 * c
/-- R481 DMA+2h: words per transfer. -/
def DMA_CNT (c : Nat) : Nat := 0x851002 + 0x4 * c
/-- R481 DMA+3h: control. -/
def DMA_CTL (c : Nat) : Nat := 0x851003 + 0x4 * c
/-- R481 DMA+20h: channel state. -/
def DMA_STAT (i : Nat) : Nat := 0x851020 + i
/-- R481 DMA+28h: repeated WLOST writes. -/
def DMA_WLCNT : Nat := 0x851028
/-- R481 DMA+29h: lost triggers. -/
def DMA_LOST : Nat := 0x851029
/-- R502 PWR+0h: IDLE enable. -/
def PWR_CTRL : Nat := 0x801000
/-- R502 PWR+1h: entry, pads. -/
def PWR_CMD : Nat := 0x801001
/-- R502 PWR+2h: pads, last state, restore. -/
def PWR_STAT : Nat := 0x801002
/-- R502 PWR+3h: wake sources. -/
def PWR_WAKECFG : Nat := 0x801003
/-- R502 PWR+4h: wake address. -/
def PWR_SVPADR : Nat := 0x801004
/-- R502 PWR+5h: sources at the last wake. -/
def PWR_WSRC : Nat := 0x801005
/-- R502 PWR+6h: unpowered domains. -/
def PWR_DOMOFF : Nat := 0x801006
/-- R502 PWR+7h: domain state. -/
def PWR_DOMST : Nat := 0x801007
/-- R502 PWR+8h: refusals and aborts. -/
def PWR_REFUSE_CNT : Nat := 0x801008
/-- R502 PWR+9h: last refusal. -/
def PWR_REFUSER : Nat := 0x801009
/-- R502 PWR+Ah: supply monitors. -/
def PWR_SUP : Nat := 0x80100a
/-- R503 CLK+0h: warning threshold. -/
def CLK_CTRL : Nat := 0x802000
/-- R503 CLK+1h: lock and deviation. -/
def CLK_STAT : Nat := 0x802001
/-- R503 CLK+2h: warnings. -/
def CLK_WCNT : Nat := 0x802002
/-- R503 CLK+3h: clock-fault resets. -/
def CLK_RCNT : Nat := 0x802003
/-- R504 RTC+0h: alarm enable. -/
def RTC_CTRL : Nat := 0x806000
/-- R504 RTC+1h: validity, crystal. -/
def RTC_STAT : Nat := 0x806001
/-- R504 RTC+2h: events. -/
def RTC_FLG : Nat := 0x806002
/-- R504 RTC+3h: time. -/
def RTC_TIMEL : Nat := 0x806003
/-- R504 RTC+4h: time. -/
def RTC_TIMEH : Nat := 0x806004
/-- R504 RTC+5h: value for SET. -/
def RTC_SETL : Nat := 0x806005
/-- R504 RTC+6h: value for SET. -/
def RTC_SETH : Nat := 0x806006
/-- R504 RTC+7h: alarm time. -/
def RTC_ALML : Nat := 0x806007
/-- R504 RTC+8h: alarm time. -/
def RTC_ALMH : Nat := 0x806008
/-- R504 RTC+9h: rate trim. -/
def RTC_CAL : Nat := 0x806009
/-- R504 RTC+Ah: set, adopt. -/
def RTC_CMD : Nat := 0x80600a
/-- R504 RTC+Bh: frame-start snapshot. -/
def RTC_SNAPC : Nat := 0x80600b
/-- R504 RTC+Ch: agreed reference. -/
def RTC_XREF : Nat := 0x80600c
/-- R504 RTC+Dh: difference. -/
def RTC_XDIFF : Nat := 0x80600d
/-- R504 RTC+Eh: tolerance. -/
def RTC_XTOL : Nat := 0x80600e
/-- R504 RTC+Fh: exceedances. -/
def RTC_XCNT : Nat := 0x80600f
/-- R535 SYS+0h: the burgee. -/
def SYS_BURGEE0 : Nat := 0x800000
/-- R535 SYS+1h: the burgee. -/
def SYS_BURGEE1 : Nat := 0x800001
/-- R535 SYS+2h: the burgee. -/
def SYS_BURGEE2 : Nat := 0x800002
/-- R535 SYS+3h: the burgee. -/
def SYS_BURGEE3 : Nat := 0x800003
/-- R535 SYS+8h: last reset. -/
def SYS_RSTCAUSE : Nat := 0x800008
/-- R535 SYS+9h: warm reset. -/
def SYS_RST : Nat := 0x800009
/-- R535 SYS+20h: overlay switching. -/
def SYS_OVLCFG : Nat := 0x800020
/-- R535 SYS+21h: overlay state. -/
def SYS_OVLSTAT : Nat := 0x800021
/-- R536 LCY+0h: life cycle. -/
def LCY_STATE : Nat := 0x803000
/-- R536 LCY+1h: verification result. -/
def LCY_BOOT : Nat := 0x803001
/-- R536 LCY+2h: secure commands. -/
def LCY_CMD : Nat := 0x803002
/-- R536 LCY+3h: unwrapped key words. -/
def LCY_KOUT : Nat := 0x803003
/-- R536 LCY+4h: unwrap state. -/
def LCY_KSTAT : Nat := 0x803004
/-- R536 LCY+5h: records. -/
def LCY_RCNT : Nat := 0x803005
/-- R536 LCY+6h: last record. -/
def LCY_RLAST : Nat := 0x803006
/-- R537 BIST+0h: start-up result. -/
def BIST_STAT : Nat := 0x804000
/-- R537 BIST+1h: power-up-only tests. -/
def BIST_PUT : Nat := 0x804001
/-- R537 BIST+2h: hours since pass: barriers, halyard, link-loss path. -/
def BIST_PUTAGE (i : Nat) : Nat := 0x804002 + i
/-- R537 BIST+5h: age limit. -/
def BIST_PUTMAX : Nat := 0x804005
/-- R537 BIST+8h: rolling runs. -/
def BIST_RLBCFG : Nat := 0x804008
/-- R537 BIST+9h: save area. -/
def BIST_SAVEBASE : Nat := 0x804009
/-- R537 BIST+Ah: rolling state. -/
def BIST_RLBSTAT : Nat := 0x80400a
/-- R537 BIST+Bh: full sets. -/
def BIST_CMD : Nat := 0x80400b
/-- R538 SVP+0h: address and enables. -/
def SVP_CFG : Nat := 0x842000
/-- R538 SVP+1h: port state. -/
def SVP_STAT : Nat := 0x842001
/-- R538 SVP+2h: protocol version. -/
def SVP_VER : Nat := 0x842002
/-- R538 SVP+3h: errors. -/
def SVP_ERRCNT : Nat := 0x842003
/-- R538 SVP+8h: MSG payload. -/
def SVP_RX (i : Nat) : Nat := 0x842008 + i
/-- R538 SVP+10h: reply. -/
def SVP_TX (i : Nat) : Nat := 0x842010 + i
/-- R538 SVP+18h: message control. -/
def SVP_MSG : Nat := 0x842018
/-- R428 NCE+1000h: frame buffer BCTL. -/
def NCE_BCTL (b : Nat) : Nat := 0x841000 + 0x40 * b
/-- R428 NCE+1001h: frame buffer BSTAT. -/
def NCE_BSTAT (b : Nat) : Nat := 0x841001 + 0x40 * b
/-- R428 NCE+1002h: frame buffer BTS. -/
def NCE_BTS (b : Nat) : Nat := 0x841002 + 0x40 * b
/-- R428 NCE+1004h: payload words. -/
def NCE_BPAY (b : Nat) (i : Nat) : Nat := 0x841004 + 0x40 * b + i

end Sys2Proof.Machine.R
end

