-- ==== Sys2Proof/Machine/RegFields.lean ====
section
/-! DEFINITION. The fields of the registers: for each row of the spec's field tables, the register's address,
the lowest bit and the width. -/

namespace Sys2Proof.Machine

/-- A field of a register: the register's address, its lowest bit, its width. -/
structure Fld where
  addr : Nat
  lo : Nat
  w : Nat
deriving DecidableEq, Repr

end Sys2Proof.Machine

namespace Sys2Proof.Machine.F

def INT_CFG_LEVEL (i : Nat) : Fld := ⟨R.INT_CFG i, 0, 3⟩
def INT_CFG_EN (i : Nat) : Fld := ⟨R.INT_CFG i, 3, 1⟩
def INT_CFG_EDGE (i : Nat) : Fld := ⟨R.INT_CFG i, 4, 1⟩
def INT_CFG_TGT (i : Nat) : Fld := ⟨R.INT_CFG i, 5, 3⟩
def INT_CFG_PEND (i : Nat) : Fld := ⟨R.INT_CFG i, 8, 1⟩
def INT_PEND_PEND (i : Nat) : Fld := ⟨R.INT_PEND i, 0, 32⟩
def INT_SWI_SWI : Fld := ⟨R.INT_SWI, 0, 8⟩
def INT_TOP_SRC (i : Nat) : Fld := ⟨R.INT_TOP i, 0, 8⟩
def INT_TOP_LVL (i : Nat) : Fld := ⟨R.INT_TOP i, 8, 3⟩
def INT_TOP_VALID (i : Nat) : Fld := ⟨R.INT_TOP i, 11, 1⟩
def INT_HOLDCNT_HOLD : Fld := ⟨R.INT_HOLDCNT, 0, 24⟩
def XLA_CTRL_EN : Fld := ⟨R.XLA_CTRL, 0, 1⟩
def XLA_CTRL_AUTOJ : Fld := ⟨R.XLA_CTRL, 1, 1⟩
def XLA_CTRL_SOLO : Fld := ⟨R.XLA_CTRL, 2, 1⟩
def XLA_CTRL_HMJ : Fld := ⟨R.XLA_CTRL, 3, 1⟩
def XLA_CTRL_SOLOT : Fld := ⟨R.XLA_CTRL, 4, 12⟩
def XLA_STAT_PHASE : Fld := ⟨R.XLA_STAT, 0, 4⟩
def XLA_STAT_MEMBER : Fld := ⟨R.XLA_STAT, 4, 1⟩
def XLA_STAT_CFGERR : Fld := ⟨R.XLA_STAT, 5, 1⟩
def XLA_STAT_FORMED : Fld := ⟨R.XLA_STAT, 6, 1⟩
def XLA_TFRAME_TFRAME : Fld := ⟨R.XLA_TFRAME, 0, 18⟩
def XLA_ODL_ODL : Fld := ⟨R.XLA_ODL, 0, 18⟩
def XLA_WIN_WIN : Fld := ⟨R.XLA_WIN, 0, 10⟩
def XLA_SET_SETVER : Fld := ⟨R.XLA_SET, 0, 8⟩
def XLA_SET_NIN : Fld := ⟨R.XLA_SET, 8, 5⟩
def XLA_SET_NOUT : Fld := ⟨R.XLA_SET, 13, 5⟩
def XLA_AGBASE_AGBASE : Fld := ⟨R.XLA_AGBASE, 0, 24⟩
def XLA_OSBASE_OSBASE : Fld := ⟨R.XLA_OSBASE, 0, 24⟩
def XLA_MBASE_MBASE : Fld := ⟨R.XLA_MBASE, 0, 24⟩
def XLA_MCFG_MBLKS : Fld := ⟨R.XLA_MCFG, 0, 9⟩
def XLA_MCFG_KFIN : Fld := ⟨R.XLA_MCFG, 9, 3⟩
def XLA_MCFG_MLIM : Fld := ⟨R.XLA_MCFG, 12, 12⟩
def XLA_WCFG_WB0 : Fld := ⟨R.XLA_WCFG, 0, 2⟩
def XLA_WCFG_WB1 : Fld := ⟨R.XLA_WCFG, 2, 2⟩
def XLA_CMD_RESYNC : Fld := ⟨R.XLA_CMD, 0, 1⟩
def XLA_CMD_LEAVE : Fld := ⟨R.XLA_CMD, 1, 1⟩
def XLA_CMD_ABORT : Fld := ⟨R.XLA_CMD, 2, 1⟩
def XLA_CMD_KEYLD : Fld := ⟨R.XLA_CMD, 3, 1⟩
def XLA_MEMB_CUR : Fld := ⟨R.XLA_MEMB, 0, 3⟩
def XLA_MEMB_NEXT : Fld := ⟨R.XLA_MEMB, 3, 3⟩
def XLA_MEMB_PRES : Fld := ⟨R.XLA_MEMB, 6, 3⟩
def XLA_MEMB_EQV : Fld := ⟨R.XLA_MEMB, 9, 3⟩
def XLA_VOTE_AGREE : Fld := ⟨R.XLA_VOTE, 0, 3⟩
def XLA_VOTE_ODD : Fld := ⟨R.XLA_VOTE, 3, 3⟩
def XLA_VOTE_ABSENT : Fld := ⟨R.XLA_VOTE, 6, 3⟩
def XLA_VOTE_EQV : Fld := ⟨R.XLA_VOTE, 9, 3⟩
def XLA_VOTE_OUTCOME : Fld := ⟨R.XLA_VOTE, 12, 3⟩
def XLA_VOTE_SELFODD : Fld := ⟨R.XLA_VOTE, 15, 1⟩
def XLA_VOTE_SHEQ : Fld := ⟨R.XLA_VOTE, 16, 1⟩
def XLA_COMMIT_BUF : Fld := ⟨R.XLA_COMMIT, 0, 1⟩
def XLA_COMMIT_HOLD : Fld := ⟨R.XLA_COMMIT, 1, 1⟩
def XLA_COMMIT_SINGLE : Fld := ⟨R.XLA_COMMIT, 2, 1⟩
def XLA_COMMIT_FRAME16 : Fld := ⟨R.XLA_COMMIT, 3, 16⟩
def XLA_RSTAT_RPHASE : Fld := ⟨R.XLA_RSTAT, 0, 3⟩
def XLA_RSTAT_LEFT : Fld := ⟨R.XLA_RSTAT, 3, 9⟩
def XLA_RSTAT_ATTEMPT : Fld := ⟨R.XLA_RSTAT, 12, 12⟩
def XLA_RSTAT_MSRC : Fld := ⟨R.XLA_RSTAT, 24, 3⟩
def XLA_RSCNT_EVENTS : Fld := ⟨R.XLA_RSCNT, 0, 2⟩
def XLA_RSCNT_TOTAL : Fld := ⟨R.XLA_RSCNT, 2, 12⟩
def XLA_KEYSTAT_LOADED : Fld := ⟨R.XLA_KEYSTAT, 0, 1⟩
def XLA_KEYSTAT_ZERO : Fld := ⟨R.XLA_KEYSTAT, 1, 1⟩
def XLA_KEYSTAT_KVER : Fld := ⟨R.XLA_KEYSTAT, 2, 16⟩
def XLA_LDLY_DA : Fld := ⟨R.XLA_LDLY, 0, 12⟩
def XLA_LDLY_DB : Fld := ⟨R.XLA_LDLY, 12, 12⟩
def XLA_LDLY_DC : Fld := ⟨R.XLA_LDLY, 24, 12⟩
def XLA_TOFF_TOFF (i : Nat) : Fld := ⟨R.XLA_TOFF i, 0, 36⟩
def XLA_TREL_REL : Fld := ⟨R.XLA_TREL, 0, 18⟩
def XLA_TREL_VOTE : Fld := ⟨R.XLA_TREL, 18, 18⟩
def XLA_WLCNT_WL : Fld := ⟨R.XLA_WLCNT, 0, 16⟩
def XLA_DEV_DEV (i : Nat) : Fld := ⟨R.XLA_DEV i, 0, 16⟩
def XLA_ERR1_MISS (i : Nat) : Fld := ⟨R.XLA_ERR1 i, 0, 12⟩
def XLA_ERR1_CORR (i : Nat) : Fld := ⟨R.XLA_ERR1 i, 12, 12⟩
def XLA_ERR1_OUTW (i : Nat) : Fld := ⟨R.XLA_ERR1 i, 24, 12⟩
def XLA_ERR2_STALE (i : Nat) : Fld := ⟨R.XLA_ERR2 i, 0, 12⟩
def XLA_ERR2_SETV (i : Nat) : Fld := ⟨R.XLA_ERR2 i, 12, 12⟩
def XLA_ERR2_EQV (i : Nat) : Fld := ⟨R.XLA_ERR2 i, 24, 12⟩
def XLA_IDSC_SRC (i : Nat) : Fld := ⟨R.XLA_IDSC i, 0, 24⟩
def XLA_IDSC_RULE (i : Nat) : Fld := ⟨R.XLA_IDSC i, 24, 3⟩
def XLA_IQUAL_QEN (i : Nat) : Fld := ⟨R.XLA_IQUAL i, 0, 1⟩
def XLA_IQUAL_QIDX (i : Nat) : Fld := ⟨R.XLA_IQUAL i, 1, 5⟩
def XLA_IQUAL_QBIT (i : Nat) : Fld := ⟨R.XLA_IQUAL i, 6, 6⟩
def XLA_IQUAL_QPOL (i : Nat) : Fld := ⟨R.XLA_IQUAL i, 12, 1⟩
def XLA_IPAR_PAR (i : Nat) : Fld := ⟨R.XLA_IPAR i, 0, 36⟩
def HAL_CTRL_AUTO : Fld := ⟨R.HAL_CTRL, 0, 1⟩
def HAL_CTRL_ISOT : Fld := ⟨R.HAL_CTRL, 1, 6⟩
def HAL_STAT_OBS : Fld := ⟨R.HAL_STAT, 0, 3⟩
def HAL_STAT_GOBS : Fld := ⟨R.HAL_STAT, 3, 3⟩
def HAL_STAT_CLAIM : Fld := ⟨R.HAL_STAT, 6, 1⟩
def HAL_STAT_REQ : Fld := ⟨R.HAL_STAT, 7, 1⟩
def HAL_STAT_ENSIGN : Fld := ⟨R.HAL_STAT, 8, 1⟩
def HAL_STAT_SHEN : Fld := ⟨R.HAL_STAT, 9, 1⟩
def HAL_STAT_QUIET : Fld := ⟨R.HAL_STAT, 10, 1⟩
def HAL_STAT_CONT : Fld := ⟨R.HAL_STAT, 11, 1⟩
def HAL_STAT_FALLEN : Fld := ⟨R.HAL_STAT, 12, 3⟩
def HAL_CMD_CLAIM : Fld := ⟨R.HAL_CMD, 0, 1⟩
def HAL_CMD_RELEASE : Fld := ⟨R.HAL_CMD, 1, 1⟩
def HAL_CMD_SAFE : Fld := ⟨R.HAL_CMD, 2, 1⟩
def HAL_RSTAT_LSTATE : Fld := ⟨R.HAL_RSTAT, 0, 3⟩
def HAL_RSTAT_RSTATE : Fld := ⟨R.HAL_RSTAT, 3, 2⟩
def HAL_RSTAT_HALFMAST : Fld := ⟨R.HAL_RSTAT, 5, 1⟩
def HAL_RSTAT_SAFECAUSE : Fld := ⟨R.HAL_RSTAT, 6, 3⟩
def HAL_RSTAT_STRKCAUSE : Fld := ⟨R.HAL_RSTAT, 9, 3⟩
def HAL_HMCFG_AUTH : Fld := ⟨R.HAL_HMCFG, 0, 16⟩
def HAL_HMCFG_LIMPT : Fld := ⟨R.HAL_HMCFG, 16, 10⟩
def HAL_DIAGMASK_CLS : Fld := ⟨R.HAL_DIAGMASK, 0, 8⟩
def HAL_SAFECFG_SB0 : Fld := ⟨R.HAL_SAFECFG, 0, 2⟩
def HAL_SAFECFG_SB1 : Fld := ⟨R.HAL_SAFECFG, 2, 2⟩
def HAL_SAFECFG_RELT : Fld := ⟨R.HAL_SAFECFG, 4, 12⟩
def HAL_REL_REF (i : Nat) : Fld := ⟨R.HAL_REL i, 0, 36⟩
def HAL_LIMP_MS : Fld := ⟨R.HAL_LIMP, 0, 20⟩
def HAL_CCNT_CNT : Fld := ⟨R.HAL_CCNT, 0, 16⟩
def HAL_HOCNT_CNT : Fld := ⟨R.HAL_HOCNT, 0, 16⟩
def FLT_BUNT_FLAGS (i : Nat) : Fld := ⟨R.FLT_BUNT i, 0, 36⟩
def FLT_IRQM_IRQM (i : Nat) : Fld := ⟨R.FLT_IRQM i, 0, 36⟩
def FLT_LOGM_LOGM (i : Nat) : Fld := ⟨R.FLT_LOGM i, 0, 36⟩
def FLT_SUMMASK_MASK : Fld := ⟨R.FLT_SUMMASK, 0, 8⟩
def FLT_SWCLS_CLS : Fld := ⟨R.FLT_SWCLS, 0, 24⟩
def FLT_SUM_SUM : Fld := ⟨R.FLT_SUM, 16, 8⟩
def FLT_CNTSEL_FLAG (i : Nat) : Fld := ⟨R.FLT_CNTSEL i, 0, 8⟩
def FLT_CNT_CNT (i : Nat) : Fld := ⟨R.FLT_CNT i, 0, 24⟩
def FLT_LOGBASE_BASE : Fld := ⟨R.FLT_LOGBASE, 0, 24⟩
def FLT_LOGCFG_EN : Fld := ⟨R.FLT_LOGCFG, 0, 1⟩
def FLT_LOGCFG_SIZE : Fld := ⟨R.FLT_LOGCFG, 1, 4⟩
def FLT_LOGHEAD_SEQ : Fld := ⟨R.FLT_LOGHEAD, 0, 36⟩
def FLT_LOGDROP_CNT : Fld := ⟨R.FLT_LOGDROP, 0, 16⟩
def LSC_CTRL_SGLEN : Fld := ⟨R.LSC_CTRL, 0, 1⟩
def LSC_CTRL_P1RS : Fld := ⟨R.LSC_CTRL, 1, 1⟩
def LSC_STAT_P0ST : Fld := ⟨R.LSC_STAT, 0, 3⟩
def LSC_STAT_P1ST : Fld := ⟨R.LSC_STAT, 3, 3⟩
def LSC_STAT_SPAIR : Fld := ⟨R.LSC_STAT, 6, 1⟩
def LSC_STAT_JINH : Fld := ⟨R.LSC_STAT, 7, 1⟩
def LSC_STAT_CMPF : Fld := ⟨R.LSC_STAT, 8, 1⟩
def LSC_CMD_RESTART1 : Fld := ⟨R.LSC_CMD, 0, 1⟩
def LSC_CMD_RETIRE1 : Fld := ⟨R.LSC_CMD, 1, 1⟩
def LSC_RENTRY_ADDR (p : Nat) : Fld := ⟨R.LSC_RENTRY p, 0, 24⟩
def LSC_MM_GROUP (i : Nat) : Fld := ⟨R.LSC_MM i, 0, 6⟩
def LSC_MM_MULTI (i : Nat) : Fld := ⟨R.LSC_MM i, 6, 1⟩
def LSC_MM_PC (i : Nat) : Fld := ⟨R.LSC_MM i, 7, 24⟩
def LSC_MM_VALID (i : Nat) : Fld := ⟨R.LSC_MM i, 31, 1⟩
def LSC_VERD_V0 : Fld := ⟨R.LSC_VERD, 0, 3⟩
def LSC_VERD_V1 : Fld := ⟨R.LSC_VERD, 3, 3⟩
def LSC_TCNT_T0 : Fld := ⟨R.LSC_TCNT, 0, 4⟩
def LSC_TCNT_T1 : Fld := ⟨R.LSC_TCNT, 4, 4⟩
def LSC_MMCNT_C0 : Fld := ⟨R.LSC_MMCNT, 0, 16⟩
def LSC_MMCNT_C1 : Fld := ⟨R.LSC_MMCNT, 16, 16⟩
def LSC_INJL_GRP (p : Nat) : Fld := ⟨R.LSC_INJL p, 0, 36⟩
def LSC_INJH_GRP (p : Nat) : Fld := ⟨R.LSC_INJH p, 0, 28⟩
def LSC_INJH_CLEAN (p : Nat) : Fld := ⟨R.LSC_INJH p, 33, 1⟩
def LSC_INJH_CHK (p : Nat) : Fld := ⟨R.LSC_INJH p, 34, 1⟩
def LSC_INJH_DONE (p : Nat) : Fld := ⟨R.LSC_INJH p, 35, 1⟩
def LSC_CORES_HC : Fld := ⟨R.LSC_CORES, 0, 8⟩
def DBG_STAT_OPEN : Fld := ⟨R.DBG_STAT, 0, 1⟩
def DBG_STAT_ATTACHED : Fld := ⟨R.DBG_STAT, 1, 1⟩
def DBG_STAT_DHALT : Fld := ⟨R.DBG_STAT, 2, 4⟩
def PWM_CTRL_EN (n : Nat) : Fld := ⟨R.PWM_CTRL n, 0, 1⟩
def PWM_STAT_RUN (n : Nat) : Fld := ⟨R.PWM_STAT n, 0, 1⟩
def PWM_STAT_TSTATE (n : Nat) : Fld := ⟨R.PWM_STAT n, 1, 2⟩
def PWM_STAT_SLOT (n : Nat) : Fld := ⟨R.PWM_STAT n, 3, 2⟩
def PWM_STAT_PEND (n : Nat) : Fld := ⟨R.PWM_STAT n, 5, 1⟩
def PWM_STAT_STRETCH (n : Nat) : Fld := ⟨R.PWM_STAT n, 6, 1⟩
def PWM_STAT_CFGERR (n : Nat) : Fld := ⟨R.PWM_STAT n, 7, 1⟩
def PWM_STAT_RFCNT (n : Nat) : Fld := ⟨R.PWM_STAT n, 8, 6⟩
def PWM_STAT_PERR (n : Nat) : Fld := ⟨R.PWM_STAT n, 14, 1⟩
def PWM_PER_PER (n : Nat) : Fld := ⟨R.PWM_PER n, 0, 20⟩
def PWM_OFS_OFS (n : Nat) : Fld := ⟨R.PWM_OFS n, 0, 20⟩
def PWM_DT_DT (n : Nat) : Fld := ⟨R.PWM_DT n, 0, 9⟩
def PWM_LIM_MINON (n : Nat) : Fld := ⟨R.PWM_LIM n, 0, 10⟩
def PWM_LIM_MINOFF (n : Nat) : Fld := ⟨R.PWM_LIM n, 10, 10⟩
def PWM_RFR_RFEN (n : Nat) : Fld := ⟨R.PWM_RFR n, 0, 1⟩
def PWM_RFR_RFPER (n : Nat) : Fld := ⟨R.PWM_RFR n, 1, 6⟩
def PWM_RFR_RFW (n : Nat) : Fld := ⟨R.PWM_RFR n, 7, 10⟩
def PWM_CMP_CMP (n : Nat) (i : Nat) : Fld := ⟨R.PWM_CMP n i, 0, 20⟩
def PWM_CMP_FULL (n : Nat) (i : Nat) : Fld := ⟨R.PWM_CMP n i, 20, 1⟩
def PWM_OVR_INVU (n : Nat) : Fld := ⟨R.PWM_OVR n, 0, 1⟩
def PWM_OVR_SWAPU (n : Nat) : Fld := ⟨R.PWM_OVR n, 1, 1⟩
def PWM_OVR_INVV (n : Nat) : Fld := ⟨R.PWM_OVR n, 2, 1⟩
def PWM_OVR_SWAPV (n : Nat) : Fld := ⟨R.PWM_OVR n, 3, 1⟩
def PWM_OVR_INVW (n : Nat) : Fld := ⟨R.PWM_OVR n, 4, 1⟩
def PWM_OVR_SWAPW (n : Nat) : Fld := ⟨R.PWM_OVR n, 5, 1⟩
def PWM_APER_APER (n : Nat) : Fld := ⟨R.PWM_APER n, 0, 20⟩
def PWM_ECMP_E (n : Nat) (i : Nat) : Fld := ⟨R.PWM_ECMP n i, 0, 20⟩
def PWM_ECMP_FULL (n : Nat) (i : Nat) : Fld := ⟨R.PWM_ECMP n i, 20, 1⟩
def PWM_AOVR_ALL (n : Nat) : Fld := ⟨R.PWM_AOVR n, 0, 6⟩
def PWM_CNT_CNT (n : Nat) : Fld := ⟨R.PWM_CNT n, 0, 20⟩
def PWM_CNT_PIDX (n : Nat) : Fld := ⟨R.PWM_CNT n, 20, 16⟩
def PWM_LOAD_LOADALL : Fld := ⟨R.PWM_LOAD, 0, 1⟩
def PWM_LOAD_BANKS : Fld := ⟨R.PWM_LOAD, 1, 2⟩
def PWM_TRIP_EMOFF (n : Nat) : Fld := ⟨R.PWM_TRIP n, 0, 1⟩
def PWM_TRIP_EMSHORT (n : Nat) : Fld := ⟨R.PWM_TRIP n, 1, 1⟩
def PWM_TRIP_SWOFF (n : Nat) : Fld := ⟨R.PWM_TRIP n, 2, 1⟩
def PWM_TRIP_SWSHORT (n : Nat) : Fld := ⟨R.PWM_TRIP n, 3, 1⟩
def PWM_TRIP_XLAT (n : Nat) : Fld := ⟨R.PWM_TRIP n, 4, 1⟩
def PWM_TRIP_XLASH (n : Nat) : Fld := ⟨R.PWM_TRIP n, 5, 1⟩
def PWM_TRIP_SAFET (n : Nat) : Fld := ⟨R.PWM_TRIP n, 6, 1⟩
def PWM_TRIP_SAFESH (n : Nat) : Fld := ⟨R.PWM_TRIP n, 7, 1⟩
def PWM_CMD_TRIPOFF (n : Nat) : Fld := ⟨R.PWM_CMD n, 0, 1⟩
def PWM_CMD_TRIPSHORT (n : Nat) : Fld := ⟨R.PWM_CMD n, 1, 1⟩
def PWM_PSTART_LT (n : Nat) : Fld := ⟨R.PWM_PSTART n, 0, 36⟩
def PWM_CLCNT_CNT (n : Nat) : Fld := ⟨R.PWM_CLCNT n, 0, 16⟩
def DLK_CTRL_EN : Fld := ⟨R.DLK_CTRL, 0, 1⟩
def DLK_STAT_LSTATE : Fld := ⟨R.DLK_STAT, 0, 3⟩
def DLK_STAT_VERR : Fld := ⟨R.DLK_STAT, 3, 1⟩
def DLK_STAT_VMIN : Fld := ⟨R.DLK_STAT, 4, 4⟩
def DLK_STAT_DVMAJ : Fld := ⟨R.DLK_STAT, 8, 4⟩
def DLK_LLPAT_LB0 : Fld := ⟨R.DLK_LLPAT, 0, 2⟩
def DLK_LLPAT_LB1 : Fld := ⟨R.DLK_LLPAT, 2, 2⟩
def DLK_TRIM_TB0 : Fld := ⟨R.DLK_TRIM, 0, 3⟩
def DLK_TRIM_TB1 : Fld := ⟨R.DLK_TRIM, 3, 3⟩
def DLK_TRIM_TCH : Fld := ⟨R.DLK_TRIM, 6, 3⟩
def DLK_LDLY_DLY : Fld := ⟨R.DLK_LDLY, 0, 10⟩
def DLK_CMD_LLREL : Fld := ⟨R.DLK_CMD, 0, 1⟩
def DLK_CMD_RETRAIN : Fld := ⟨R.DLK_CMD, 1, 1⟩
def DLK_CFGQ_LEVEL : Fld := ⟨R.DLK_CFGQ, 0, 5⟩
def DLK_CFGQ_CFGF : Fld := ⟨R.DLK_CFGQ, 5, 1⟩
def DLK_ERRCNT_DCODE : Fld := ⟨R.DLK_ERRCNT, 0, 12⟩
def DLK_ERRCNT_UCODE : Fld := ⟨R.DLK_ERRCNT, 12, 12⟩
def DLK_ERRCNT_CRC : Fld := ⟨R.DLK_ERRCNT, 24, 12⟩
def DLK_LLCNT_CNT : Fld := ⟨R.DLK_LLCNT, 0, 16⟩
def DLK_LATE_CNT : Fld := ⟨R.DLK_LATE, 0, 16⟩
def GDC_CTRL_OEN0 : Fld := ⟨R.GDC_CTRL, 0, 1⟩
def GDC_CTRL_OEN1 : Fld := ⟨R.GDC_CTRL, 1, 1⟩
def GDC_CTRL_OENCH : Fld := ⟨R.GDC_CTRL, 2, 1⟩
def GDC_STAT_DSTATE : Fld := ⟨R.GDC_STAT, 0, 2⟩
def GDC_STAT_VGDOK : Fld := ⟨R.GDC_STAT, 2, 1⟩
def GDC_DRV_ISRC (i : Nat) : Fld := ⟨R.GDC_DRV i, 0, 3⟩
def GDC_DRV_ISNK (i : Nat) : Fld := ⟨R.GDC_DRV i, 3, 3⟩
def GDC_LOCK_LKT : Fld := ⟨R.GDC_LOCK, 0, 5⟩
def GDC_DESAT_THR (i : Nat) : Fld := ⟨R.GDC_DESAT i, 0, 5⟩
def GDC_DESAT_BLANK (i : Nat) : Fld := ⟨R.GDC_DESAT i, 5, 5⟩
def GDC_DESAT_FILT (i : Nat) : Fld := ⟨R.GDC_DESAT i, 10, 2⟩
def GDC_OCP_THR : Fld := ⟨R.GDC_OCP, 0, 4⟩
def GDC_OCP_THRB : Fld := ⟨R.GDC_OCP, 4, 4⟩
def GDC_OCP_FILT : Fld := ⟨R.GDC_OCP, 8, 2⟩
def GDC_OV_OV1 : Fld := ⟨R.GDC_OV, 0, 8⟩
def GDC_OV_OV2 : Fld := ⟨R.GDC_OV, 8, 8⟩
def GDC_OV_F1 : Fld := ⟨R.GDC_OV, 16, 2⟩
def GDC_OV_F2 : Fld := ⟨R.GDC_OV, 18, 2⟩
def GDC_UV_BUSUV : Fld := ⟨R.GDC_UV, 0, 7⟩
def GDC_UV_VGDSEL : Fld := ⟨R.GDC_UV, 7, 1⟩
def GDC_UV_BSTUV : Fld := ⟨R.GDC_UV, 8, 4⟩
def GDC_CHOP_CHON : Fld := ⟨R.GDC_CHOP, 0, 8⟩
def GDC_CHOP_CHOFF : Fld := ⟨R.GDC_CHOP, 8, 8⟩
def GDC_CHOP_CHT : Fld := ⟨R.GDC_CHOP, 16, 6⟩
def GDC_CHOP_CHDV : Fld := ⟨R.GDC_CHOP, 22, 4⟩
def GDC_TEMP_TW : Fld := ⟨R.GDC_TEMP, 0, 8⟩
def GDC_PUMP_PE0 : Fld := ⟨R.GDC_PUMP, 0, 1⟩
def GDC_PUMP_PE1 : Fld := ⟨R.GDC_PUMP, 1, 1⟩
def GDC_RPT_RPT : Fld := ⟨R.GDC_RPT, 0, 24⟩
def GDC_LATCH_LAT : Fld := ⟨R.GDC_LATCH, 0, 24⟩
def GDC_BSTAT_BUV : Fld := ⟨R.GDC_BSTAT, 0, 6⟩
def GDC_XC_OVL : Fld := ⟨R.GDC_XC, 0, 6⟩
def GDC_XC_GAP : Fld := ⟨R.GDC_XC, 6, 6⟩
def GDC_VBUS_V : Fld := ⟨R.GDC_VBUS, 0, 12⟩
def GDC_VGD_V : Fld := ⟨R.GDC_VGD, 0, 12⟩
def GDC_TDIE_T : Fld := ⟨R.GDC_TDIE, 0, 9⟩
def GDC_VER_VMIN : Fld := ⟨R.GDC_VER, 0, 4⟩
def GDC_VER_VMAJ : Fld := ⟨R.GDC_VER, 4, 4⟩
def GDC_VER_STEP : Fld := ⟨R.GDC_VER, 8, 8⟩
def GDC_XCCNT_CNT : Fld := ⟨R.GDC_XCCNT, 0, 16⟩
def GDC_DSCNT_CNT : Fld := ⟨R.GDC_DSCNT, 0, 16⟩
def SYS_EMRT_B0 (i : Nat) : Fld := ⟨R.SYS_EMRT i, 0, 2⟩
def SYS_EMRT_B1 (i : Nat) : Fld := ⟨R.SYS_EMRT i, 2, 2⟩
def SYS_EMRT_CHOFF (i : Nat) : Fld := ⟨R.SYS_EMRT i, 4, 1⟩
def SYS_EMRT_IRQ (i : Nat) : Fld := ⟨R.SYS_EMRT i, 5, 1⟩
def SYS_EMTEST_FORCE : Fld := ⟨R.SYS_EMTEST, 0, 24⟩
def SYS_EMSTAT_IN : Fld := ⟨R.SYS_EMSTAT, 0, 24⟩
def SYS_CHCFG_EN : Fld := ⟨R.SYS_CHCFG, 0, 1⟩
def SYS_CHCFG_MINON : Fld := ⟨R.SYS_CHCFG, 1, 6⟩
def SYS_CHCFG_MAXON : Fld := ⟨R.SYS_CHCFG, 7, 10⟩
def SYS_CHCFG_REST : Fld := ⟨R.SYS_CHCFG, 17, 6⟩
def SYS_CHSTAT_GATE : Fld := ⟨R.SYS_CHSTAT, 0, 1⟩
def SYS_CHSTAT_DEMAND : Fld := ⟨R.SYS_CHSTAT, 1, 1⟩
def SYS_CHSTAT_RESTING : Fld := ⟨R.SYS_CHSTAT, 2, 1⟩
def SYS_CHSTAT_FORCED : Fld := ⟨R.SYS_CHSTAT, 3, 1⟩
def SYS_CHCNT_CNT : Fld := ⟨R.SYS_CHCNT, 0, 24⟩
def COM_MODE_MODE (n : Nat) : Fld := ⟨R.COM_MODE n, 0, 3⟩
def COM_STAT_PHASE (n : Nat) : Fld := ⟨R.COM_STAT n, 0, 3⟩
def COM_STAT_CATCH (n : Nat) : Fld := ⟨R.COM_STAT n, 3, 2⟩
def COM_STAT_AVALID (n : Nat) : Fld := ⟨R.COM_STAT n, 5, 1⟩
def COM_STAT_SECTOR (n : Nat) : Fld := ⟨R.COM_STAT n, 6, 3⟩
def COM_STAT_LTMR (n : Nat) : Fld := ⟨R.COM_STAT n, 9, 10⟩
def COM_ACFG_ASRC (n : Nat) : Fld := ⟨R.COM_ACFG n, 0, 3⟩
def COM_ACFG_SENTN (n : Nat) : Fld := ⟨R.COM_ACFG n, 3, 2⟩
def COM_ACFG_PP (n : Nat) : Fld := ⟨R.COM_ACFG n, 5, 6⟩
def COM_ACFG_FBEN (n : Nat) : Fld := ⟨R.COM_ACFG n, 11, 1⟩
def COM_ACFG_SAGE (n : Nat) : Fld := ⟨R.COM_ACFG n, 12, 8⟩
def COM_CPR_CPR (n : Nat) : Fld := ⟨R.COM_CPR n, 0, 36⟩
def COM_ZERO_ZERO (n : Nat) : Fld := ⟨R.COM_ZERO n, 0, 36⟩
def COM_SWANG_ANG (n : Nat) : Fld := ⟨R.COM_SWANG n, 0, 36⟩
def COM_ANG_ANG (n : Nat) : Fld := ⟨R.COM_ANG n, 0, 36⟩
def COM_ATS_TS (n : Nat) : Fld := ⟨R.COM_ATS n, 0, 36⟩
def COM_SS_DIR (n : Nat) : Fld := ⟨R.COM_SS n, 0, 1⟩
def COM_SS_FSEDG (n : Nat) : Fld := ⟨R.COM_SS n, 1, 3⟩
def COM_SS_SWT (n : Nat) : Fld := ⟨R.COM_SS n, 4, 16⟩
def COM_SS_FSTO (n : Nat) : Fld := ⟨R.COM_SS n, 20, 10⟩
def COM_LOCK_LOCKT (n : Nat) : Fld := ⟨R.COM_LOCK n, 0, 10⟩
def COM_LOCK_LSRC (n : Nat) : Fld := ⟨R.COM_LOCK n, 10, 1⟩
def COM_LOCKI_LOCKI (n : Nat) : Fld := ⟨R.COM_LOCKI n, 0, 36⟩
def COM_SHORT_SHSEL (n : Nat) : Fld := ⟨R.COM_SHORT n, 0, 2⟩
def COM_SHORT_ALTP (n : Nat) : Fld := ⟨R.COM_SHORT n, 2, 8⟩
def COM_FBCNT_CNT (n : Nat) : Fld := ⟨R.COM_FBCNT n, 0, 16⟩
def HALL_CTRL_EN0 : Fld := ⟨R.HALL_CTRL, 0, 1⟩
def HALL_CTRL_EN1 : Fld := ⟨R.HALL_CTRL, 1, 1⟩
def HALL_CTRL_HFT : Fld := ⟨R.HALL_CTRL, 2, 8⟩
def HALL_CTRL_HSTO : Fld := ⟨R.HALL_CTRL, 10, 10⟩
def HALL_MAP_MAP (i : Nat) : Fld := ⟨R.HALL_MAP i, 0, 24⟩
def HALL_STAT_RAW (i : Nat) : Fld := ⟨R.HALL_STAT i, 0, 3⟩
def HALL_STAT_FILT (i : Nat) : Fld := ⟨R.HALL_STAT i, 3, 3⟩
def HALL_STAT_SECT (i : Nat) : Fld := ⟨R.HALL_STAT i, 6, 3⟩
def HALL_STAT_DIR (i : Nat) : Fld := ⟨R.HALL_STAT i, 9, 2⟩
def HALL_STAT_TSV (i : Nat) : Fld := ⟨R.HALL_STAT i, 11, 1⟩
def HALL_TEDGE_T (i : Nat) : Fld := ⟨R.HALL_TEDGE i, 0, 36⟩
def HALL_TSEC_T (i : Nat) : Fld := ⟨R.HALL_TSEC i, 0, 32⟩
def HALL_ERR_INV (i : Nat) : Fld := ⟨R.HALL_ERR i, 0, 12⟩
def HALL_ERR_SKIP (i : Nat) : Fld := ⟨R.HALL_ERR i, 12, 12⟩
def ISN_CTRL_EN0 : Fld := ⟨R.ISN_CTRL, 0, 1⟩
def ISN_CTRL_EN1 : Fld := ⟨R.ISN_CTRL, 1, 1⟩
def ISN_CTRL_ENB : Fld := ⟨R.ISN_CTRL, 2, 1⟩
def ISN_CTRL_BUSB : Fld := ⟨R.ISN_CTRL, 3, 1⟩
def ISN_CFG_OSR (i : Nat) : Fld := ⟨R.ISN_CFG i, 0, 2⟩
def ISN_CFG_SPT (i : Nat) : Fld := ⟨R.ISN_CFG i, 2, 20⟩
def ISN_CFG_SETL (i : Nat) : Fld := ⟨R.ISN_CFG i, 22, 10⟩
def ISN_CFG_SHMODE (i : Nat) : Fld := ⟨R.ISN_CFG i, 32, 1⟩
def ISN_GAIN_GAIN (i : Nat) : Fld := ⟨R.ISN_GAIN i, 0, 36⟩
def ISN_OFFS_OFFS (i : Nat) : Fld := ⟨R.ISN_OFFS i, 0, 36⟩
def ISN_VGAIN_VGAIN : Fld := ⟨R.ISN_VGAIN, 0, 36⟩
def ISN_IU_I (n : Nat) : Fld := ⟨R.ISN_IU n, 0, 36⟩
def ISN_IV_I (n : Nat) : Fld := ⟨R.ISN_IV n, 0, 36⟩
def ISN_IW_I (n : Nat) : Fld := ⟨R.ISN_IW n, 0, 36⟩
def ISN_IBUS_I : Fld := ⟨R.ISN_IBUS, 0, 36⟩
def ISN_TS_TS (n : Nat) : Fld := ⟨R.ISN_TS n, 0, 36⟩
def ISN_TSB_TS : Fld := ⟨R.ISN_TSB, 0, 36⟩
def ISN_QUAL_VAL (n : Nat) : Fld := ⟨R.ISN_QUAL n, 0, 3⟩
def ISN_QUAL_REC (n : Nat) : Fld := ⟨R.ISN_QUAL n, 3, 1⟩
def ISN_QUAL_STALE (n : Nat) : Fld := ⟨R.ISN_QUAL n, 4, 1⟩
def ISN_QUAL_AGE (n : Nat) : Fld := ⟨R.ISN_QUAL n, 5, 8⟩
def ISN_QUAL_OVLD (n : Nat) : Fld := ⟨R.ISN_QUAL n, 13, 3⟩
def ISN_QUAL_TRIP (n : Nat) : Fld := ⟨R.ISN_QUAL n, 16, 1⟩
def ISN_QUALB_VAL : Fld := ⟨R.ISN_QUALB, 0, 1⟩
def ISN_QUALB_REC : Fld := ⟨R.ISN_QUALB, 3, 1⟩
def ISN_QUALB_STALE : Fld := ⟨R.ISN_QUALB, 4, 1⟩
def ISN_QUALB_AGE : Fld := ⟨R.ISN_QUALB, 5, 8⟩
def ISN_QUALB_OVLD : Fld := ⟨R.ISN_QUALB, 13, 1⟩
def ISN_QUALB_TRIP : Fld := ⟨R.ISN_QUALB, 16, 1⟩
def ISN_VBUS_V : Fld := ⟨R.ISN_VBUS, 0, 36⟩
def ISN_MISS_CNT : Fld := ⟨R.ISN_MISS, 0, 16⟩
def ISN_REC_CNT : Fld := ⟨R.ISN_REC, 0, 16⟩
def ISN_STALE_CNT : Fld := ⟨R.ISN_STALE, 0, 16⟩
def ISN_RAW_BITS (i : Nat) : Fld := ⟨R.ISN_RAW i, 0, 32⟩
def ISN_RAW_SLOT (i : Nat) : Fld := ⟨R.ISN_RAW i, 32, 4⟩
def FCE_CTRL_EN (n : Nat) : Fld := ⟨R.FCE_CTRL n, 0, 1⟩
def FCE_CTRL_TRIG (n : Nat) : Fld := ⟨R.FCE_CTRL n, 1, 1⟩
def FCE_CTRL_RGCL (n : Nat) : Fld := ⟨R.FCE_CTRL n, 2, 1⟩
def FCE_STAT_DSC (n : Nat) : Fld := ⟨R.FCE_STAT n, 0, 2⟩
def FCE_STAT_PHASE (n : Nat) : Fld := ⟨R.FCE_STAT n, 2, 2⟩
def FCE_STAT_HO (n : Nat) : Fld := ⟨R.FCE_STAT n, 4, 1⟩
def FCE_STAT_HOK (n : Nat) : Fld := ⟨R.FCE_STAT n, 5, 8⟩
def FCE_STAT_SAFE (n : Nat) : Fld := ⟨R.FCE_STAT n, 13, 1⟩
def FCE_STAT_IMG (n : Nat) : Fld := ⟨R.FCE_STAT n, 14, 1⟩
def FCE_STAT_LOADING (n : Nat) : Fld := ⟨R.FCE_STAT n, 15, 1⟩
def FCE_STAT_CFGERR (n : Nat) : Fld := ⟨R.FCE_STAT n, 16, 1⟩
def FCE_STAT_SKIP (n : Nat) : Fld := ⟨R.FCE_STAT n, 17, 3⟩
def FCE_CFG_CLS (n : Nat) : Fld := ⟨R.FCE_CFG n, 0, 2⟩
def FCE_CFG_MIDX (n : Nat) : Fld := ⟨R.FCE_CFG n, 2, 4⟩
def FCE_CFG_AGEL (n : Nat) : Fld := ⟨R.FCE_CFG n, 6, 8⟩
def FCE_CFG_COMHO (n : Nat) : Fld := ⟨R.FCE_CFG n, 14, 1⟩
def FCE_CFG_SSDSC (n : Nat) : Fld := ⟨R.FCE_CFG n, 15, 2⟩
def FCE_IMGBASE_BASE (n : Nat) : Fld := ⟨R.FCE_IMGBASE n, 0, 24⟩
def FCE_CMD_LOAD (n : Nat) : Fld := ⟨R.FCE_CMD n, 0, 1⟩
def FCE_HOCFG_HOF (n : Nat) : Fld := ⟨R.FCE_HOCFG n, 0, 8⟩
def FCE_HOTOL_TOL (n : Nat) : Fld := ⟨R.FCE_HOTOL n, 0, 36⟩
def FCE_VBMIN_VBMIN (n : Nat) : Fld := ⟨R.FCE_VBMIN n, 0, 36⟩
def FCE_RCFG_RBASE (n : Nat) : Fld := ⟨R.FCE_RCFG n, 0, 24⟩
def FCE_RCFG_RSZ (n : Nat) : Fld := ⟨R.FCE_RCFG n, 24, 4⟩
def FCE_RCFG_REN (n : Nat) : Fld := ⟨R.FCE_RCFG n, 28, 1⟩
def FCE_INTG_I (n : Nat) (i : Nat) : Fld := ⟨R.FCE_INTG n i, 0, 36⟩
def FCE_ID_V (n : Nat) : Fld := ⟨R.FCE_ID n, 0, 36⟩
def FCE_IQ_V (n : Nat) : Fld := ⟨R.FCE_IQ n, 0, 36⟩
def FCE_VD_V (n : Nat) : Fld := ⟨R.FCE_VD n, 0, 36⟩
def FCE_VQ_V (n : Nat) : Fld := ⟨R.FCE_VQ n, 0, 36⟩
def FCE_THO_ANG (n : Nat) : Fld := ⟨R.FCE_THO n, 0, 36⟩
def FCE_OTS_TS (n : Nat) : Fld := ⟨R.FCE_OTS n, 0, 36⟩
def FCE_OLAT_LAT (n : Nat) : Fld := ⟨R.FCE_OLAT n, 0, 12⟩
def FCE_OLAT_AGE (n : Nat) : Fld := ⟨R.FCE_OLAT n, 12, 18⟩
def FCE_REGN_ROW (n : Nat) : Fld := ⟨R.FCE_REGN n, 0, 3⟩
def FCE_REGN_COL (n : Nat) : Fld := ⟨R.FCE_REGN n, 3, 3⟩
def FCE_REGN_GSET (n : Nat) : Fld := ⟨R.FCE_REGN n, 6, 4⟩
def FCE_SKCNT_CNT (n : Nat) : Fld := ⟨R.FCE_SKCNT n, 0, 16⟩
def FCE_OVRCNT_CNT (n : Nat) : Fld := ⟨R.FCE_OVRCNT n, 0, 16⟩
def FCE_LATMAX_LAT (n : Nat) : Fld := ⟨R.FCE_LATMAX n, 0, 12⟩
def SDP_CTRL_RUN : Fld := ⟨R.SDP_CTRL, 0, 1⟩
def SDP_CTRL_FIEN : Fld := ⟨R.SDP_CTRL, 1, 1⟩
def SDP_CTRL_CLS : Fld := ⟨R.SDP_CTRL, 2, 2⟩
def SDP_STAT_STATE : Fld := ⟨R.SDP_STAT, 0, 2⟩
def SDP_STAT_INFI : Fld := ⟨R.SDP_STAT, 2, 1⟩
def SDP_STAT_BANK : Fld := ⟨R.SDP_STAT, 3, 1⟩
def SDP_STAT_HCAUSE : Fld := ⟨R.SDP_STAT, 4, 4⟩
def SDP_STAT_HPC : Fld := ⟨R.SDP_STAT, 8, 11⟩
def SDP_STAT_HRESP : Fld := ⟨R.SDP_STAT, 19, 4⟩
def SDP_STAT_LVL : Fld := ⟨R.SDP_STAT, 23, 3⟩
def SDP_ENTRY_ADDR : Fld := ⟨R.SDP_ENTRY, 0, 11⟩
def SDP_FIVEC_ADDR : Fld := ⟨R.SDP_FIVEC, 0, 11⟩
def SDP_CMD_CLR : Fld := ⟨R.SDP_CMD, 0, 1⟩
def SDP_TMR_PER : Fld := ⟨R.SDP_TMR, 0, 16⟩
def SDP_TMR_EN : Fld := ⟨R.SDP_TMR, 16, 1⟩
def SDP_OVF_OVB0 : Fld := ⟨R.SDP_OVF, 0, 1⟩
def SDP_OVF_OVB1 : Fld := ⟨R.SDP_OVF, 1, 1⟩
def SDP_HAZCNT_CNT : Fld := ⟨R.SDP_HAZCNT, 0, 16⟩
def SDP_MBX_DATA (i : Nat) : Fld := ⟨R.SDP_MBX i, 0, 36⟩
def QEP_CTRL_EN (n : Nat) : Fld := ⟨R.QEP_CTRL n, 0, 1⟩
def QEP_CTRL_MODE (n : Nat) : Fld := ⟨R.QEP_CTRL n, 1, 2⟩
def QEP_CTRL_SWAPD (n : Nat) : Fld := ⟨R.QEP_CTRL n, 3, 1⟩
def QEP_CTRL_DIFF (n : Nat) : Fld := ⟨R.QEP_CTRL n, 4, 1⟩
def QEP_CTRL_FLT (n : Nat) : Fld := ⟨R.QEP_CTRL n, 5, 4⟩
def QEP_CTRL_ZQS (n : Nat) : Fld := ⟨R.QEP_CTRL n, 9, 2⟩
def QEP_CTRL_ZPOL (n : Nat) : Fld := ⟨R.QEP_CTRL n, 11, 1⟩
def QEP_CTRL_ZEN (n : Nat) : Fld := ⟨R.QEP_CTRL n, 12, 1⟩
def QEP_STAT_DIR (n : Nat) : Fld := ⟨R.QEP_STAT n, 0, 1⟩
def QEP_STAT_SPDV (n : Nat) : Fld := ⟨R.QEP_STAT n, 1, 1⟩
def QEP_STAT_SPDD (n : Nat) : Fld := ⟨R.QEP_STAT n, 2, 1⟩
def QEP_STAT_IVAL (n : Nat) : Fld := ⟨R.QEP_STAT n, 3, 1⟩
def QEP_STAT_IREF (n : Nat) : Fld := ⟨R.QEP_STAT n, 4, 1⟩
def QEP_STAT_WIRE (n : Nat) : Fld := ⟨R.QEP_STAT n, 5, 3⟩
def QEP_STAT_LVL (n : Nat) : Fld := ⟨R.QEP_STAT n, 8, 3⟩
def QEP_STAT_NSEQ (n : Nat) : Fld := ⟨R.QEP_STAT n, 11, 4⟩
def QEP_FLG_DIRC (n : Nat) : Fld := ⟨R.QEP_FLG n, 0, 1⟩
def QEP_FLG_CMPH (n : Nat) : Fld := ⟨R.QEP_FLG n, 1, 1⟩
def QEP_FLG_CMPB (n : Nat) : Fld := ⟨R.QEP_FLG n, 2, 1⟩
def QEP_FLG_IDX (n : Nat) : Fld := ⟨R.QEP_FLG n, 3, 1⟩
def QEP_FLG_QERRF (n : Nat) : Fld := ⟨R.QEP_FLG n, 4, 1⟩
def QEP_POS_POS (n : Nat) : Fld := ⟨R.QEP_POS n, 0, 36⟩
def QEP_TEDGE_T (n : Nat) : Fld := ⟨R.QEP_TEDGE n, 0, 36⟩
def QEP_ITS_T (n : Nat) : Fld := ⟨R.QEP_ITS n, 0, 36⟩
def QEP_CTS_T (n : Nat) : Fld := ⟨R.QEP_CTS n, 0, 36⟩
def QEP_SPD_SPD (n : Nat) : Fld := ⟨R.QEP_SPD n, 0, 36⟩
def QEP_PER_T (n : Nat) : Fld := ⟨R.QEP_PER n, 0, 36⟩
def QEP_SPCFG_SPDE (n : Nat) : Fld := ⟨R.QEP_SPCFG n, 0, 2⟩
def QEP_SPCFG_SSTO (n : Nat) : Fld := ⟨R.QEP_SPCFG n, 2, 16⟩
def QEP_SPCFG_DECAY (n : Nat) : Fld := ⟨R.QEP_SPCFG n, 18, 1⟩
def QEP_CPR_CPR (n : Nat) : Fld := ⟨R.QEP_CPR n, 0, 36⟩
def QEP_DTOL_DTOL (n : Nat) : Fld := ⟨R.QEP_DTOL n, 0, 16⟩
def QEP_ILATCH_POS (n : Nat) : Fld := ⟨R.QEP_ILATCH n, 0, 36⟩
def QEP_ILPREV_POS (n : Nat) : Fld := ⟨R.QEP_ILPREV n, 0, 36⟩
def QEP_CMP_CMP (n : Nat) : Fld := ⟨R.QEP_CMP n, 0, 36⟩
def QEP_CMPCFG_CEN (n : Nat) : Fld := ⟨R.QEP_CMPCFG n, 0, 1⟩
def QEP_CMPCFG_CDIR (n : Nat) : Fld := ⟨R.QEP_CMPCFG n, 1, 1⟩
def QEP_CMPCFG_STEP (n : Nat) : Fld := ⟨R.QEP_CMPCFG n, 2, 20⟩
def QEP_DIV_N (n : Nat) : Fld := ⟨R.QEP_DIV n, 0, 18⟩
def QEP_DIV_M (n : Nat) : Fld := ⟨R.QEP_DIV n, 18, 18⟩
def QEP_DOCTL_DOEN (n : Nat) : Fld := ⟨R.QEP_DOCTL n, 0, 1⟩
def QEP_DOCTL_ZOSEL (n : Nat) : Fld := ⟨R.QEP_DOCTL n, 1, 2⟩
def QEP_DOCTL_CPW (n : Nat) : Fld := ⟨R.QEP_DOCTL n, 3, 8⟩
def QEP_WCFG_WFT (n : Nat) : Fld := ⟨R.QEP_WCFG n, 0, 8⟩
def QEP_WCFG_WLT (n : Nat) : Fld := ⟨R.QEP_WCFG n, 8, 8⟩
def QEP_WCFG_WSTK (n : Nat) : Fld := ⟨R.QEP_WCFG n, 16, 8⟩
def QEP_WCFG_PTEN (n : Nat) : Fld := ⟨R.QEP_WCFG n, 24, 1⟩
def QEP_ERR_QERR (n : Nat) : Fld := ⟨R.QEP_ERR n, 0, 12⟩
def QEP_ERR_DRIFT (n : Nat) : Fld := ⟨R.QEP_ERR n, 12, 12⟩
def QEP_ERR_WIRE (n : Nat) : Fld := ⟨R.QEP_ERR n, 24, 12⟩
def QEP_SPOS_ALL (n : Nat) : Fld := ⟨R.QEP_SPOS n, 0, 36⟩
def QEP_STS_ALL (n : Nat) : Fld := ⟨R.QEP_STS n, 0, 36⟩
def QEP_SSPD_ALL (n : Nat) : Fld := ⟨R.QEP_SSPD n, 0, 36⟩
def QEP_SSTAT_SPDV (n : Nat) : Fld := ⟨R.QEP_SSTAT n, 0, 1⟩
def QEP_SSTAT_DIR (n : Nat) : Fld := ⟨R.QEP_SSTAT n, 1, 1⟩
def QEP_SSTAT_WIRE (n : Nat) : Fld := ⟨R.QEP_SSTAT n, 2, 3⟩
def QEP_SSTAT_EN (n : Nat) : Fld := ⟨R.QEP_SSTAT n, 5, 1⟩
def SENT_SUPCTRL_EN : Fld := ⟨R.SENT_SUPCTRL, 0, 4⟩
def SENT_SUPCTRL_AUTOR : Fld := ⟨R.SENT_SUPCTRL, 4, 4⟩
def SENT_CFG_EN (n : Nat) : Fld := ⟨R.SENT_CFG n, 0, 1⟩
def SENT_CFG_TICK (n : Nat) : Fld := ⟨R.SENT_CFG n, 1, 10⟩
def SENT_CFG_NIB (n : Nat) : Fld := ⟨R.SENT_CFG n, 11, 3⟩
def SENT_CFG_PAUSE (n : Nat) : Fld := ⟨R.SENT_CFG n, 14, 2⟩
def SENT_CFG_CRCV (n : Nat) : Fld := ⟨R.SENT_CFG n, 16, 1⟩
def SENT_CFG_SER (n : Nat) : Fld := ⟨R.SENT_CFG n, 17, 2⟩
def SENT_CFG_SPLIT (n : Nat) : Fld := ⟨R.SENT_CFG n, 19, 1⟩
def SENT_CFG_SFT (n : Nat) : Fld := ⟨R.SENT_CFG n, 20, 5⟩
def SENT_STAT_SYNC (n : Nat) : Fld := ⟨R.SENT_STAT n, 0, 1⟩
def SENT_STAT_LINE (n : Nat) : Fld := ⟨R.SENT_STAT n, 1, 2⟩
def SENT_STAT_FCV (n : Nat) : Fld := ⟨R.SENT_STAT n, 3, 1⟩
def SENT_STAT_SMV (n : Nat) : Fld := ⟨R.SENT_STAT n, 4, 1⟩
def SENT_STAT_ERRC (n : Nat) : Fld := ⟨R.SENT_STAT n, 5, 4⟩
def SENT_STAT_CFGERR (n : Nat) : Fld := ⟨R.SENT_STAT n, 9, 1⟩
def SENT_FC_VALUE (n : Nat) : Fld := ⟨R.SENT_FC n, 0, 24⟩
def SENT_FC_STATUS (n : Nat) : Fld := ⟨R.SENT_FC n, 24, 4⟩
def SENT_FC2_VALUE (n : Nat) : Fld := ⟨R.SENT_FC2 n, 0, 12⟩
def SENT_TS_TS (n : Nat) : Fld := ⟨R.SENT_TS n, 0, 36⟩
def SENT_TICK_TICK (n : Nat) : Fld := ⟨R.SENT_TICK n, 0, 16⟩
def SENT_SM_DATA (n : Nat) : Fld := ⟨R.SENT_SM n, 0, 16⟩
def SENT_SM_ID (n : Nat) : Fld := ⟨R.SENT_SM n, 16, 8⟩
def SENT_SM_ENH (n : Nat) : Fld := ⟨R.SENT_SM n, 24, 1⟩
def SENT_SM_CFG (n : Nat) : Fld := ⟨R.SENT_SM n, 25, 1⟩
def SENT_ERR_CAL (n : Nat) : Fld := ⟨R.SENT_ERR n, 0, 8⟩
def SENT_ERR_NIBL (n : Nat) : Fld := ⟨R.SENT_ERR n, 8, 8⟩
def SENT_ERR_CRC (n : Nat) : Fld := ⟨R.SENT_ERR n, 16, 8⟩
def SENT_ERR_SER (n : Nat) : Fld := ⟨R.SENT_ERR n, 24, 8⟩
def SENT_SFC_ALL (n : Nat) : Fld := ⟨R.SENT_SFC n, 0, 28⟩
def SENT_SAGE_AGE (n : Nat) : Fld := ⟨R.SENT_SAGE n, 0, 20⟩
def SENT_SAGE_VALID (n : Nat) : Fld := ⟨R.SENT_SAGE n, 20, 1⟩
def SIO_CTRL_EN : Fld := ⟨R.SIO_CTRL, 0, 1⟩
def SIO_CTRL_TPEN : Fld := ⟨R.SIO_CTRL, 1, 1⟩
def SIO_CTRL_OEN : Fld := ⟨R.SIO_CTRL, 2, 1⟩
def SIO_STAT_CFGV : Fld := ⟨R.SIO_STAT, 0, 1⟩
def SIO_STAT_SEALD : Fld := ⟨R.SIO_STAT, 1, 1⟩
def SIO_STAT_STRAPOK : Fld := ⟨R.SIO_STAT, 2, 1⟩
def SIO_STAT_STRAP : Fld := ⟨R.SIO_STAT, 3, 6⟩
def SIO_STAT_SOPEN : Fld := ⟨R.SIO_STAT, 9, 6⟩
def SIO_STAT_CFGERR : Fld := ⟨R.SIO_STAT, 15, 1⟩
def SIO_IRES_RES : Fld := ⟨R.SIO_IRES, 0, 8⟩
def SIO_IRES_DLAT : Fld := ⟨R.SIO_IRES, 8, 8⟩
def SIO_IRES_STG1 : Fld := ⟨R.SIO_IRES, 16, 8⟩
def SIO_IRES_FORCED : Fld := ⟨R.SIO_IRES, 24, 8⟩
def SIO_ICH_A : Fld := ⟨R.SIO_ICH, 0, 8⟩
def SIO_ICH_B : Fld := ⟨R.SIO_ICH, 8, 8⟩
def SIO_ICH_AMSK : Fld := ⟨R.SIO_ICH, 16, 8⟩
def SIO_ICH_BMSK : Fld := ⟨R.SIO_ICH, 24, 8⟩
def SIO_SRES_ALL : Fld := ⟨R.SIO_SRES, 0, 32⟩
def SIO_OSTAT_CMD : Fld := ⟨R.SIO_OSTAT, 0, 4⟩
def SIO_OSTAT_PIN : Fld := ⟨R.SIO_OSTAT, 4, 4⟩
def SIO_OSTAT_GATE : Fld := ⟨R.SIO_OSTAT, 8, 4⟩
def SIO_OSTAT_INTEST : Fld := ⟨R.SIO_OSTAT, 12, 4⟩
def SIO_TPSTAT_LVL : Fld := ⟨R.SIO_TPSTAT, 0, 4⟩
def SIO_TPSTAT_WIN : Fld := ⟨R.SIO_TPSTAT, 4, 4⟩
def SIO_OUTSW_SW : Fld := ⟨R.SIO_OUTSW, 0, 4⟩
def SIO_FLT_DISCP : Fld := ⟨R.SIO_FLT, 0, 8⟩
def SIO_FLT_TPFA : Fld := ⟨R.SIO_FLT, 8, 8⟩
def SIO_FLT_TPFB : Fld := ⟨R.SIO_FLT, 16, 8⟩
def SIO_FLT_TPOF : Fld := ⟨R.SIO_FLT, 24, 4⟩
def SIO_FLT_OSTK : Fld := ⟨R.SIO_FLT, 28, 4⟩
def SIO_FLT_OOVL : Fld := ⟨R.SIO_FLT, 32, 4⟩
def SIO_CMD_OCLR : Fld := ⟨R.SIO_CMD, 0, 4⟩
def SIO_DCNT_CNT : Fld := ⟨R.SIO_DCNT, 0, 16⟩
def SIO_TPFCNT_CNT : Fld := ⟨R.SIO_TPFCNT, 0, 16⟩
def SIO_CFGID_HDR : Fld := ⟨R.SIO_CFGID, 0, 36⟩
def SIO_ICFG_PEN (i : Nat) : Fld := ⟨R.SIO_ICFG i, 0, 1⟩
def SIO_ICFG_APOL (i : Nat) : Fld := ⟨R.SIO_ICFG i, 1, 1⟩
def SIO_ICFG_BPOL (i : Nat) : Fld := ⟨R.SIO_ICFG i, 2, 1⟩
def SIO_ICFG_DISCT (i : Nat) : Fld := ⟨R.SIO_ICFG i, 3, 13⟩
def SIO_ICFG_DEB (i : Nat) : Fld := ⟨R.SIO_ICFG i, 16, 4⟩
def SIO_ICFG_ATPS (i : Nat) : Fld := ⟨R.SIO_ICFG i, 20, 3⟩
def SIO_ICFG_BTPS (i : Nat) : Fld := ⟨R.SIO_ICFG i, 23, 3⟩
def SIO_OCFG_SRC (i : Nat) : Fld := ⟨R.SIO_OCFG i, 0, 2⟩
def SIO_OCFG_OIDX (i : Nat) : Fld := ⟨R.SIO_OCFG i, 2, 4⟩
def SIO_OCFG_OBIT (i : Nat) : Fld := ⟨R.SIO_OCFG i, 6, 6⟩
def SIO_OCFG_LMASK (i : Nat) : Fld := ⟨R.SIO_OCFG i, 12, 8⟩
def SIO_OCFG_SHARED (i : Nat) : Fld := ⟨R.SIO_OCFG i, 20, 1⟩
def SIO_OCFG_SAFEV (i : Nat) : Fld := ⟨R.SIO_OCFG i, 21, 1⟩
def SIO_OCFG_OTEN (i : Nat) : Fld := ⟨R.SIO_OCFG i, 22, 1⟩
def SIO_TPCFG_TPPER : Fld := ⟨R.SIO_TPCFG, 0, 10⟩
def SIO_TPCFG_TPW : Fld := ⟨R.SIO_TPCFG, 10, 9⟩
def SIO_TPCFG_TPSET : Fld := ⟨R.SIO_TPCFG, 19, 8⟩
def SIO_OTCFG_OTPER : Fld := ⟨R.SIO_OTCFG, 0, 10⟩
def SIO_OTCFG_OTW : Fld := ⟨R.SIO_OTCFG, 10, 9⟩
def NCE_CTRL_EN : Fld := ⟨R.NCE_CTRL, 0, 1⟩
def NCE_CTRL_PEN0 : Fld := ⟨R.NCE_CTRL, 1, 1⟩
def NCE_CTRL_PEN1 : Fld := ⟨R.NCE_CTRL, 2, 1⟩
def NCE_CTRL_MS0 : Fld := ⟨R.NCE_CTRL, 3, 1⟩
def NCE_CTRL_MS1 : Fld := ⟨R.NCE_CTRL, 4, 1⟩
def NCE_CTRL_AUTOUNW : Fld := ⟨R.NCE_CTRL, 5, 1⟩
def NCE_CTRL_CLS : Fld := ⟨R.NCE_CTRL, 7, 2⟩
def NCE_STAT_PST0 : Fld := ⟨R.NCE_STAT, 0, 3⟩
def NCE_STAT_PST1 : Fld := ⟨R.NCE_STAT, 3, 3⟩
def NCE_STAT_WRAP : Fld := ⟨R.NCE_STAT, 6, 2⟩
def NCE_STAT_POSV0 : Fld := ⟨R.NCE_STAT, 8, 1⟩
def NCE_STAT_POSV1 : Fld := ⟨R.NCE_STAT, 9, 1⟩
def NCE_STAT_ISHEAD : Fld := ⟨R.NCE_STAT, 10, 1⟩
def NCE_STAT_CFGERR : Fld := ⟨R.NCE_STAT, 11, 1⟩
def NCE_STAT_GAPW : Fld := ⟨R.NCE_STAT, 12, 1⟩
def NCE_NODE_NODE : Fld := ⟨R.NCE_NODE, 0, 6⟩
def NCE_HEAD_HEAD : Fld := ⟨R.NCE_HEAD, 0, 6⟩
def NCE_CYC1_TCYC : Fld := ⟨R.NCE_CYC1, 0, 13⟩
def NCE_CYC1_NSS : Fld := ⟨R.NCE_CYC1, 13, 8⟩
def NCE_CYC2_SL : Fld := ⟨R.NCE_CYC2, 0, 9⟩
def NCE_CYC2_APO : Fld := ⟨R.NCE_CYC2, 9, 6⟩
def NCE_CYC2_TGAP : Fld := ⟨R.NCE_CYC2, 15, 13⟩
def NCE_CYC3_MSL : Fld := ⟨R.NCE_CYC3, 0, 6⟩
def NCE_CYC3_APOM : Fld := ⟨R.NCE_CYC3, 6, 6⟩
def NCE_CYC3_NMS : Fld := ⟨R.NCE_CYC3, 12, 11⟩
def NCE_WIN_WIN : Fld := ⟨R.NCE_WIN, 0, 10⟩
def NCE_NTAB0_ADM : Fld := ⟨R.NCE_NTAB0, 0, 36⟩
def NCE_NTAB1_ADM : Fld := ⟨R.NCE_NTAB1, 0, 28⟩
def NCE_POS_POS (i : Nat) : Fld := ⟨R.NCE_POS i, 0, 24⟩
def NCE_POS_V (i : Nat) : Fld := ⟨R.NCE_POS i, 24, 1⟩
def NCE_OFS_T : Fld := ⟨R.NCE_OFS, 0, 24⟩
def NCE_ROUND_T : Fld := ⟨R.NCE_ROUND, 0, 24⟩
def NCE_CYCLE_CYC : Fld := ⟨R.NCE_CYCLE, 0, 6⟩
def NCE_CYCLE_SEG : Fld := ⟨R.NCE_CYCLE, 6, 2⟩
def NCE_CYCLE_MC : Fld := ⟨R.NCE_CYCLE, 8, 11⟩
def NCE_STFID_BUF : Fld := ⟨R.NCE_STFID, 0, 6⟩
def NCE_STFID_STEN : Fld := ⟨R.NCE_STFID, 6, 1⟩
def NCE_CMD_WRAP0 : Fld := ⟨R.NCE_CMD, 0, 1⟩
def NCE_CMD_WRAP1 : Fld := ⟨R.NCE_CMD, 1, 1⟩
def NCE_CMD_UNWRAP : Fld := ⟨R.NCE_CMD, 2, 1⟩
def NCE_MIR_MBASE : Fld := ⟨R.NCE_MIR, 0, 24⟩
def NCE_MIR_EN : Fld := ⟨R.NCE_MIR, 24, 1⟩
def NCE_ERR_CRC (i : Nat) : Fld := ⟨R.NCE_ERR i, 0, 12⟩
def NCE_ERR_NOISE (i : Nat) : Fld := ⟨R.NCE_ERR i, 12, 12⟩
def NCE_ERR_WIN (i : Nat) : Fld := ⟨R.NCE_ERR i, 24, 12⟩
def NCE_DROP_STR : Fld := ⟨R.NCE_DROP, 0, 9⟩
def NCE_DROP_SCHED : Fld := ⟨R.NCE_DROP, 9, 9⟩
def NCE_DROP_VER : Fld := ⟨R.NCE_DROP, 18, 9⟩
def NCE_DROP_COLL : Fld := ⟨R.NCE_DROP, 27, 9⟩
def NCE_CNT2_NULLT : Fld := ⟨R.NCE_CNT2, 0, 9⟩
def NCE_CNT2_DUP : Fld := ⟨R.NCE_CNT2, 9, 9⟩
def NCE_CNT2_RCMD : Fld := ⟨R.NCE_CNT2, 18, 9⟩
def NCE_CNT2_UNW : Fld := ⟨R.NCE_CNT2, 27, 4⟩
def NCE_CNT2_DSKIP : Fld := ⟨R.NCE_CNT2, 31, 5⟩
def NCE_LOOPCNT_CNT : Fld := ⟨R.NCE_LOOPCNT, 0, 16⟩
def NCE_POSCNT_CNT : Fld := ⟨R.NCE_POSCNT, 0, 16⟩
def NCE_SCHED_OWNER (m : Nat) (j : Nat) : Fld := ⟨R.NCE_SCHED m j, 0, 6⟩
def NCE_SCHED_EN (m : Nat) (j : Nat) : Fld := ⟨R.NCE_SCHED m j, 6, 1⟩
def NCE_SCHED_SYNC (m : Nat) (j : Nat) : Fld := ⟨R.NCE_SCHED m j, 7, 1⟩
def NCE_BCTL_FID (b : Nat) : Fld := ⟨R.NCE_BCTL b, 0, 11⟩
def NCE_BCTL_DIR (b : Nat) : Fld := ⟨R.NCE_BCTL b, 11, 1⟩
def NCE_BCTL_EN (b : Nat) : Fld := ⟨R.NCE_BCTL b, 12, 1⟩
def NCE_BCTL_RDY (b : Nat) : Fld := ⟨R.NCE_BCTL b, 13, 1⟩
def NCE_BCTL_ONCE (b : Nat) : Fld := ⟨R.NCE_BCTL b, 14, 1⟩
def NCE_BCTL_CMD (b : Nat) : Fld := ⟨R.NCE_BCTL b, 15, 1⟩
def NCE_BCTL_SNAP (b : Nat) : Fld := ⟨R.NCE_BCTL b, 16, 1⟩
def NCE_BCTL_IE (b : Nat) : Fld := ⟨R.NCE_BCTL b, 17, 1⟩
def NCE_BCTL_CBASE (b : Nat) : Fld := ⟨R.NCE_BCTL b, 18, 6⟩
def NCE_BCTL_CREP (b : Nat) : Fld := ⟨R.NCE_BCTL b, 24, 3⟩
def NCE_BCTL_LEN (b : Nat) : Fld := ⟨R.NCE_BCTL b, 27, 6⟩
def NCE_BSTAT_CYC (b : Nat) : Fld := ⟨R.NCE_BSTAT b, 0, 6⟩
def NCE_BSTAT_RLEN (b : Nat) : Fld := ⟨R.NCE_BSTAT b, 6, 6⟩
def NCE_BSTAT_NULLR (b : Nat) : Fld := ⟨R.NCE_BSTAT b, 12, 1⟩
def NCE_BSTAT_PATH (b : Nat) : Fld := ⟨R.NCE_BSTAT b, 13, 1⟩
def NCE_BSTAT_OVR (b : Nat) : Fld := ⟨R.NCE_BSTAT b, 14, 1⟩
def NCE_BSTAT_VALID (b : Nat) : Fld := ⟨R.NCE_BSTAT b, 15, 1⟩
def NCE_BSTAT_BUSY (b : Nat) : Fld := ⟨R.NCE_BSTAT b, 16, 1⟩
def NCE_BSTAT_SENT (b : Nat) : Fld := ⟨R.NCE_BSTAT b, 17, 1⟩
def NCE_BSTAT_NULLT (b : Nat) : Fld := ⟨R.NCE_BSTAT b, 18, 1⟩
def NCE_BTS_TS (b : Nat) : Fld := ⟨R.NCE_BTS b, 0, 36⟩
def NCE_TSTAT_RSTATE : Fld := ⟨R.NCE_TSTAT, 0, 3⟩
def NCE_TSTAT_GUIDON : Fld := ⟨R.NCE_TSTAT, 3, 6⟩
def NCE_TSTAT_GVAL : Fld := ⟨R.NCE_TSTAT, 9, 1⟩
def NCE_TSTAT_ISG : Fld := ⟨R.NCE_TSTAT, 10, 1⟩
def NCE_TSTAT_OUTC : Fld := ⟨R.NCE_TSTAT, 11, 2⟩
def NCE_TSTAT_CSINH : Fld := ⟨R.NCE_TSTAT, 13, 1⟩
def NCE_CAND_ID0 : Fld := ⟨R.NCE_CAND, 0, 6⟩
def NCE_CAND_ID1 : Fld := ⟨R.NCE_CAND, 6, 6⟩
def NCE_CAND_ID2 : Fld := ⟨R.NCE_CAND, 12, 6⟩
def NCE_CAND_V0 : Fld := ⟨R.NCE_CAND, 18, 1⟩
def NCE_CAND_V1 : Fld := ⟨R.NCE_CAND, 19, 1⟩
def NCE_CAND_V2 : Fld := ⟨R.NCE_CAND, 20, 1⟩
def NCE_LDLY_D (i : Nat) : Fld := ⟨R.NCE_LDLY i, 0, 20⟩
def NCE_LDLY_V (i : Nat) : Fld := ⟨R.NCE_LDLY i, 20, 1⟩
def NCE_LDLY_SPR (i : Nat) : Fld := ⟨R.NCE_LDLY i, 21, 8⟩
def NCE_TOFF_E : Fld := ⟨R.NCE_TOFF, 0, 36⟩
def NCE_DRIFT_DRIFT : Fld := ⟨R.NCE_DRIFT, 0, 36⟩
def NCE_ADJ_A : Fld := ⟨R.NCE_ADJ, 0, 36⟩
def NCE_NTL_NT : Fld := ⟨R.NCE_NTL, 0, 36⟩
def NCE_NTH_NT : Fld := ⟨R.NCE_NTH, 0, 36⟩
def NCE_MODE_ACT : Fld := ⟨R.NCE_MODE, 0, 3⟩
def NCE_MODE_NEXT : Fld := ⟨R.NCE_MODE, 3, 3⟩
def NCE_MODE_NXV : Fld := ⟨R.NCE_MODE, 6, 1⟩
def NCE_MODE_RQ : Fld := ⟨R.NCE_MODE, 7, 3⟩
def NCE_MODE_RQV : Fld := ⟨R.NCE_MODE, 10, 1⟩
def NCE_MODE_ORIG : Fld := ⟨R.NCE_MODE, 11, 1⟩
def NCE_MODE_MREF : Fld := ⟨R.NCE_MODE, 12, 1⟩
def NCE_MODE_RQAGE : Fld := ⟨R.NCE_MODE, 13, 6⟩
def NCE_MREQ_RMODE : Fld := ⟨R.NCE_MREQ, 0, 3⟩
def NCE_MREQ_GO : Fld := ⟨R.NCE_MREQ, 3, 1⟩
def NCE_MCFG_MEN : Fld := ⟨R.NCE_MCFG, 0, 8⟩
def NCE_MCFG_MRTO : Fld := ⟨R.NCE_MCFG, 8, 6⟩
def NCE_SMODE_ALL : Fld := ⟨R.NCE_SMODE, 0, 7⟩
def NCE_VER_VCAP : Fld := ⟨R.NCE_VER, 0, 4⟩
def NCE_VER_OPMIN : Fld := ⟨R.NCE_VER, 4, 4⟩
def NCE_VER_VMAJ : Fld := ⟨R.NCE_VER, 8, 4⟩
def NCE_TCNT_CSAB : Fld := ⟨R.NCE_TCNT, 0, 6⟩
def NCE_TCNT_PASS : Fld := ⟨R.NCE_TCNT, 6, 6⟩
def NCE_TCNT_GCHG : Fld := ⟨R.NCE_TCNT, 12, 6⟩
def NCE_TCNT_MFAIL : Fld := ⟨R.NCE_TCNT, 18, 6⟩
def NCE_TCNT_FOLW : Fld := ⟨R.NCE_TCNT, 24, 6⟩
def NCE_TCNT_DLYC : Fld := ⟨R.NCE_TCNT, 30, 6⟩
def MEMC_CTRL_WBEN : Fld := ⟨R.MEMC_CTRL, 0, 1⟩
def MEMC_CTRL_SCREN : Fld := ⟨R.MEMC_CTRL, 1, 1⟩
def MEMC_STAT_MBUSY : Fld := ⟨R.MEMC_STAT, 0, 1⟩
def MEMC_STAT_WIPE : Fld := ⟨R.MEMC_STAT, 1, 1⟩
def MEMC_STAT_TPEND : Fld := ⟨R.MEMC_STAT, 2, 1⟩
def MEMC_ECCCNT_SRAM : Fld := ⟨R.MEMC_ECCCNT, 0, 16⟩
def MEMC_ECCCNT_MRAM : Fld := ⟨R.MEMC_ECCCNT, 16, 16⟩
def MEMC_ECCADDR_ADDR : Fld := ⟨R.MEMC_ECCADDR, 0, 24⟩
def MEMC_ECCADDR_BIT : Fld := ⟨R.MEMC_ECCADDR, 24, 6⟩
def MEMC_ECCADDR_V : Fld := ⟨R.MEMC_ECCADDR, 30, 1⟩
def MEMC_UEADDR_ADDR : Fld := ⟨R.MEMC_UEADDR, 0, 24⟩
def MEMC_UEADDR_V : Fld := ⟨R.MEMC_UEADDR, 24, 1⟩
def MEMC_POISON_PB : Fld := ⟨R.MEMC_POISON, 0, 16⟩
def MEMC_RET_KEEP : Fld := ⟨R.MEMC_RET, 0, 16⟩
def MEMC_RETST_RETF : Fld := ⟨R.MEMC_RETST, 0, 16⟩
def MEMC_RETST_KEPT : Fld := ⟨R.MEMC_RETST, 16, 16⟩
def MEMC_MCMD_START : Fld := ⟨R.MEMC_MCMD, 0, 1⟩
def MEMC_MCMD_ABORT : Fld := ⟨R.MEMC_MCMD, 1, 1⟩
def MEMC_MCFG_BANKS : Fld := ⟨R.MEMC_MCFG, 0, 16⟩
def MEMC_MCFG_FORM : Fld := ⟨R.MEMC_MCFG, 16, 1⟩
def MEMC_MCFG_BG : Fld := ⟨R.MEMC_MCFG, 17, 2⟩
def MEMC_MCFG_ALLBG : Fld := ⟨R.MEMC_MCFG, 19, 1⟩
def MEMC_MCFG_REPAIR : Fld := ⟨R.MEMC_MCFG, 20, 1⟩
def MEMC_MCFG_FUSE : Fld := ⟨R.MEMC_MCFG, 21, 1⟩
def MEMC_MSTAT_STATE : Fld := ⟨R.MEMC_MSTAT, 0, 3⟩
def MEMC_MSTAT_FAILB : Fld := ⟨R.MEMC_MSTAT, 3, 16⟩
def MEMC_MSTAT_UNREP : Fld := ⟨R.MEMC_MSTAT, 19, 16⟩
def MEMC_MFAIL_ADDR : Fld := ⟨R.MEMC_MFAIL, 0, 24⟩
def MEMC_MFAIL_BIT : Fld := ⟨R.MEMC_MFAIL, 24, 6⟩
def MEMC_MFAIL_ELEM : Fld := ⟨R.MEMC_MFAIL, 30, 3⟩
def MEMC_MFAIL_BGN : Fld := ⟨R.MEMC_MFAIL, 33, 2⟩
def MEMC_MFAIL_V : Fld := ⟨R.MEMC_MFAIL, 35, 1⟩
def MEMC_MFCNT_CNT : Fld := ⟨R.MEMC_MFCNT, 0, 24⟩
def MEMC_TAMP_LID : Fld := ⟨R.MEMC_TAMP, 0, 1⟩
def MEMC_TAMP_VGL : Fld := ⟨R.MEMC_TAMP, 1, 1⟩
def MEMC_TAMP_CGL : Fld := ⟨R.MEMC_TAMP, 2, 1⟩
def MEMC_TAMP_TEMP : Fld := ⟨R.MEMC_TAMP, 3, 1⟩
def MEMC_WIPECNT_CNT : Fld := ⟨R.MEMC_WIPECNT, 0, 16⟩
def MEMC_SCRPOS_BLOCK : Fld := ⟨R.MEMC_SCRPOS, 0, 17⟩
def MEMC_SCRPOS_PASS : Fld := ⟨R.MEMC_SCRPOS, 17, 19⟩
def MEMC_SCRCNT_CORR : Fld := ⟨R.MEMC_SCRCNT, 0, 16⟩
def MEMC_SCRCNT_UNC : Fld := ⟨R.MEMC_SCRCNT, 16, 12⟩
def MEMC_SCRADDR_ADDR : Fld := ⟨R.MEMC_SCRADDR, 0, 24⟩
def MEMC_SCRADDR_V : Fld := ⟨R.MEMC_SCRADDR, 24, 1⟩
def MEMC_REP_RF (i : Nat) : Fld := ⟨R.MEMC_REP i, 0, 4⟩
def MEMC_REP_RS (i : Nat) : Fld := ⟨R.MEMC_REP i, 4, 4⟩
def MEMC_REP_CF (i : Nat) : Fld := ⟨R.MEMC_REP i, 8, 2⟩
def MEMC_REP_CS (i : Nat) : Fld := ⟨R.MEMC_REP i, 10, 2⟩
def DMA_SRC_ADDR (c : Nat) : Fld := ⟨R.DMA_SRC c, 0, 24⟩
def DMA_DST_ADDR (c : Nat) : Fld := ⟨R.DMA_DST c, 0, 24⟩
def DMA_CNT_CNT (c : Nat) : Fld := ⟨R.DMA_CNT c, 0, 16⟩
def DMA_CTL_EN (c : Nat) : Fld := ⟨R.DMA_CTL c, 0, 1⟩
def DMA_CTL_SINC (c : Nat) : Fld := ⟨R.DMA_CTL c, 1, 1⟩
def DMA_CTL_DINC (c : Nat) : Fld := ⟨R.DMA_CTL c, 2, 1⟩
def DMA_CTL_CLS (c : Nat) : Fld := ⟨R.DMA_CTL c, 3, 2⟩
def DMA_CTL_TSRC (c : Nat) : Fld := ⟨R.DMA_CTL c, 5, 8⟩
def DMA_CTL_TEN (c : Nat) : Fld := ⟨R.DMA_CTL c, 13, 1⟩
def DMA_STAT_BUSY (i : Nat) : Fld := ⟨R.DMA_STAT i, 0, 1⟩
def DMA_STAT_RESP (i : Nat) : Fld := ⟨R.DMA_STAT i, 1, 4⟩
def DMA_STAT_ERR (i : Nat) : Fld := ⟨R.DMA_STAT i, 5, 1⟩
def DMA_STAT_LEFT (i : Nat) : Fld := ⟨R.DMA_STAT i, 6, 16⟩
def DMA_WLCNT_CNT : Fld := ⟨R.DMA_WLCNT, 0, 16⟩
def DMA_LOST_CNT : Fld := ⟨R.DMA_LOST, 0, 16⟩
def PWR_CTRL_IDLEEN : Fld := ⟨R.PWR_CTRL, 0, 1⟩
def PWR_CMD_TARGET : Fld := ⟨R.PWR_CMD, 0, 3⟩
def PWR_CMD_PADREL : Fld := ⟨R.PWR_CMD, 3, 1⟩
def PWR_CMD_CANCEL : Fld := ⟨R.PWR_CMD, 4, 1⟩
def PWR_STAT_PADHOLD : Fld := ⟨R.PWR_STAT, 0, 1⟩
def PWR_STAT_LAST : Fld := ⟨R.PWR_STAT, 1, 2⟩
def PWR_STAT_RESTORED : Fld := ⟨R.PWR_STAT, 3, 1⟩
def PWR_STAT_SAVF : Fld := ⟨R.PWR_STAT, 4, 1⟩
def PWR_STAT_PEND : Fld := ⟨R.PWR_STAT, 5, 3⟩
def PWR_WAKECFG_WPEN : Fld := ⟨R.PWR_WAKECFG, 0, 1⟩
def PWR_WAKECFG_RTCEN : Fld := ⟨R.PWR_WAKECFG, 1, 1⟩
def PWR_WAKECFG_ED0EN : Fld := ⟨R.PWR_WAKECFG, 2, 1⟩
def PWR_WAKECFG_ED1EN : Fld := ⟨R.PWR_WAKECFG, 3, 1⟩
def PWR_WAKECFG_SVPEN : Fld := ⟨R.PWR_WAKECFG, 4, 1⟩
def PWR_WAKECFG_BCEN : Fld := ⟨R.PWR_WAKECFG, 5, 1⟩
def PWR_WAKECFG_WFLT : Fld := ⟨R.PWR_WAKECFG, 6, 8⟩
def PWR_SVPADR_ADDR : Fld := ⟨R.PWR_SVPADR, 0, 8⟩
def PWR_WSRC_ACT : Fld := ⟨R.PWR_WSRC, 0, 5⟩
def PWR_WSRC_FIRST : Fld := ⟨R.PWR_WSRC, 5, 3⟩
def PWR_DOMOFF_OFF : Fld := ⟨R.PWR_DOMOFF, 0, 5⟩
def PWR_DOMST_PWRD : Fld := ⟨R.PWR_DOMST, 0, 5⟩
def PWR_DOMST_WAKING : Fld := ⟨R.PWR_DOMST, 5, 5⟩
def PWR_REFUSE_CNT_CNT : Fld := ⟨R.PWR_REFUSE_CNT, 0, 16⟩
def PWR_REFUSER_CODE : Fld := ⟨R.PWR_REFUSER, 0, 4⟩
def PWR_REFUSER_TGT : Fld := ⟨R.PWR_REFUSER, 4, 3⟩
def PWR_SUP_VIOUV : Fld := ⟨R.PWR_SUP, 0, 1⟩
def PWR_SUP_VANUV : Fld := ⟨R.PWR_SUP, 1, 1⟩
def PWR_SUP_VBKLO : Fld := ⟨R.PWR_SUP, 2, 1⟩
def CLK_CTRL_WTHR : Fld := ⟨R.CLK_CTRL, 0, 3⟩
def CLK_STAT_PLLLK : Fld := ⟨R.CLK_STAT, 0, 1⟩
def CLK_STAT_WARN : Fld := ⟨R.CLK_STAT, 1, 1⟩
def CLK_STAT_DEV : Fld := ⟨R.CLK_STAT, 2, 8⟩
def CLK_WCNT_CNT : Fld := ⟨R.CLK_WCNT, 0, 16⟩
def CLK_RCNT_CNT : Fld := ⟨R.CLK_RCNT, 0, 8⟩
def RTC_CTRL_ALMEN : Fld := ⟨R.RTC_CTRL, 0, 1⟩
def RTC_STAT_VALID : Fld := ⟨R.RTC_STAT, 0, 1⟩
def RTC_STAT_XOK : Fld := ⟨R.RTC_STAT, 1, 1⟩
def RTC_STAT_ONVBK : Fld := ⟨R.RTC_STAT, 2, 1⟩
def RTC_FLG_AF : Fld := ⟨R.RTC_FLG, 0, 1⟩
def RTC_FLG_APAST : Fld := ⟨R.RTC_FLG, 1, 1⟩
def RTC_FLG_XSTOP : Fld := ⟨R.RTC_FLG, 2, 1⟩
def RTC_TIMEL_SEC : Fld := ⟨R.RTC_TIMEL, 0, 36⟩
def RTC_SETL_SEC : Fld := ⟨R.RTC_SETL, 0, 36⟩
def RTC_ALML_SEC : Fld := ⟨R.RTC_ALML, 0, 36⟩
def RTC_TIMEH_SECH : Fld := ⟨R.RTC_TIMEH, 0, 12⟩
def RTC_SETH_SECH : Fld := ⟨R.RTC_SETH, 0, 12⟩
def RTC_ALMH_SECH : Fld := ⟨R.RTC_ALMH, 0, 12⟩
def RTC_TIMEH_SUB : Fld := ⟨R.RTC_TIMEH, 12, 15⟩
def RTC_SETH_SUB : Fld := ⟨R.RTC_SETH, 12, 15⟩
def RTC_ALMH_SUB : Fld := ⟨R.RTC_ALMH, 12, 15⟩
def RTC_CAL_CAL : Fld := ⟨R.RTC_CAL, 0, 9⟩
def RTC_CMD_SET : Fld := ⟨R.RTC_CMD, 0, 1⟩
def RTC_CMD_ADOPT : Fld := ⟨R.RTC_CMD, 1, 1⟩
def RTC_SNAPC_T : Fld := ⟨R.RTC_SNAPC, 0, 36⟩
def RTC_XREF_T : Fld := ⟨R.RTC_XREF, 0, 36⟩
def RTC_XDIFF_D : Fld := ⟨R.RTC_XDIFF, 0, 36⟩
def RTC_XTOL_TOL : Fld := ⟨R.RTC_XTOL, 0, 20⟩
def RTC_XCNT_CNT : Fld := ⟨R.RTC_XCNT, 0, 16⟩
def SYS_BURGEE0_STEPPING : Fld := ⟨R.SYS_BURGEE0, 0, 8⟩
def SYS_BURGEE0_PART : Fld := ⟨R.SYS_BURGEE0, 8, 8⟩
def SYS_BURGEE0_GRADE : Fld := ⟨R.SYS_BURGEE0, 16, 1⟩
def SYS_BURGEE0_LANE : Fld := ⟨R.SYS_BURGEE0, 17, 2⟩
def SYS_BURGEE0_LCS : Fld := ⟨R.SYS_BURGEE0, 19, 3⟩
def SYS_BURGEE1_UID : Fld := ⟨R.SYS_BURGEE1, 0, 36⟩
def SYS_BURGEE2_UID : Fld := ⟨R.SYS_BURGEE2, 0, 36⟩
def SYS_BURGEE3_STRAP : Fld := ⟨R.SYS_BURGEE3, 0, 6⟩
def SYS_BURGEE3_NODE : Fld := ⟨R.SYS_BURGEE3, 6, 6⟩
def SYS_RSTCAUSE_CAUSE : Fld := ⟨R.SYS_RSTCAUSE, 0, 3⟩
def SYS_RSTCAUSE_STRUCKR : Fld := ⟨R.SYS_RSTCAUSE, 3, 1⟩
def SYS_RST_WARM : Fld := ⟨R.SYS_RST, 0, 1⟩
def SYS_OVLCFG_OVEN : Fld := ⟨R.SYS_OVLCFG, 0, 1⟩
def SYS_OVLCFG_OWIDX : Fld := ⟨R.SYS_OVLCFG, 1, 4⟩
def SYS_OVLCFG_OLAT : Fld := ⟨R.SYS_OVLCFG, 5, 6⟩
def SYS_OVLSTAT_ACT : Fld := ⟨R.SYS_OVLSTAT, 0, 4⟩
def SYS_OVLSTAT_TGT : Fld := ⟨R.SYS_OVLSTAT, 4, 4⟩
def SYS_OVLSTAT_BUILD : Fld := ⟨R.SYS_OVLSTAT, 8, 1⟩
def SYS_OVLSTAT_CWSEL : Fld := ⟨R.SYS_OVLSTAT, 9, 1⟩
def SYS_OVLSTAT_READY : Fld := ⟨R.SYS_OVLSTAT, 10, 1⟩
def SYS_OVLSTAT_OVLATE : Fld := ⟨R.SYS_OVLSTAT, 11, 1⟩
def SYS_OVLSTAT_BADREQ : Fld := ⟨R.SYS_OVLSTAT, 12, 1⟩
def SYS_OVLSTAT_STRAPOVL : Fld := ⟨R.SYS_OVLSTAT, 13, 4⟩
def LCY_STATE_LCS : Fld := ⟨R.LCY_STATE, 0, 3⟩
def LCY_STATE_OWNK : Fld := ⟨R.LCY_STATE, 3, 1⟩
def LCY_STATE_FLOOR : Fld := ⟨R.LCY_STATE, 4, 6⟩
def LCY_STATE_SESS : Fld := ⟨R.LCY_STATE, 10, 1⟩
def LCY_STATE_FUSEERR : Fld := ⟨R.LCY_STATE, 11, 1⟩
def LCY_BOOT_RESULT : Fld := ⟨R.LCY_BOOT, 0, 3⟩
def LCY_BOOT_OVL : Fld := ⟨R.LCY_BOOT, 3, 4⟩
def LCY_CMD_SCRAP : Fld := ⟨R.LCY_CMD, 0, 1⟩
def LCY_CMD_ENDSESS : Fld := ⟨R.LCY_CMD, 1, 1⟩
def LCY_KOUT_KEY : Fld := ⟨R.LCY_KOUT, 0, 36⟩
def LCY_KSTAT_PRES : Fld := ⟨R.LCY_KSTAT, 0, 1⟩
def LCY_KSTAT_IDX : Fld := ⟨R.LCY_KSTAT, 1, 4⟩
def LCY_KSTAT_UNWF : Fld := ⟨R.LCY_KSTAT, 5, 1⟩
def LCY_RCNT_ACC : Fld := ⟨R.LCY_RCNT, 0, 16⟩
def LCY_RCNT_REF : Fld := ⟨R.LCY_RCNT, 16, 16⟩
def LCY_RLAST_RTYPE : Fld := ⟨R.LCY_RLAST, 0, 8⟩
def LCY_RLAST_STATUS : Fld := ⟨R.LCY_RLAST, 8, 8⟩
def BIST_STAT_STEP : Fld := ⟨R.BIST_STAT, 0, 4⟩
def BIST_STAT_FORM : Fld := ⟨R.BIST_STAT, 4, 2⟩
def BIST_STAT_PARTF : Fld := ⟨R.BIST_STAT, 6, 10⟩
def BIST_PUT_BAR : Fld := ⟨R.BIST_PUT, 0, 1⟩
def BIST_PUT_HAL : Fld := ⟨R.BIST_PUT, 1, 1⟩
def BIST_PUT_HALD : Fld := ⟨R.BIST_PUT, 2, 1⟩
def BIST_PUT_LLP : Fld := ⟨R.BIST_PUT, 3, 1⟩
def BIST_PUT_TRIES : Fld := ⟨R.BIST_PUT, 4, 3⟩
def BIST_PUTAGE_H (i : Nat) : Fld := ⟨R.BIST_PUTAGE i, 0, 24⟩
def BIST_PUTMAX_H : Fld := ⟨R.BIST_PUTMAX, 0, 20⟩
def BIST_RLBCFG_RLEN : Fld := ⟨R.BIST_RLBCFG, 0, 1⟩
def BIST_RLBCFG_RWIDX : Fld := ⟨R.BIST_RLBCFG, 1, 4⟩
def BIST_RLBCFG_RBIT : Fld := ⟨R.BIST_RLBCFG, 5, 6⟩
def BIST_RLBCFG_RMIN : Fld := ⟨R.BIST_RLBCFG, 11, 8⟩
def BIST_SAVEBASE_BASE : Fld := ⟨R.BIST_SAVEBASE, 0, 24⟩
def BIST_RLBSTAT_RPH : Fld := ⟨R.BIST_RLBSTAT, 0, 3⟩
def BIST_RLBSTAT_REFUSED : Fld := ⟨R.BIST_RLBSTAT, 3, 1⟩
def BIST_RLBSTAT_PARTF : Fld := ⟨R.BIST_RLBSTAT, 4, 10⟩
def BIST_RLBSTAT_RUNS : Fld := ⟨R.BIST_RLBSTAT, 14, 22⟩
def BIST_CMD_RUNLB : Fld := ⟨R.BIST_CMD, 0, 1⟩
def SVP_CFG_ADDR : Fld := ⟨R.SVP_CFG, 0, 8⟩
def SVP_CFG_MSGEN : Fld := ⟨R.SVP_CFG, 8, 1⟩
def SVP_STAT_CS : Fld := ⟨R.SVP_STAT, 0, 1⟩
def SVP_STAT_LAST : Fld := ⟨R.SVP_STAT, 1, 8⟩
def SVP_VER_VMIN : Fld := ⟨R.SVP_VER, 0, 4⟩
def SVP_VER_VMAJ : Fld := ⟨R.SVP_VER, 4, 4⟩
def SVP_ERRCNT_CRC : Fld := ⟨R.SVP_ERRCNT, 0, 12⟩
def SVP_ERRCNT_CMD : Fld := ⟨R.SVP_ERRCNT, 12, 12⟩
def SVP_ERRCNT_BUSY : Fld := ⟨R.SVP_ERRCNT, 24, 12⟩
def SVP_RX_DATA (i : Nat) : Fld := ⟨R.SVP_RX i, 0, 36⟩
def SVP_TX_DATA (i : Nat) : Fld := ⟨R.SVP_TX i, 0, 36⟩
def SVP_MSG_RXLEN : Fld := ⟨R.SVP_MSG, 0, 4⟩
def SVP_MSG_RXV : Fld := ⟨R.SVP_MSG, 4, 1⟩
def SVP_MSG_TXLEN : Fld := ⟨R.SVP_MSG, 5, 4⟩
def SVP_MSG_TXRDY : Fld := ⟨R.SVP_MSG, 9, 1⟩
def SENT_SUPSTAT_ST0 : Fld := ⟨R.SENT_SUPSTAT, 0, 3⟩
def SENT_SUPSTAT_ST1 : Fld := ⟨R.SENT_SUPSTAT, 3, 3⟩
def SENT_SUPSTAT_ST2 : Fld := ⟨R.SENT_SUPSTAT, 6, 3⟩
def SENT_SUPSTAT_ST3 : Fld := ⟨R.SENT_SUPSTAT, 9, 3⟩
def SENT_SUPCNT_CNT0 : Fld := ⟨R.SENT_SUPCNT, 0, 8⟩
def SENT_SUPCNT_CNT1 : Fld := ⟨R.SENT_SUPCNT, 8, 8⟩
def SENT_SUPCNT_CNT2 : Fld := ⟨R.SENT_SUPCNT, 16, 8⟩
def SENT_SUPCNT_CNT3 : Fld := ⟨R.SENT_SUPCNT, 24, 8⟩
def GDC_DRVCH_ISRC : Fld := ⟨R.GDC_DRVCH, 0, 3⟩
def GDC_DRVCH_ISNK : Fld := ⟨R.GDC_DRVCH, 3, 3⟩

end Sys2Proof.Machine.F
end

