-- ==== Sys2Proof/Machine/RegTable.lean ====
section
/-! DEFINITION. What each register answers to a read and a write (R10): its reset value (R13) and, per access
code of its fields, the bits that code governs, for every listed offset of every block window (R39, R40). -/

namespace Sys2Proof.Machine

/-- One row of the spec's register tables: registers at base, base + stride, ... (count of them) in a block
window, with the reset value and, per access code of R10, the mask of its fields' bits. -/
structure RegRow where
  base : Nat
  count : Nat
  stride : Nat
  reset : Nat
  rw : Nat
  rwl : Nat
  w1c : Nat
  w1s : Nat
  rc : Nat
deriving DecidableEq, Repr

/-- R87: rows of INT. -/
def rowsINT : List RegRow := [
  ⟨0x0, 256, 1, 0x0, 0xff, 0x0, 0x0, 0x0, 0x0⟩,
  ⟨0x100, 8, 1, 0x0, 0x0, 0x0, 0xffffffff, 0x0, 0x0⟩,
  ⟨0x110, 1, 1, 0x0, 0x0, 0x0, 0x0, 0xff, 0x0⟩,
  ⟨0x120, 5, 1, 0x0, 0x0, 0x0, 0x0, 0x0, 0x0⟩,
  ⟨0x130, 1, 1, 0x0, 0x0, 0x0, 0x0, 0x0, 0xffffff⟩]

/-- R158: rows of XLA. -/
def rowsXLA : List RegRow := [
  ⟨0x0, 1, 1, 0xc82, 0xffff, 0x0, 0x0, 0x0, 0x0⟩,
  ⟨0x1, 1, 1, 0x0, 0x0, 0x0, 0x0, 0x0, 0x0⟩,
  ⟨0x2, 1, 1, 0xc350, 0x3ffff, 0x0, 0x0, 0x0, 0x0⟩,
  ⟨0x3, 1, 1, 0x9c40, 0x3ffff, 0x0, 0x0, 0x0, 0x0⟩,
  ⟨0x4, 1, 1, 0xfa, 0x3ff, 0x0, 0x0, 0x0, 0x0⟩,
  ⟨0x5, 1, 1, 0x0, 0x3ffff, 0x0, 0x0, 0x0, 0x0⟩,
  ⟨0x6, 1, 1, 0x0, 0xffffff, 0x0, 0x0, 0x0, 0x0⟩,
  ⟨0x7, 1, 1, 0x0, 0xffffff, 0x0, 0x0, 0x0, 0x0⟩,
  ⟨0x8, 1, 1, 0x0, 0xffffff, 0x0, 0x0, 0x0, 0x0⟩,
  ⟨0x9, 1, 1, 0xc8200, 0xffffff, 0x0, 0x0, 0x0, 0x0⟩,
  ⟨0xa, 1, 1, 0x0, 0xf, 0x0, 0x0, 0x0, 0x0⟩,
  ⟨0xb, 1, 1, 0x0, 0x0, 0x0, 0x0, 0x0, 0x0⟩,
  ⟨0xc, 1, 1, 0x0, 0x0, 0x0, 0x0, 0x0, 0x0⟩,
  ⟨0xd, 1, 1, 0x0, 0x0, 0x0, 0x0, 0x0, 0x0⟩,
  ⟨0xe, 1, 1, 0x0, 0x0, 0x0, 0x0, 0x0, 0x0⟩,
  ⟨0xf, 1, 1, 0x0, 0x0, 0x0, 0x0, 0x0, 0x0⟩,
  ⟨0x10, 1, 1, 0x0, 0x0, 0x0, 0x0, 0x0, 0x0⟩,
  ⟨0x11, 1, 1, 0x0, 0x0, 0x0, 0x0, 0x0, 0x0⟩,
  ⟨0x12, 1, 1, 0x0, 0x0, 0x0, 0x0, 0x0, 0x0⟩,
  ⟨0x13, 3, 1, 0x0, 0x0, 0x0, 0x0, 0x0, 0x0⟩,
  ⟨0x16, 1, 1, 0x0, 0x0, 0x0, 0x0, 0x0, 0x0⟩,
  ⟨0x17, 1, 1, 0x0, 0x0, 0x0, 0x0, 0x0, 0xffff⟩,
  ⟨0x18, 3, 1, 0x0, 0x0, 0x0, 0x0, 0x0, 0xffff⟩,
  ⟨0x20, 3, 1, 0x0, 0x0, 0x0, 0x0, 0x0, 0xfffffffff⟩,
  ⟨0x24, 3, 1, 0x0, 0x0, 0x0, 0x0, 0x0, 0xfffffffff⟩,
  ⟨0x40, 24, 1, 0x0, 0x7ffffff, 0x0, 0x0, 0x0, 0x0⟩,
  ⟨0x60, 24, 1, 0x0, 0x1fff, 0x0, 0x0, 0x0, 0x0⟩,
  ⟨0x80, 24, 1, 0x0, 0xfffffffff, 0x0, 0x0, 0x0, 0x0⟩]

/-- R189: rows of HAL. -/
def rowsHAL : List RegRow := [
  ⟨0x0, 1, 1, 0x9, 0x0, 0x7f, 0x0, 0x0, 0x0⟩,
  ⟨0x1, 1, 1, 0x0, 0x0, 0x0, 0x0, 0x0, 0x0⟩,
  ⟨0x2, 1, 1, 0x0, 0x0, 0x0, 0x0, 0x0, 0x0⟩,
  ⟨0x3, 1, 1, 0x0, 0x0, 0x0, 0x0, 0x0, 0x0⟩,
  ⟨0x4, 1, 1, 0x0, 0x0, 0x3ffffff, 0x0, 0x0, 0x0⟩,
  ⟨0x5, 1, 1, 0xff, 0x0, 0xff, 0x0, 0x0, 0x0⟩,
  ⟨0x6, 1, 1, 0x0, 0x0, 0xffff, 0x0, 0x0, 0x0⟩,
  ⟨0x7, 2, 1, 0x0, 0x0, 0xfffffffff, 0x0, 0x0, 0x0⟩,
  ⟨0x9, 1, 1, 0x0, 0x0, 0x0, 0x0, 0x0, 0x0⟩,
  ⟨0xa, 1, 1, 0x0, 0x0, 0x0, 0x0, 0x0, 0xffff⟩,
  ⟨0xb, 1, 1, 0x0, 0x0, 0x0, 0x0, 0x0, 0xffff⟩]

/-- R191: rows of FLT. -/
def rowsFLT : List RegRow := [
  ⟨0x0, 4, 1, 0x0, 0x0, 0x0, 0xfffffffff, 0x0, 0x0⟩,
  ⟨0x4, 4, 1, 0x0, 0xfffffffff, 0x0, 0x0, 0x0, 0x0⟩,
  ⟨0x8, 4, 1, 0x0, 0x0, 0xfffffffff, 0x0, 0x0, 0x0⟩,
  ⟨0xc, 1, 1, 0xff, 0xff, 0x0, 0x0, 0x0, 0x0⟩,
  ⟨0xd, 1, 1, 0x0, 0xffffff, 0x0, 0x0, 0x0, 0x0⟩,
  ⟨0xe, 1, 1, 0x0, 0x0, 0x0, 0x0, 0x0, 0x0⟩,
  ⟨0x10, 8, 1, 0x0, 0xff, 0x0, 0x0, 0x0, 0x0⟩,
  ⟨0x18, 8, 1, 0x0, 0x0, 0x0, 0x0, 0x0, 0xffffff⟩,
  ⟨0x20, 1, 1, 0x0, 0x0, 0xffffff, 0x0, 0x0, 0x0⟩,
  ⟨0x21, 1, 1, 0x0, 0x0, 0x1f, 0x0, 0x0, 0x0⟩,
  ⟨0x22, 1, 1, 0x0, 0x0, 0x0, 0x0, 0x0, 0x0⟩,
  ⟨0x23, 1, 1, 0x0, 0x0, 0x0, 0x0, 0x0, 0xffff⟩]

/-- R217: rows of LSC. -/
def rowsLSC : List RegRow := [
  ⟨0x0, 1, 1, 0x2, 0x0, 0x3, 0x0, 0x0, 0x0⟩,
  ⟨0x1, 1, 1, 0x9, 0x0, 0x0, 0x0, 0x0, 0x0⟩,
  ⟨0x2, 1, 1, 0x0, 0x0, 0x0, 0x0, 0x0, 0x0⟩,
  ⟨0x3, 2, 1, 0x200000, 0x0, 0xffffff, 0x0, 0x0, 0x0⟩,
  ⟨0x5, 2, 1, 0x0, 0x0, 0x0, 0x0, 0x0, 0x0⟩,
  ⟨0x7, 1, 1, 0x0, 0x0, 0x0, 0x0, 0x0, 0x0⟩,
  ⟨0x8, 1, 1, 0x0, 0x0, 0x0, 0x0, 0x0, 0x0⟩,
  ⟨0x9, 1, 1, 0x0, 0x0, 0x0, 0x0, 0x0, 0xffffffff⟩,
  ⟨0xa, 2, 2, 0x0, 0x0, 0x0, 0x0, 0x0, 0x0⟩,
  ⟨0xb, 2, 2, 0x0, 0x0, 0x0, 0x0, 0x0, 0x0⟩,
  ⟨0xe, 1, 1, 0x0, 0x0, 0x0, 0x0, 0x0, 0x0⟩]

/-- R219: rows of DBG. -/
def rowsDBG : List RegRow := [
  ⟨0x0, 1, 1, 0x0, 0x0, 0x0, 0x0, 0x0, 0x0⟩]

/-- R252: rows of PWM0 and PWM1. -/
def rowsPWM : List RegRow := [
  ⟨0x0, 1, 1, 0x0, 0x1, 0x0, 0x0, 0x0, 0x0⟩,
  ⟨0x1, 1, 1, 0x0, 0x0, 0x0, 0x0, 0x0, 0x0⟩,
  ⟨0x2, 1, 1, 0x61a8, 0xfffff, 0x0, 0x0, 0x0, 0x0⟩,
  ⟨0x3, 1, 1, 0x30d4, 0xfffff, 0x0, 0x0, 0x0, 0x0⟩,
  ⟨0x4, 1, 1, 0x32, 0x1ff, 0x0, 0x0, 0x0, 0x0⟩,
  ⟨0x5, 1, 1, 0x32096, 0xfffff, 0x0, 0x0, 0x0, 0x0⟩,
  ⟨0x6, 1, 1, 0x6421, 0x1ffff, 0x0, 0x0, 0x0, 0x0⟩,
  ⟨0x8, 3, 1, 0x0, 0x1fffff, 0x0, 0x0, 0x0, 0x0⟩,
  ⟨0xb, 1, 1, 0x0, 0x3f, 0x0, 0x0, 0x0, 0x0⟩,
  ⟨0xc, 1, 1, 0x0, 0x0, 0x0, 0x0, 0x0, 0x0⟩,
  ⟨0xd, 3, 1, 0x0, 0x0, 0x0, 0x0, 0x0, 0x0⟩,
  ⟨0x10, 1, 1, 0x0, 0x0, 0x0, 0x0, 0x0, 0x0⟩,
  ⟨0x11, 1, 1, 0x0, 0x0, 0x0, 0x0, 0x0, 0x0⟩,
  ⟨0x13, 1, 1, 0x0, 0x0, 0x0, 0xf, 0x0, 0x0⟩,
  ⟨0x14, 1, 1, 0x0, 0x0, 0x0, 0x0, 0x0, 0x0⟩,
  ⟨0x15, 1, 1, 0x0, 0x0, 0x0, 0x0, 0x0, 0x0⟩,
  ⟨0x16, 1, 1, 0x0, 0x0, 0x0, 0x0, 0x0, 0xffff⟩]

/-- R252: PWM0_LOAD, which PWM0 alone lists. -/
def rowsPWMLoad : List RegRow := [⟨0x12, 1, 1, 0x6, 0x6, 0x0, 0x0, 0x1, 0x0⟩]

/-- R253: rows of DLK. -/
def rowsDLK : List RegRow := [
  ⟨0x0, 1, 1, 0x1, 0x1, 0x0, 0x0, 0x0, 0x0⟩,
  ⟨0x1, 1, 1, 0x0, 0x0, 0x0, 0x0, 0x0, 0x0⟩,
  ⟨0x2, 1, 1, 0x0, 0xf, 0x0, 0x0, 0x0, 0x0⟩,
  ⟨0x3, 1, 1, 0x0, 0x1ff, 0x0, 0x0, 0x0, 0x0⟩,
  ⟨0x4, 1, 1, 0x0, 0x0, 0x0, 0x0, 0x0, 0x0⟩,
  ⟨0x5, 1, 1, 0x0, 0x0, 0x0, 0x0, 0x0, 0x0⟩,
  ⟨0x6, 1, 1, 0x0, 0x0, 0x0, 0x0, 0x0, 0x0⟩,
  ⟨0x8, 1, 1, 0x0, 0x0, 0x0, 0x0, 0x0, 0xfffffffff⟩,
  ⟨0x9, 1, 1, 0x0, 0x0, 0x0, 0x0, 0x0, 0xffff⟩,
  ⟨0xa, 1, 1, 0x0, 0x0, 0x0, 0x0, 0x0, 0xffff⟩]

/-- R273: rows of GDC. -/
def rowsGDC : List RegRow := [
  ⟨0x0, 1, 1, 0x0, 0x7, 0x0, 0x0, 0x0, 0x0⟩,
  ⟨0x1, 1, 1, 0x0, 0x0, 0x0, 0x0, 0x0, 0x0⟩,
  ⟨0x2, 2, 1, 0x23, 0x3f, 0x0, 0x0, 0x0, 0x0⟩,
  ⟨0x4, 1, 1, 0x23, 0x3f, 0x0, 0x0, 0x0, 0x0⟩,
  ⟨0x5, 1, 1, 0x4, 0x1f, 0x0, 0x0, 0x0, 0x0⟩,
  ⟨0x6, 2, 1, 0x48a, 0xfff, 0x0, 0x0, 0x0, 0x0⟩,
  ⟨0x8, 1, 1, 0x177, 0x3ff, 0x0, 0x0, 0x0, 0x0⟩,
  ⟨0x9, 1, 1, 0x58c82, 0xfffff, 0x0, 0x0, 0x0, 0x0⟩,
  ⟨0xa, 1, 1, 0x502, 0xfff, 0x0, 0x0, 0x0, 0x0⟩,
  ⟨0xb, 1, 1, 0x154787c, 0x3ffffff, 0x0, 0x0, 0x0, 0x0⟩,
  ⟨0xc, 1, 1, 0xbe, 0xff, 0x0, 0x0, 0x0, 0x0⟩,
  ⟨0xd, 1, 1, 0x3, 0x3, 0x0, 0x0, 0x0, 0x0⟩,
  ⟨0x10, 1, 1, 0x0, 0x0, 0x0, 0x0, 0x0, 0x0⟩,
  ⟨0x11, 1, 1, 0x0, 0x0, 0x0, 0xffffff, 0x0, 0x0⟩,
  ⟨0x12, 1, 1, 0x0, 0x0, 0x0, 0x0, 0x0, 0x0⟩,
  ⟨0x13, 1, 1, 0x0, 0x0, 0x0, 0xfff, 0x0, 0x0⟩,
  ⟨0x14, 1, 1, 0x0, 0x0, 0x0, 0x0, 0x0, 0x0⟩,
  ⟨0x15, 1, 1, 0x0, 0x0, 0x0, 0x0, 0x0, 0x0⟩,
  ⟨0x16, 1, 1, 0x0, 0x0, 0x0, 0x0, 0x0, 0x0⟩,
  ⟨0x17, 1, 1, 0x0, 0x0, 0x0, 0x0, 0x0, 0x0⟩,
  ⟨0x18, 1, 1, 0x0, 0x0, 0x0, 0x0, 0x0, 0xffff⟩,
  ⟨0x19, 1, 1, 0x0, 0x0, 0x0, 0x0, 0x0, 0xffff⟩]

/-- R274, R535: rows of SYS. -/
def rowsSYS : List RegRow := [
  ⟨0x100, 24, 1, 0x0, 0x0, 0x3f, 0x0, 0x0, 0x0⟩,
  ⟨0x118, 1, 1, 0x0, 0x0, 0x0, 0x0, 0xffffff, 0x0⟩,
  ⟨0x119, 1, 1, 0x0, 0x0, 0x0, 0x0, 0x0, 0x0⟩,
  ⟨0x11a, 1, 1, 0x0, 0x0, 0x7fffff, 0x0, 0x0, 0x0⟩,
  ⟨0x11b, 1, 1, 0x0, 0x0, 0x0, 0x0, 0x0, 0x0⟩,
  ⟨0x11c, 1, 1, 0x0, 0x0, 0x0, 0x0, 0x0, 0xffffff⟩,
  ⟨0x0, 1, 1, 0x3602, 0x0, 0x0, 0x0, 0x0, 0x0⟩,
  ⟨0x1, 1, 1, 0x0, 0x0, 0x0, 0x0, 0x0, 0x0⟩,
  ⟨0x2, 1, 1, 0x0, 0x0, 0x0, 0x0, 0x0, 0x0⟩,
  ⟨0x3, 1, 1, 0x0, 0x0, 0x0, 0x0, 0x0, 0x0⟩,
  ⟨0x8, 1, 1, 0x1, 0x0, 0x0, 0x0, 0x0, 0x0⟩,
  ⟨0x9, 1, 1, 0x0, 0x0, 0x0, 0x0, 0x0, 0x0⟩,
  ⟨0x20, 1, 1, 0x80, 0x0, 0x7ff, 0x0, 0x0, 0x0⟩,
  ⟨0x21, 1, 1, 0x0, 0x0, 0x0, 0x0, 0x0, 0x0⟩]

/-- R295: rows of COM. -/
def rowsCOM : List RegRow := [
  ⟨0x0, 2, 32, 0x4, 0x7, 0x0, 0x0, 0x0, 0x0⟩,
  ⟨0x1, 2, 32, 0x1c0, 0x0, 0x0, 0x0, 0x0, 0x0⟩,
  ⟨0x2, 2, 32, 0x20, 0xfffff, 0x0, 0x0, 0x0, 0x0⟩,
  ⟨0x3, 2, 32, 0x0, 0xfffffffff, 0x0, 0x0, 0x0, 0x0⟩,
  ⟨0x4, 2, 32, 0x0, 0xfffffffff, 0x0, 0x0, 0x0, 0x0⟩,
  ⟨0x5, 2, 32, 0x0, 0xfffffffff, 0x0, 0x0, 0x0, 0x0⟩,
  ⟨0x6, 2, 32, 0x0, 0x0, 0x0, 0x0, 0x0, 0x0⟩,
  ⟨0x7, 2, 32, 0x0, 0x0, 0x0, 0x0, 0x0, 0x0⟩,
  ⟨0x8, 2, 32, 0x3209c84, 0x3fffffff, 0x0, 0x0, 0x0, 0x0⟩,
  ⟨0x9, 2, 32, 0x0, 0x7ff, 0x0, 0x0, 0x0, 0x0⟩,
  ⟨0xa, 2, 32, 0x0, 0xfffffffff, 0x0, 0x0, 0x0, 0x0⟩,
  ⟨0xb, 2, 32, 0x4, 0x3ff, 0x0, 0x0, 0x0, 0x0⟩,
  ⟨0xc, 2, 32, 0x0, 0x0, 0x0, 0x0, 0x0, 0xffff⟩]

/-- R296: rows of HALL. -/
def rowsHALL : List RegRow := [
  ⟨0x0, 1, 1, 0x19014, 0xfffff, 0x0, 0x0, 0x0, 0x0⟩,
  ⟨0x1, 2, 1, 0xeec287, 0xffffff, 0x0, 0x0, 0x0, 0x0⟩,
  ⟨0x3, 2, 1, 0x1c0, 0x0, 0x0, 0x0, 0x0, 0x0⟩,
  ⟨0x5, 2, 1, 0x0, 0x0, 0x0, 0x0, 0x0, 0x0⟩,
  ⟨0x7, 2, 1, 0x0, 0x0, 0x0, 0x0, 0x0, 0x0⟩,
  ⟨0x9, 2, 1, 0x0, 0x0, 0x0, 0x0, 0x0, 0xffffff⟩]

/-- R297: rows of ISN. -/
def rowsISN : List RegRow := [
  ⟨0x0, 1, 1, 0x0, 0xf, 0x0, 0x0, 0x0, 0x0⟩,
  ⟨0x2, 2, 1, 0x7d0186a1, 0x1ffffffff, 0x0, 0x0, 0x0, 0x0⟩,
  ⟨0x10, 7, 1, 0x100000000, 0xfffffffff, 0x0, 0x0, 0x0, 0x0⟩,
  ⟨0x18, 7, 1, 0x0, 0xfffffffff, 0x0, 0x0, 0x0, 0x0⟩,
  ⟨0x1f, 1, 1, 0x0, 0xfffffffff, 0x0, 0x0, 0x0, 0x0⟩,
  ⟨0x20, 2, 8, 0x0, 0x0, 0x0, 0x0, 0x0, 0x0⟩,
  ⟨0x21, 2, 8, 0x0, 0x0, 0x0, 0x0, 0x0, 0x0⟩,
  ⟨0x22, 2, 8, 0x0, 0x0, 0x0, 0x0, 0x0, 0x0⟩,
  ⟨0x23, 2, 8, 0x0, 0x0, 0x0, 0x0, 0x0, 0x0⟩,
  ⟨0x24, 2, 8, 0x1fe0, 0x0, 0x0, 0x0, 0x0, 0x0⟩,
  ⟨0x30, 1, 1, 0x0, 0x0, 0x0, 0x0, 0x0, 0x0⟩,
  ⟨0x31, 1, 1, 0x0, 0x0, 0x0, 0x0, 0x0, 0x0⟩,
  ⟨0x32, 1, 1, 0x1fe0, 0x0, 0x0, 0x0, 0x0, 0x0⟩,
  ⟨0x34, 1, 1, 0x0, 0x0, 0x0, 0x0, 0x0, 0x0⟩,
  ⟨0x38, 1, 1, 0x0, 0x0, 0x0, 0x0, 0x0, 0xffff⟩,
  ⟨0x39, 1, 1, 0x0, 0x0, 0x0, 0x0, 0x0, 0xffff⟩,
  ⟨0x3a, 1, 1, 0x0, 0x0, 0x0, 0x0, 0x0, 0xffff⟩,
  ⟨0x40, 7, 1, 0x0, 0x0, 0x0, 0x0, 0x0, 0x0⟩]

/-- R323: rows of both FCE blocks. -/
def rowsFCE : List RegRow := [
  ⟨0x0, 1, 1, 0x0, 0x7, 0x0, 0x0, 0x0, 0x0⟩,
  ⟨0x1, 1, 1, 0x0, 0x0, 0x0, 0x0, 0x0, 0x0⟩,
  ⟨0x2, 1, 1, 0x42, 0x0, 0x1ffff, 0x0, 0x0, 0x0⟩,
  ⟨0x3, 1, 1, 0x0, 0xffffff, 0x0, 0x0, 0x0, 0x0⟩,
  ⟨0x4, 1, 1, 0x0, 0x0, 0x0, 0x0, 0x0, 0x0⟩,
  ⟨0x5, 1, 1, 0x8, 0xff, 0x0, 0x0, 0x0, 0x0⟩,
  ⟨0x6, 1, 1, 0x1000000, 0xfffffffff, 0x0, 0x0, 0x0, 0x0⟩,
  ⟨0x7, 1, 1, 0x8000000, 0xfffffffff, 0x0, 0x0, 0x0, 0x0⟩,
  ⟨0x8, 1, 1, 0x0, 0x1fffffff, 0x0, 0x0, 0x0, 0x0⟩,
  ⟨0x10, 4, 1, 0x0, 0x0, 0x0, 0x0, 0x0, 0x0⟩,
  ⟨0x14, 1, 1, 0x0, 0x0, 0x0, 0x0, 0x0, 0x0⟩,
  ⟨0x15, 1, 1, 0x0, 0x0, 0x0, 0x0, 0x0, 0x0⟩,
  ⟨0x16, 1, 1, 0x0, 0x0, 0x0, 0x0, 0x0, 0x0⟩,
  ⟨0x17, 1, 1, 0x0, 0x0, 0x0, 0x0, 0x0, 0x0⟩,
  ⟨0x18, 1, 1, 0x0, 0x0, 0x0, 0x0, 0x0, 0x0⟩,
  ⟨0x19, 1, 1, 0x0, 0x0, 0x0, 0x0, 0x0, 0x0⟩,
  ⟨0x1a, 1, 1, 0x0, 0x0, 0x0, 0x0, 0x0, 0x0⟩,
  ⟨0x1b, 1, 1, 0x0, 0x0, 0x0, 0x0, 0x0, 0x0⟩,
  ⟨0x1c, 1, 1, 0x0, 0x0, 0x0, 0x0, 0x0, 0xffff⟩,
  ⟨0x1d, 1, 1, 0x0, 0x0, 0x0, 0x0, 0x0, 0xffff⟩,
  ⟨0x1e, 1, 1, 0x0, 0x0, 0x0, 0x0, 0x0, 0xfff⟩]

/-- R345: rows of SDP. -/
def rowsSDP : List RegRow := [
  ⟨0x0, 1, 1, 0x4, 0xf, 0x0, 0x0, 0x0, 0x0⟩,
  ⟨0x1, 1, 1, 0x0, 0x0, 0x0, 0x0, 0x0, 0x0⟩,
  ⟨0x2, 1, 1, 0x0, 0x7ff, 0x0, 0x0, 0x0, 0x0⟩,
  ⟨0x3, 1, 1, 0x0, 0x7ff, 0x0, 0x0, 0x0, 0x0⟩,
  ⟨0x4, 1, 1, 0x0, 0x0, 0x0, 0x0, 0x0, 0x0⟩,
  ⟨0x5, 1, 1, 0x0, 0x1ffff, 0x0, 0x0, 0x0, 0x0⟩,
  ⟨0x6, 1, 1, 0x0, 0x0, 0x0, 0x3, 0x0, 0x0⟩,
  ⟨0x7, 1, 1, 0x0, 0x0, 0x0, 0x0, 0x0, 0xffff⟩,
  ⟨0x8, 4, 1, 0x0, 0xfffffffff, 0x0, 0x0, 0x0, 0x0⟩,
  ⟨0x400, 512, 1, 0x0, 0xfffffffff, 0x0, 0x0, 0x0, 0x0⟩,
  ⟨0x600, 512, 1, 0x0, 0xfffffffff, 0x0, 0x0, 0x0, 0x0⟩,
  ⟨0x800, 2048, 1, 0x0, 0xfffffffff, 0x0, 0x0, 0x0, 0x0⟩]

/-- R370: rows of both QEP blocks. -/
def rowsQEP : List RegRow := [
  ⟨0x0, 1, 1, 0x640, 0x1fff, 0x0, 0x0, 0x0, 0x0⟩,
  ⟨0x1, 1, 1, 0x0, 0x0, 0x0, 0x0, 0x0, 0x0⟩,
  ⟨0x2, 1, 1, 0x0, 0x0, 0x0, 0x1f, 0x0, 0x0⟩,
  ⟨0x3, 1, 1, 0x0, 0xfffffffff, 0x0, 0x0, 0x0, 0x0⟩,
  ⟨0x4, 1, 1, 0x0, 0x0, 0x0, 0x0, 0x0, 0x0⟩,
  ⟨0x5, 1, 1, 0x0, 0x0, 0x0, 0x0, 0x0, 0x0⟩,
  ⟨0x6, 1, 1, 0x0, 0x0, 0x0, 0x0, 0x0, 0x0⟩,
  ⟨0x7, 1, 1, 0xfa2, 0x7ffff, 0x0, 0x0, 0x0, 0x0⟩,
  ⟨0x8, 1, 1, 0x0, 0xfffffffff, 0x0, 0x0, 0x0, 0x0⟩,
  ⟨0x9, 1, 1, 0x4, 0xffff, 0x0, 0x0, 0x0, 0x0⟩,
  ⟨0xa, 1, 1, 0x0, 0x0, 0x0, 0x0, 0x0, 0x0⟩,
  ⟨0xb, 1, 1, 0x0, 0x0, 0x0, 0x0, 0x0, 0x0⟩,
  ⟨0xc, 1, 1, 0x0, 0x0, 0x0, 0x0, 0x0, 0x0⟩,
  ⟨0xd, 1, 1, 0x0, 0xfffffffff, 0x0, 0x0, 0x0, 0x0⟩,
  ⟨0xe, 1, 1, 0x0, 0x3fffff, 0x0, 0x0, 0x0, 0x0⟩,
  ⟨0xf, 1, 1, 0x0, 0x0, 0x0, 0x0, 0x0, 0x0⟩,
  ⟨0x10, 1, 1, 0x40001, 0xfffffffff, 0x0, 0x0, 0x0, 0x0⟩,
  ⟨0x11, 1, 1, 0x0, 0x7ff, 0x0, 0x0, 0x0, 0x0⟩,
  ⟨0x12, 1, 1, 0x110640a, 0x1ffffff, 0x0, 0x0, 0x0, 0x0⟩,
  ⟨0x13, 1, 1, 0x0, 0x0, 0x0, 0x0, 0x0, 0xfffffffff⟩,
  ⟨0x14, 1, 1, 0x0, 0x0, 0x0, 0x0, 0x0, 0x0⟩,
  ⟨0x15, 1, 1, 0x0, 0x0, 0x0, 0x0, 0x0, 0x0⟩,
  ⟨0x16, 1, 1, 0x0, 0x0, 0x0, 0x0, 0x0, 0x0⟩,
  ⟨0x17, 1, 1, 0x0, 0x0, 0x0, 0x0, 0x0, 0x0⟩]

/-- R372: rows of SENT. -/
def rowsSENT : List RegRow := [
  ⟨0x0, 1, 1, 0x0, 0xff, 0x0, 0x0, 0x0, 0x0⟩,
  ⟨0x1, 1, 1, 0x0, 0x0, 0x0, 0x0, 0x0, 0x0⟩,
  ⟨0x2, 1, 1, 0x0, 0x0, 0x0, 0x0, 0x0, 0xffffffff⟩,
  ⟨0x10, 4, 16, 0x21303c, 0x1ffffff, 0x0, 0x0, 0x0, 0x0⟩,
  ⟨0x11, 4, 16, 0x0, 0x0, 0x0, 0x0, 0x0, 0x0⟩,
  ⟨0x12, 4, 16, 0x0, 0x0, 0x0, 0x0, 0x0, 0x0⟩,
  ⟨0x13, 4, 16, 0x0, 0x0, 0x0, 0x0, 0x0, 0x0⟩,
  ⟨0x14, 4, 16, 0x0, 0x0, 0x0, 0x0, 0x0, 0x0⟩,
  ⟨0x15, 4, 16, 0x0, 0x0, 0x0, 0x0, 0x0, 0x0⟩,
  ⟨0x16, 4, 16, 0x0, 0x0, 0x0, 0x0, 0x0, 0x0⟩,
  ⟨0x17, 4, 16, 0x0, 0x0, 0x0, 0x0, 0x0, 0xffffffff⟩,
  ⟨0x18, 4, 16, 0x0, 0x0, 0x0, 0x0, 0x0, 0x0⟩,
  ⟨0x19, 4, 16, 0xfffff, 0x0, 0x0, 0x0, 0x0, 0x0⟩]

/-- R395: rows of SIO. -/
def rowsSIO : List RegRow := [
  ⟨0x0, 1, 1, 0x0, 0x7, 0x0, 0x0, 0x0, 0x0⟩,
  ⟨0x1, 1, 1, 0x0, 0x0, 0x0, 0x0, 0x0, 0x0⟩,
  ⟨0x2, 1, 1, 0x0, 0x0, 0x0, 0x0, 0x0, 0x0⟩,
  ⟨0x3, 1, 1, 0x0, 0x0, 0x0, 0x0, 0x0, 0x0⟩,
  ⟨0x4, 1, 1, 0x0, 0x0, 0x0, 0x0, 0x0, 0x0⟩,
  ⟨0x5, 1, 1, 0x0, 0x0, 0x0, 0x0, 0x0, 0x0⟩,
  ⟨0x6, 1, 1, 0x0, 0x0, 0x0, 0x0, 0x0, 0x0⟩,
  ⟨0x7, 1, 1, 0x0, 0xf, 0x0, 0x0, 0x0, 0x0⟩,
  ⟨0x8, 1, 1, 0x0, 0x0, 0x0, 0xfffffffff, 0x0, 0x0⟩,
  ⟨0x9, 1, 1, 0x0, 0x0, 0x0, 0x0, 0x0, 0x0⟩,
  ⟨0xa, 1, 1, 0x0, 0x0, 0x0, 0x0, 0x0, 0xffff⟩,
  ⟨0xb, 1, 1, 0x0, 0x0, 0x0, 0x0, 0x0, 0xffff⟩,
  ⟨0xc, 1, 1, 0x0, 0x0, 0x0, 0x0, 0x0, 0x0⟩,
  ⟨0x10, 8, 1, 0x2400050, 0x0, 0x3ffffff, 0x0, 0x0, 0x0⟩,
  ⟨0x20, 4, 1, 0x0, 0x0, 0x7fffff, 0x0, 0x0, 0x0⟩,
  ⟨0x28, 1, 1, 0x193200a, 0x0, 0x7ffffff, 0x0, 0x0, 0x0⟩,
  ⟨0x29, 1, 1, 0x1900a, 0x0, 0x7ffff, 0x0, 0x0, 0x0⟩]

/-- R427, R453: rows of NCE. -/
def rowsNCE : List RegRow := [
  ⟨0x0, 1, 1, 0xb0, 0x1bf, 0x0, 0x0, 0x0, 0x0⟩,
  ⟨0x1, 1, 1, 0x0, 0x0, 0x0, 0x0, 0x0, 0x0⟩,
  ⟨0x2, 1, 1, 0x0, 0x0, 0x3f, 0x0, 0x0, 0x0⟩,
  ⟨0x3, 1, 1, 0x0, 0x3f, 0x0, 0x0, 0x0, 0x0⟩,
  ⟨0x4, 1, 1, 0x403e8, 0x1fffff, 0x0, 0x0, 0x0, 0x0⟩,
  ⟨0x5, 1, 1, 0x1414fa, 0xfffffff, 0x0, 0x0, 0x0, 0x0⟩,
  ⟨0x6, 1, 1, 0x28294, 0x7fffff, 0x0, 0x0, 0x0, 0x0⟩,
  ⟨0x7, 1, 1, 0xc8, 0x3ff, 0x0, 0x0, 0x0, 0x0⟩,
  ⟨0x8, 1, 1, 0x0, 0xfffffffff, 0x0, 0x0, 0x0, 0x0⟩,
  ⟨0x9, 1, 1, 0x0, 0xfffffff, 0x0, 0x0, 0x0, 0x0⟩,
  ⟨0xa, 2, 1, 0x0, 0x0, 0x0, 0x0, 0x0, 0x0⟩,
  ⟨0xc, 1, 1, 0x0, 0x0, 0x0, 0x0, 0x0, 0x0⟩,
  ⟨0xd, 1, 1, 0x0, 0x0, 0x0, 0x0, 0x0, 0x0⟩,
  ⟨0xe, 1, 1, 0x0, 0x0, 0x0, 0x0, 0x0, 0x0⟩,
  ⟨0xf, 1, 1, 0x0, 0x7f, 0x0, 0x0, 0x0, 0x0⟩,
  ⟨0x10, 1, 1, 0x0, 0x0, 0x0, 0x0, 0x0, 0x0⟩,
  ⟨0x11, 1, 1, 0x0, 0x1ffffff, 0x0, 0x0, 0x0, 0x0⟩,
  ⟨0x18, 2, 1, 0x0, 0x0, 0x0, 0x0, 0x0, 0xfffffffff⟩,
  ⟨0x1a, 1, 1, 0x0, 0x0, 0x0, 0x0, 0x0, 0xfffffffff⟩,
  ⟨0x1b, 1, 1, 0x0, 0x0, 0x0, 0x0, 0x0, 0xfffffffff⟩,
  ⟨0x1c, 1, 1, 0x0, 0x0, 0x0, 0x0, 0x0, 0xffff⟩,
  ⟨0x1d, 1, 1, 0x0, 0x0, 0x0, 0x0, 0x0, 0xffff⟩,
  ⟨0x800, 2048, 1, 0x0, 0xff, 0x0, 0x0, 0x0, 0x0⟩,
  ⟨0x20, 1, 1, 0x0, 0x0, 0x0, 0x0, 0x0, 0x0⟩,
  ⟨0x21, 1, 1, 0x40000, 0x1fffff, 0x0, 0x0, 0x0, 0x0⟩,
  ⟨0x22, 2, 1, 0x0, 0x0, 0x0, 0x0, 0x0, 0x0⟩,
  ⟨0x24, 1, 1, 0x0, 0x0, 0x0, 0x0, 0x0, 0x0⟩,
  ⟨0x25, 1, 1, 0x0, 0x0, 0x0, 0x0, 0x0, 0x0⟩,
  ⟨0x26, 1, 1, 0x0, 0x0, 0x0, 0x0, 0x0, 0x0⟩,
  ⟨0x27, 1, 1, 0x0, 0x0, 0x0, 0x0, 0x0, 0x0⟩,
  ⟨0x28, 1, 1, 0x0, 0x0, 0x0, 0x0, 0x0, 0x0⟩,
  ⟨0x29, 1, 1, 0x0, 0x0, 0x0, 0x0, 0x0, 0x0⟩,
  ⟨0x2a, 1, 1, 0x0, 0x0, 0x0, 0x0, 0x0, 0x0⟩,
  ⟨0x2b, 1, 1, 0x1001, 0x3fff, 0x0, 0x0, 0x0, 0x0⟩,
  ⟨0x2c, 1, 1, 0x0, 0x0, 0x0, 0x0, 0x0, 0x0⟩,
  ⟨0x2d, 1, 1, 0x233, 0x0, 0x0, 0x0, 0x0, 0x0⟩,
  ⟨0x2e, 1, 1, 0x0, 0x0, 0x0, 0x0, 0x0, 0xfffffffff⟩]

/-- R428: the words of one frame buffer, by offset in the buffer; words 3 and 60 to 63 read 0 and discard writes. -/
def rowsNCEBuf : List RegRow := [
  ⟨0x0, 1, 1, 0x0, 0x1ffffffff, 0x0, 0x0, 0x0, 0x0⟩,
  ⟨0x1, 1, 1, 0x0, 0x0, 0x0, 0x2c000, 0x0, 0x0⟩,
  ⟨0x2, 1, 1, 0x0, 0x0, 0x0, 0x0, 0x0, 0x0⟩,
  ⟨0x3, 1, 1, 0, 0, 0, 0, 0, 0⟩,
  ⟨0x4, 56, 1, 0, 0xfffffffff, 0, 0, 0, 0⟩,
  ⟨0x3c, 4, 1, 0, 0, 0, 0, 0, 0⟩]

/-- R480: rows of MEMC. -/
def rowsMEMC : List RegRow := [
  ⟨0x0, 1, 1, 0x3, 0x3, 0x0, 0x0, 0x0, 0x0⟩,
  ⟨0x1, 1, 1, 0x0, 0x0, 0x0, 0x0, 0x0, 0x0⟩,
  ⟨0x2, 1, 1, 0x0, 0x0, 0x0, 0x0, 0x0, 0xffffffff⟩,
  ⟨0x3, 1, 1, 0x0, 0x0, 0x0, 0x0, 0x0, 0x0⟩,
  ⟨0x4, 1, 1, 0x0, 0x0, 0x0, 0x0, 0x0, 0x0⟩,
  ⟨0x5, 1, 1, 0x0, 0x0, 0x0, 0xffff, 0x0, 0x0⟩,
  ⟨0x6, 1, 1, 0x0, 0xffff, 0x0, 0x0, 0x0, 0x0⟩,
  ⟨0x7, 1, 1, 0x0, 0x0, 0x0, 0x0, 0x0, 0x0⟩,
  ⟨0x8, 1, 1, 0x0, 0x0, 0x0, 0x0, 0x0, 0x0⟩,
  ⟨0x9, 1, 1, 0x0, 0x3fffff, 0x0, 0x0, 0x0, 0x0⟩,
  ⟨0xa, 1, 1, 0x0, 0x0, 0x0, 0x0, 0x0, 0x0⟩,
  ⟨0xb, 1, 1, 0x0, 0x0, 0x0, 0x0, 0x0, 0x0⟩,
  ⟨0xc, 1, 1, 0x0, 0x0, 0x0, 0x0, 0x0, 0xffffff⟩,
  ⟨0xd, 1, 1, 0x0, 0x0, 0x0, 0xf, 0x0, 0x0⟩,
  ⟨0xe, 1, 1, 0x0, 0x0, 0x0, 0x0, 0x0, 0xffff⟩,
  ⟨0xf, 1, 1, 0x0, 0x0, 0x0, 0x0, 0x0, 0x0⟩,
  ⟨0x10, 1, 1, 0x0, 0x0, 0x0, 0x0, 0x0, 0xfffffff⟩,
  ⟨0x11, 1, 1, 0x0, 0x0, 0x0, 0x0, 0x0, 0x0⟩,
  ⟨0x20, 16, 1, 0x0, 0x0, 0x0, 0x0, 0x0, 0x0⟩]

/-- R481: rows of DMA. -/
def rowsDMA : List RegRow := [
  ⟨0x0, 8, 4, 0x0, 0xffffff, 0x0, 0x0, 0x0, 0x0⟩,
  ⟨0x1, 8, 4, 0x0, 0xffffff, 0x0, 0x0, 0x0, 0x0⟩,
  ⟨0x2, 8, 4, 0x0, 0xffff, 0x0, 0x0, 0x0, 0x0⟩,
  ⟨0x3, 8, 4, 0x6, 0x3fff, 0x0, 0x0, 0x0, 0x0⟩,
  ⟨0x20, 8, 1, 0x0, 0x0, 0x0, 0x0, 0x0, 0x0⟩,
  ⟨0x28, 1, 1, 0x0, 0x0, 0x0, 0x0, 0x0, 0xffff⟩,
  ⟨0x29, 1, 1, 0x0, 0x0, 0x0, 0x0, 0x0, 0xffff⟩]

/-- R502: rows of PWR. -/
def rowsPWR : List RegRow := [
  ⟨0x0, 1, 1, 0x1, 0x1, 0x0, 0x0, 0x0, 0x0⟩,
  ⟨0x1, 1, 1, 0x0, 0x0, 0x0, 0x0, 0x0, 0x0⟩,
  ⟨0x2, 1, 1, 0x0, 0x0, 0x0, 0x0, 0x0, 0x0⟩,
  ⟨0x3, 1, 1, 0x501, 0x3fff, 0x0, 0x0, 0x0, 0x0⟩,
  ⟨0x4, 1, 1, 0x0, 0xff, 0x0, 0x0, 0x0, 0x0⟩,
  ⟨0x5, 1, 1, 0x0, 0x0, 0x0, 0x0, 0x0, 0x0⟩,
  ⟨0x6, 1, 1, 0x0, 0x1f, 0x0, 0x0, 0x0, 0x0⟩,
  ⟨0x7, 1, 1, 0x1f, 0x0, 0x0, 0x0, 0x0, 0x0⟩,
  ⟨0x8, 1, 1, 0x0, 0x0, 0x0, 0x0, 0x0, 0xffff⟩,
  ⟨0x9, 1, 1, 0x0, 0x0, 0x0, 0x0, 0x0, 0x0⟩,
  ⟨0xa, 1, 1, 0x0, 0x0, 0x0, 0x0, 0x0, 0x0⟩]

/-- R503: rows of CLK. -/
def rowsCLK : List RegRow := [
  ⟨0x0, 1, 1, 0x3, 0x7, 0x0, 0x0, 0x0, 0x0⟩,
  ⟨0x1, 1, 1, 0x0, 0x0, 0x0, 0x0, 0x0, 0x0⟩,
  ⟨0x2, 1, 1, 0x0, 0x0, 0x0, 0x0, 0x0, 0xffff⟩,
  ⟨0x3, 1, 1, 0x0, 0x0, 0x0, 0x0, 0x0, 0x0⟩]

/-- R504: rows of RTC. -/
def rowsRTC : List RegRow := [
  ⟨0x0, 1, 1, 0x0, 0x1, 0x0, 0x0, 0x0, 0x0⟩,
  ⟨0x1, 1, 1, 0x0, 0x0, 0x0, 0x0, 0x0, 0x0⟩,
  ⟨0x2, 1, 1, 0x0, 0x0, 0x0, 0x7, 0x0, 0x0⟩,
  ⟨0x3, 1, 1, 0x0, 0x0, 0x0, 0x0, 0x0, 0x0⟩,
  ⟨0x4, 1, 1, 0x0, 0x0, 0x0, 0x0, 0x0, 0x0⟩,
  ⟨0x5, 1, 1, 0x0, 0xfffffffff, 0x0, 0x0, 0x0, 0x0⟩,
  ⟨0x6, 1, 1, 0x0, 0x7ffffff, 0x0, 0x0, 0x0, 0x0⟩,
  ⟨0x7, 1, 1, 0x0, 0xfffffffff, 0x0, 0x0, 0x0, 0x0⟩,
  ⟨0x8, 1, 1, 0x0, 0x7ffffff, 0x0, 0x0, 0x0, 0x0⟩,
  ⟨0x9, 1, 1, 0x0, 0x1ff, 0x0, 0x0, 0x0, 0x0⟩,
  ⟨0xa, 1, 1, 0x0, 0x0, 0x0, 0x0, 0x0, 0x0⟩,
  ⟨0xb, 1, 1, 0x0, 0x0, 0x0, 0x0, 0x0, 0x0⟩,
  ⟨0xc, 1, 1, 0x0, 0xfffffffff, 0x0, 0x0, 0x0, 0x0⟩,
  ⟨0xd, 1, 1, 0x0, 0x0, 0x0, 0x0, 0x0, 0x0⟩,
  ⟨0xe, 1, 1, 0x8000, 0xfffff, 0x0, 0x0, 0x0, 0x0⟩,
  ⟨0xf, 1, 1, 0x0, 0x0, 0x0, 0x0, 0x0, 0xffff⟩]

/-- R536: rows of LCY. -/
def rowsLCY : List RegRow := [
  ⟨0x0, 1, 1, 0x0, 0x0, 0x0, 0x0, 0x0, 0x0⟩,
  ⟨0x1, 1, 1, 0x0, 0x0, 0x0, 0x0, 0x0, 0x0⟩,
  ⟨0x2, 1, 1, 0x0, 0x0, 0x0, 0x0, 0x0, 0x0⟩,
  ⟨0x3, 1, 1, 0x0, 0x0, 0x0, 0x0, 0x0, 0x0⟩,
  ⟨0x4, 1, 1, 0x0, 0x0, 0x0, 0x0, 0x0, 0x0⟩,
  ⟨0x5, 1, 1, 0x0, 0x0, 0x0, 0x0, 0x0, 0xffffffff⟩,
  ⟨0x6, 1, 1, 0x0, 0x0, 0x0, 0x0, 0x0, 0x0⟩]

/-- R537: rows of BIST. -/
def rowsBIST : List RegRow := [
  ⟨0x0, 1, 1, 0x0, 0x0, 0x0, 0x0, 0x0, 0x0⟩,
  ⟨0x1, 1, 1, 0x0, 0x0, 0x0, 0x0, 0x0, 0x0⟩,
  ⟨0x2, 3, 1, 0x0, 0x0, 0x0, 0x0, 0x0, 0x0⟩,
  ⟨0x5, 1, 1, 0x18, 0x0, 0xfffff, 0x0, 0x0, 0x0⟩,
  ⟨0x8, 1, 1, 0x800, 0x0, 0x7ffff, 0x0, 0x0, 0x0⟩,
  ⟨0x9, 1, 1, 0x0, 0x0, 0xffffff, 0x0, 0x0, 0x0⟩,
  ⟨0xa, 1, 1, 0x0, 0x0, 0x0, 0x0, 0x0, 0x0⟩,
  ⟨0xb, 1, 1, 0x0, 0x0, 0x0, 0x0, 0x0, 0x0⟩]

/-- R538: rows of SVP. -/
def rowsSVP : List RegRow := [
  ⟨0x0, 1, 1, 0x140, 0x1ff, 0x0, 0x0, 0x0, 0x0⟩,
  ⟨0x1, 1, 1, 0x0, 0x0, 0x0, 0x0, 0x0, 0x0⟩,
  ⟨0x2, 1, 1, 0x10, 0x0, 0x0, 0x0, 0x0, 0x0⟩,
  ⟨0x3, 1, 1, 0x0, 0x0, 0x0, 0x0, 0x0, 0xfffffffff⟩,
  ⟨0x8, 8, 1, 0x0, 0x0, 0x0, 0x0, 0x0, 0x0⟩,
  ⟨0x10, 8, 1, 0x0, 0xfffffffff, 0x0, 0x0, 0x0, 0x0⟩,
  ⟨0x18, 1, 1, 0x0, 0x1e0, 0x0, 0x10, 0x200, 0x0⟩]

/-- The rows of the block window that address `a` lies in (R39); the NCE frame buffers repeat every 40h words. -/
def regRows (blk : Nat) : List RegRow :=
  match blk with
  | 0x800 => rowsSYS
  | 0x801 => rowsPWR
  | 0x802 => rowsCLK
  | 0x803 => rowsLCY
  | 0x804 => rowsBIST
  | 0x805 => rowsMEMC
  | 0x806 => rowsRTC
  | 0x810 => rowsLSC
  | 0x811 => rowsXLA
  | 0x812 => rowsHAL
  | 0x813 => rowsFLT
  | 0x820 => rowsPWM ++ rowsPWMLoad
  | 0x821 => rowsPWM
  | 0x822 => rowsDLK
  | 0x823 => rowsGDC
  | 0x824 => rowsFCE
  | 0x825 => rowsFCE
  | 0x826 => rowsCOM
  | 0x827 => rowsISN
  | 0x830 => rowsQEP
  | 0x831 => rowsQEP
  | 0x832 => rowsHALL
  | 0x833 => rowsSENT
  | 0x834 => rowsSIO
  | 0x840 => rowsNCE
  | 0x842 => rowsSVP
  | 0x850 => rowsSDP
  | 0x851 => rowsDMA
  | 0x852 => rowsINT
  | 0x853 => rowsDBG
  | 0x841 => rowsNCEBuf
  | _ => []

/-- Offset of an address in its block's rows: in the frame buffers, the word of the buffer (R428). -/
def regOffset (a : Nat) : Nat := if a / 0x1000 = 0x841 then a % 0x40 else a % 0x1000

/-- Does a row list the offset? -/
def RegRow.lists (r : RegRow) (o : Nat) : Bool :=
  decide (r.base ≤ o) && decide ((o - r.base) % r.stride = 0) && decide ((o - r.base) / r.stride < r.count)

/-- The row that lists address `a`; none is an unlisted offset or a hole (R40). -/
def regRow? (a : Nat) : Option RegRow :=
  (regRows (a / 0x1000)).find? fun r => r.lists (regOffset a)

/-- What a register that nothing has written holds: its reset value (R13). -/
def regReset (a : Nat) : Word :=
  match regRow? a with
  | some r => BitVec.ofNat 36 r.reset
  | none => 0

end Sys2Proof.Machine
end

