-- ==== Sys2Proof/Machine/StateCore.lean ====
section
/-! DEFINITION. State of the cores, the interrupt collector, the lock-step block, the halyard, the fault log and the
input-agreement block that no memory-mapped register shows (02, 04, 05, 06). -/

namespace Sys2Proof.Machine

open Sys2Proof.Moagar

/-- Why a core does not issue on its own account: it runs, it is halted (R89, R198), it is parked or retired
(R203, R206), it is held in the lane reset (R506), or the attach of a debugger has stopped it (R214). -/
inductive CoreRun
  | running | halted | parked | held | stopped
deriving DecidableEq, Repr

/-- What a running core waits for (R109, R110, R113). -/
inductive CoreWait
  | none
  | wfi
  | waitf (rd : GReg)
  | join (rd : GReg)
deriving DecidableEq, Repr

/-- The instruction just issued in slot 0, as far as pairing asks (R95): the general registers it writes, whether it
is LD or ST, whether it is a multiply. -/
structure Slot0 where
  writes : List Nat
  mem : Bool
  mul : Bool
deriving DecidableEq, Repr

/-- One core (R56, R57). `c` holds the stored control registers by number; c2, c9 to c11, c13 and c14 are formed when
they are read. -/
structure Core where
  g : Vector Word 32
  c : Vector Word 64
  /-- PC: the next instruction of the core (R91). -/
  pc : Word
  run : CoreRun
  wait : CoreWait
  /-- The first secure session after a lane reset or restart, in which SEC_LEFT does not count (R64). -/
  firstSec : Bool
  slot0 : Option Slot0
  /-- Error responses to posted stores that have not arrived yet (R76). -/
  stErr : List StoreError
  /-- The timeout of the JOIN in progress has expired before the other core arrived (R113). -/
  joinOver : Bool
  /-- The last instruction was an IRET: a source that the restored state permits goes before the next one (R80). -/
  afterIret : Bool
  /-- LCLK cycles left of the timeout of the JOIN in progress; none before its first issue, some none without a
  timeout (R113). -/
  joinLeft : Option (Option Nat)
  /-- Halted in debug mode (R216). -/
  dhalt : Bool
  /-- The next issue follows a resume or step and matches no breakpoint. -/
  bpSkip : Bool
deriving DecidableEq, Repr

/-- The interrupt collector beside its registers (R82, R87). -/
structure IntHidden where
  /-- Sources of kind edge configured with EDGE = 0 whose signal is high in this LCLK cycle. -/
  pulse : BitVec 256
  /-- Sources whose signal has risen in this LCLK cycle, and the DMA channels that such an edge has triggered in it (R477). -/
  edges : BitVec 256
  taken : BitVec 8
deriving DecidableEq, Repr

/-- The frame-wait release latch (R83, R110): the frame number and whether the agreed vector is complete. -/
structure Release where
  frame : Word
  compl : Bool
deriving DecidableEq, Repr

/-- Lock-step: the self-test engine's queue and the waiting take-over (R202, R205). -/
structure LscHidden where
  /-- Pairs under or queued for the core self-test, first tested first. -/
  testQ : List (Fin 2)
  /-- A take-over waits for P1's verdict (R205). -/
  takeover : Bool
  release : Option Release
deriving DecidableEq, Repr

/-- Halyard and redundancy state that the HAL registers do not show (05). -/
structure HalHidden where
  /-- SAFE is latched until the lane reset (R167). -/
  safe : Bool
  /-- First SAFE cause that has fallen due and takes effect at the next frame start; 0 none (R167). -/
  safeDue : Nat
  /-- SAFE was entered from HALF-MAST (R310). -/
  safeHm : Bool
  /-- Nanoseconds of LTIME counted toward the next millisecond of the limp timer (R171). -/
  limpNs : Nat
  limpWarned : Bool
  /-- The lane was a member in HALF-MAST at the last frame start (R167: hoist events count after it). -/
  inHalfMast : Bool
  /-- CUR in the frame of the last contention this lane released in, and the other lane of it (R179). -/
  contCur : Option Nat
  contOther : Option (Fin 3)
  /-- LTIME at which two or more lines were last observed asserted (R178). -/
  twoAsserted : Option DWord
  /-- Frames left of the isolation test, and whether it has observed a claim of another lane (R173). -/
  isoLeft : Option Nat
  isoClaimSeen : Bool
  /-- The release action runs on bank n (R168, action 11b). -/
  relt : Vector Bool 2
  /-- DTIME since which all three lines are observed released (R176), since which the own line differs from the driven
  level (R181), and at which SAFE was entered (R168). -/
  quietAt : DWord
  diffAt : Option DWord
  safeAt : DWord
deriving DecidableEq, Repr

/-- One fault-log entry before it is written: words 1 to 3 (R188); SEQ is given when it is written. -/
structure LogEntry where
  w1 : Word
  w2 : Word
  w3 : Word
deriving DecidableEq, Repr

/-- A message of an XL link as its words H0 to M1 (R124). -/
abbrev XMsg := List Word

/-- What the XLA holds about one far lane (04). -/
structure XlaPeer where
  /-- A valid message of the input exchange has arrived on the link in round 1, or one or an empty relay in round 2
  (R127, MISS). -/
  in1 : Bool
  in2 : Bool
  vt1 : Bool
  vt2 : Bool
  /-- The direct message admitted in input round 1 and in vote round 1: what is relayed in round 2 (R126). -/
  admI : Option XMsg
  admV : Option XMsg
  /-- Time offsets measured this frame from the vote-round and the input-round direct message (R28). -/
  offV : Option Word
  offI : Option Word
  /-- The member's OUTPUT was absent in the preceding frame (R145). -/
  absPrev : Bool
  /-- TXTIME of the last JOIN received from the lane and the own LTIME at its start symbol (R149). -/
  lastJoin : Option (Word × Word)
  answerDue : Bool
  /-- Delay samples so far (R149), newest first, at most 8. -/
  samples : List Word
  /-- The link delay is measured (XLA_LDLY holds it). -/
  delayOk : Bool
  /-- Fields of the last JOIN of the lane (R149, R150). -/
  ready : Bool
  founder : Bool
  accept : Bool
  tframe : Nat
  setver : Nat
  vmaj : Nat
  epoch : DWord
  annMemb : Nat
  /-- Pennant of the lane's last valid message. -/
  pennant : Word
  /-- JREQ seen in a STATE of this frame's vote (R153). -/
  jreq : Bool
  /-- MEMB of the lane's last valid INPUT, OUTPUT or STATE of this frame (R146). -/
  memb : Option Nat
  /-- The lane was heard in the preceding frame as one that takes part in the exchanges (R126, R138). -/
  heard : Bool
deriving DecidableEq, Repr

/-- The debug TAP (R559): the instruction, the core and the result of the last operation of the debug access register with
its status. -/
structure TapHidden where
  ir : BitVec 5
  core : Fin 4
  result : Word
  status : Nat
deriving DecidableEq, Repr

/-- A copy of a mirror block received during an own resynchronisation (R154). -/
structure MirrorCopy where
  lane : Fin 3
  mseq : Nat
  block : Nat
  final : Bool
  words : List Word
deriving DecidableEq, Repr

/-- State of the XLA that its registers do not show (04). -/
structure XlaHidden where
  peer : Vector XlaPeer 3
  /-- Views of the input exchange and of the vote, per originator (R122). -/
  viewI : Vector (List XMsg) 3
  viewV : Vector (List XMsg) 3
  /-- The last event of the frame's timeline that has been taken: 1, 2 input rounds, 3 input close, 4 mid window, 5, 6 vote
  rounds, 7 vote close, 8 tail window (R129, R132). -/
  xstep : Nat
  /-- Selection and vote of this frame are done. -/
  selected : Bool
  voted : Bool
  /-- A release waits for the last write of the agreed vector area (R138) and for final mirror blocks (R155). -/
  relWait : Option Release
  /-- The declared input set read at the frame start, when every read completed with OK (R133). -/
  ownSet : Option (List Word)
  /-- The output set accepted this frame (R140). -/
  accepted : Option (List Word)
  /-- This lane's own OUTPUT was absent in the preceding frame (R145). -/
  ownAbsPrev : Bool
  /-- Agreed values of the preceding frame, 24 words (R135); PAR before the first selection. -/
  prevAgreed : List Word
  /-- Membership of the preceding frame (R137 JOINF). -/
  prevMemb : Nat
  /-- Outcome 3 in the preceding frame (R147). -/
  nomajPrev : Bool
  /-- The voted set is written and the next frame start commits it; its HOLD and SINGLE bits (R143). -/
  commitDue : Option (Bool × Bool)
  /-- LEAVE requested, or a halt of the safety pair acting as LEAVE (R158, R200). -/
  leave : Bool
  /-- The own resynchronisation is requested (R153). -/
  resync : Bool
  /-- Keys of lanes A, B, C as fetched, 128 bits each (R159). -/
  keys : Vector (BitVec 128) 3
  /-- Messages sent in the last sending event: far lane and words; no words is an empty relay. -/
  sent : List (Fin 3 × XMsg)
  /-- Formation (R149 to R151): proposed epoch, this lane founds, alone, its announcement, own ACCEPT given. -/
  epoch : Option DWord
  founding : Bool
  solo : Bool
  announced : Option Nat
  accepting : Option (Fin 3)
  /-- DTIME at which the lane became READY, and of the last JOIN sent before formation (R149, R151). -/
  readyAt : Option DWord
  joinAt : Option DWord
  /-- The LTIME step after formation has been made in this stay in SYNCING (R30). -/
  stepped : Bool
  /-- Member side of a transfer (R152 to R156). -/
  toSend : BitVec 256
  served : Option (Fin 3)
  m1 : Word
  capture : List (Nat × List Word)
  captureFinal : Bool
  mseq : Nat
  /-- The first capture of the transfer has been taken. -/
  serving : Bool
  /-- ATTEMPT of an attempt that has failed or was abandoned here while the members may still send it (R156). -/
  failedAtt : Option Nat
  /-- Joining side (R154 to R157): copies received, blocks written, next MSEQ, an attempt runs, the frame whose vote carried
  JFIN, member frames since the join (while fewer than 16). -/
  copies : List MirrorCopy
  nextMseq : Nat
  /-- `nextMseq` when the tail window of the preceding frame was over (R155). -/
  midBase : Nat
  attempt : Bool
  attemptAt : Option DWord
  finalFrame : Option Word
  since : Option Nat
  /-- The lane enters VOTING at the next frame start: by JFIN, or alone after the isolation test (R155, R173). -/
  voteNext : Bool
  /-- FRAME_EPOCH (R22) and the target g formed at the last vote close (R28). -/
  frameEpoch : DWord
  target : Option Int
  /-- LTIME of the resynchronisation events (R157). -/
  events : List DWord
deriving DecidableEq, Repr

end Sys2Proof.Machine
end

