-- ==== Sys2Proof/Machine/StateFce.lean ====
section
/-! DEFINITION. State of a Field Control Engine that its registers do not show (10). -/

namespace Sys2Proof.Machine

/-- What the last run that was not skipped did (R317, R318, R320). -/
inductive FceKind
  | idle | duty | tracking | volt | current
deriving DecidableEq, Repr

/-- The last run that was not skipped: what it did, its descriptor with its 32 words, its duties, its current references, and the
id and iq that it measured. -/
structure FceLast where
  kind : FceKind
  index : Nat
  dsc : List Word
  duties : List Word
  refs : Option (Word × Word)
  meas : Word × Word
deriving DecidableEq, Repr

/-- A hand-over in progress: its step on vd and vq or on the three duties, and the frame k of it (R319). -/
structure FceHo where
  step : List Word
  onDuty : Bool
  k : Nat
deriving DecidableEq, Repr

/-- A run whose compare writes have been issued (R314, R315): LTIME of the acquire cycle, sample time, Ω, LDAL. -/
structure FceRun where
  acq : Word
  ts : Word
  omega : Word
  ldal : Nat
deriving DecidableEq, Repr

structure FceHidden where
  /-- The two copies of the image; STAT.IMG names the active one (R303). -/
  img : Vector (List Word) 2
  /-- The active copy passed the check; the inactive one did and waits for the frame start. -/
  ok : Bool
  swapDue : Bool
  run : Option FceRun
  /-- A trigger has come and its run begins (R299). -/
  due : Bool
  latch : Bool
  /-- The next region is taken without hysteresis (R309). -/
  fresh : Bool
  /-- None since EN was set. -/
  last : Option FceLast
  ho : Option FceHo
  /-- References held in SAFE (R321). -/
  safeRef : Word × Word
  /-- Compares written in this frame; a run of this frame wrote none; a LOADALL waits for the other engine (R314). -/
  wrote : Bool
  skipped : Bool
  loadWait : Bool
  /-- Run records written since RCFG was (R315). -/
  recs : Nat
deriving DecidableEq, Repr

def fceReset : FceHidden :=
  { img := Vector.replicate 2 [], ok := false, swapDue := false, run := none, due := false, latch := false, fresh := true, last := none
    ho := none, safeRef := (0, 0), wrote := false, skipped := false, loadWait := false, recs := 0 }

end Sys2Proof.Machine
end

