-- ==== Sys2Proof/Machine/StateMem.lean ====
section
/-! DEFINITION. State of the memory controller and the DMA that no register shows (16). -/

namespace Sys2Proof.Machine

/-- A write in the MRAM queue (R463): its source unit, its tag until the response is discarded (none for a unit without
tags), address and value. -/
structure MramWrite where
  src : Nat
  tag : Option (BitVec 7)
  addr : Nat
  val : Word
deriving DecidableEq, Repr

/-- The march in progress (R470 to R475): the banks still under test and its configuration; `cut` after a tamper event
took bank 15 out of it (R479). -/
structure MarchRun where
  banks : Nat
  form : Bool
  repair : Bool
  fuse : Bool
  cut : Bool
  /-- Its background and ALLBG, and DTIME at its start (R470). -/
  bg : Nat
  allbg : Bool
  at_ : DWord
deriving DecidableEq, Repr

structure MemcHidden where
  /-- Words whose stored bits differ from their written code word, by address. -/
  upsets : List (Nat × Upset)
  /-- Addresses with a pending ECC write-back, with DTIME of the corrected read (R459). -/
  wb : List (Nat × DWord)
  /-- DTIME at the start of the running wipe (R461), and of the write of the oldest queued word (R463). -/
  wipeAt : DWord
  mqAt : DWord
  /-- Time in ns that the scrub has counted since the last block fell due (R465). -/
  scrubNs : Nat
  /-- The MRAM write queue, oldest first (R463). -/
  mq : List MramWrite
  march : Option MarchRun
deriving DecidableEq, Repr

/-- A DMA transfer in progress: what its registers held at its start, and the words moved (R477). -/
structure DmaRun where
  src : Nat
  dst : Nat
  cnt : Nat
  sinc : Bool
  dinc : Bool
  cls : Nat
  moved : Nat
deriving DecidableEq, Repr

end Sys2Proof.Machine
end

