-- ==== Sys2Proof/Machine/StateNce.lean ====
section
/-! DEFINITION. State of the Rosmel node that no register shows (14, 15). Times are NTIME in units q of 0.125 ns. -/

namespace Sys2Proof.Machine

/-- One port (R422, R423, R425, R431, R432, R417). -/
structure NcePort where
  /-- The receiver status is OK, and for how many cycle starts it has been. -/
  rxOk : Bool
  okCycles : Nat
  /-- DTIME since which it has been (R444); when the last LOOPED frame and the last delay request were sent (R422, R432). -/
  okAt : DWord
  loopAt : Option DWord
  dreqAt : Option DWord
  /-- A delay request has been sent in this cycle; a LOOPED frame has arrived in this LCLK cycle (R426, R432). -/
  dreqIn : Bool
  loopNow : Bool
  /-- The last own frame and the last forwarded frame on this output: from preamble to end, NTIME in q (R418). -/
  ownSpan : Nat × Nat
  fwdSpan : Nat × Nat
  /-- TXT of the link frames sent in the last 1 ms. -/
  txTimes : List (BitVec 36)
  /-- TXT and arrival of the last link frame received. -/
  echo : Option (BitVec 36 × BitVec 36)
  /-- Delay samples, newest first, at most 8. -/
  samples : List (BitVec 36)
  dresp : Bool
  /-- A LOOPED frame with READY = 1 has arrived in this cycle. -/
  ready : Bool
  /-- NCE_CMD.UNWRAP written since the wrap. -/
  unwReq : Bool
  noise : Nat
deriving DecidableEq, Repr

/-- What a node has seen in one cycle. -/
structure NceCycle where
  /-- FIDs delivered, and buffers that received a valid non-null frame (R419, R421). -/
  fids : List Nat
  bufs : List Nat
  /-- Offset of the guidon's sync frame, and the MODE it carried (R434, R440). -/
  gE : Option Int
  gMode : Nat
  /-- The head's slot-1 frame arrived valid on the input of the sending path, with its MODE. -/
  headOk : Bool
  headMode : Option Nat
  /-- Sources of valid sync frames, and a guidon with a lower ID (R441). -/
  syncSrc : List Nat
  lowG : Bool
  /-- The own sync frame was sent, and returned valid (R439). -/
  ownSync : Bool
  ownBack : Bool
  /-- Nodes with the mode they request, and the first request on the sending path (R446, R447). -/
  mreq : List (Nat × Nat)
  first : Option Nat
  /-- Least VMIN seen (R440). -/
  minVmin : Option Nat
deriving DecidableEq, Repr

/-- A frame assembled for its sending time, a train time in q (R408, R411): static slot, transmit buffer, payload; no payload
is a null frame. -/
structure NceTx where
  at_ : Nat
  slot : Nat
  buf : Option Nat
  payload : Option (List Word)
  sync : Bool
deriving DecidableEq, Repr

/-- Content of a receive buffer that waits for a control-frame start (R420): CYC, RLEN, NULLR, PATH, TS, payload, OVR. -/
structure NceHeld where
  buf : Nat
  cyc : Nat
  rlen : Nat
  null : Bool
  path : Nat
  ts : Word
  payload : Option (List Word)
  ovr : Bool
deriving DecidableEq, Repr

structure NceHidden where
  /-- NTIME and the corrections of the running cycle: how many, their sense, LCLK cycles since its start (R430, R434). -/
  ntime : DWord
  adjN : Nat
  adjBack : Bool
  adjCyc : Nat
  /-- The running cycle is the one that starts at train time cycN × TCYC (R430). -/
  cycN : Nat
  /-- Buffers written since the last LCLK cycle, with RDY as it stood at the end of that cycle (R411, R426). -/
  rdyWas : List (Nat × Bool)
  /-- DTIME of the last valid frame or of the entry into LISTEN; of the first frame of another major version since (R438). -/
  heardAt : DWord
  verAt : Option DWord
  port : Vector NcePort 2
  cur : NceCycle
  prev : NceCycle
  tx : Option NceTx
  held : List NceHeld
  /-- FID and start of the own frames that have not returned, newest first (R408). -/
  ownStart : List (Nat × Nat)
  /-- Coldstart cycles complete, own frames missed, words 0 and 1 of the last sync frame sent (R439). -/
  coldN : Option Nat
  ownMiss : Nat
  lastSync : Option (Word × Word)
  /-- A whole cycle has begun since the step; cycles without the guidon (R438, R440, R441). -/
  intFull : Bool
  gMiss : Nat
  passGood : Nat
  passBad : Nat
  /-- Measurements since the step, and eprev (R434). -/
  meas : Nat
  ePrev : Int
  /-- Latest VMIN of each node (R450). -/
  vmins : List (Nat × Nat)
  /-- Consecutive cycles in a mode other than the head's (R448). -/
  modeDiff : Nat
  /-- The next minislot boundary, and the boundary to which MC holds (R413). -/
  mIdx : Nat
  mcHold : Option Nat
  /-- Frames sent at the last sending event, with their output port. -/
  out : List (Nat × RFrame)
deriving DecidableEq, Repr

def ncePortReset : NcePort :=
  { rxOk := false, okCycles := 0, okAt := 0, loopAt := none, dreqAt := none, dreqIn := false, loopNow := false
    ownSpan := (0, 0), fwdSpan := (0, 0), txTimes := [], echo := none, samples := [], dresp := false, ready := false
    unwReq := false, noise := 0 }

def nceCycleReset : NceCycle :=
  { fids := [], bufs := [], gE := none, gMode := 0, headOk := false, headMode := none, syncSrc := [], lowG := false
    ownSync := false, ownBack := false, mreq := [], first := none, minVmin := none }

def nceReset : NceHidden :=
  { ntime := 0, adjN := 0, adjBack := false, adjCyc := 0, cycN := 0, rdyWas := [], heardAt := 0
    verAt := none, port := Vector.replicate 2 ncePortReset, cur := nceCycleReset
    prev := nceCycleReset, tx := none, held := [], ownStart := [], coldN := none, ownMiss := 0, lastSync := none
    intFull := false, gMiss := 0, passGood := 0, passBad := 0, meas := 0, ePrev := 0, vmins := [], modeDiff := 0
    mIdx := 0, mcHold := none, out := [] }

end Sys2Proof.Machine
end

