-- ==== Sys2Proof/Machine/StateSdp.lean ====
section
/-! DEFINITION. State of the signal datapath that its registers do not show (R327, R330, R334, R336). -/

namespace Sys2Proof.Machine

/-- What a MAC operation does to its accumulator (R340). -/
inductive MacKind
  | mpy | mac | msu
deriving DecidableEq, Repr

/-- A MAC operation issued and not yet accumulated: accumulator, kind, product. -/
structure MacOp where
  acc : Fin 4
  kind : MacKind
  prod : BitVec 80
deriving DecidableEq, Repr

/-- An active repeat: start, end and count. -/
structure SdpLoop where
  start : BitVec 11
  last : BitVec 11
  count : Nat
deriving DecidableEq, Repr

/-- One register bank; index registers and circular bases and lengths have 10 bits, modifiers 11. -/
structure SdpBank where
  d : Vector Word 8
  a : Vector (BitVec 80) 4
  i : Vector (BitVec 10) 8
  m : Vector (BitVec 11) 8
  b : Vector (BitVec 10) 8
  l : Vector (BitVec 10) 8
  z : Bool
  n : Bool
  loops : List SdpLoop
  pc : BitVec 11
  /-- Operations issued at the last issue and at the one before it. -/
  pipe1 : List MacOp
  pipe2 : List MacOp
deriving DecidableEq, Repr

structure SdpHidden where
  bank : Vector SdpBank 2
  /-- Posted stores whose error response has not arrived yet. -/
  stErr : List StoreError
deriving DecidableEq, Repr

def sdpBankReset : SdpBank :=
  { d := Vector.replicate 8 0, a := Vector.replicate 4 0, i := Vector.replicate 8 0, m := Vector.replicate 8 0
    b := Vector.replicate 8 0, l := Vector.replicate 8 0, z := false, n := false, loops := [], pc := 0, pipe1 := []
    pipe2 := [] }

def sdpReset : SdpHidden := { bank := Vector.replicate 2 sdpBankReset, stErr := [] }

end Sys2Proof.Machine
end

