-- ==== Sys2Proof/Machine/StateSens.lean ====
section
/-! DEFINITION. State of commutation, Hall decoding, current sensing, encoders and SENT receivers that no register shows
(09, 12). -/

namespace Sys2Proof.Machine

/-- COM of one bank (R281 to R288). -/
structure ComHidden where
  /-- The mode in effect since the last period start; none before the first. -/
  mode : Option Nat
  /-- The PHASE that COM enters at the next period start (R286). -/
  next : Option Nat
  /-- Consecutive Hall edges in one direction: 1 forward, 2 backward (R286). -/
  runDir : Nat
  runN : Nat
  /-- SHORT with SHSEL 10b: periods in the present role, and the role is HIGH (R288). -/
  altCnt : Nat
  altHigh : Bool
  altSel : Nat
  /-- LTIME of the last write of COM_SWANGn (R281). -/
  swTs : Word
  /-- DTIME of the last change of the raw Hall state, of the last accepted change, and of the entry into START (R277, R279,
  R286). -/
  rawAt : DWord
  edgeAt : DWord
  startAt : DWord
  /-- LTIME from which the locked-rotor timer counts, and how often LOCKR has been hoisted since (R287). -/
  lockAt : DWord
  lockN : Nat
deriving DecidableEq, Repr

/-- What a sample needs of its period: LTIME of the period start, counts to the anchor, the trip state, and the counts up to
the anchor for which the low side of phases U, V, W had been on (R291, R292). -/
structure OwedSample where
  start : DWord
  spt : Nat
  trip : Nat
  low : Vector Nat 3
deriving DecidableEq, Repr

/-- ISN: the modulator bits received, newest first, none where a packet was lost; LTIME of the newest bit's edge (R246,
R290, R292). -/
structure IsnHidden where
  bits : Vector (List (Option Bool)) 7
  newest : DWord
  /-- SEQ expected in the next bitstream packet. -/
  nextSeq : Option Nat
  /-- The running period of the bank has its sample (R291). -/
  sampled : Vector Bool 2
  /-- The sample that the ended period of the bank still owes: LTIME of its start, SPT, APER at most, and what its gates
  were (R291, R292). -/
  owed : Vector (Option OwedSample) 2
deriving DecidableEq, Repr

/-- One encoder interface (R347 to R362). -/
structure QepHidden where
  /-- A counted edge since EN was set. -/
  hasEdge : Bool
  /-- Times of the last counted edges, newest first, at most nine, and their number in one direction (R353). -/
  times : List DWord
  n : Nat
  lastEdge : DWord
  lastIv : Nat
  /-- The index condition holds and has been seen to; an index event waits for the cycle after a QERR; index events since EN or
  a write of POS (R350, R351, R359). -/
  idxCond : Bool
  idxLater : Bool
  idxN : Nat
  /-- Divided output: phase accumulator and output state A, B (R358). -/
  acc : Nat
  qout : Nat
  /-- LCLK cycles left of a compare pulse on the Z output (R356). -/
  zLeft : Nat
  /-- Consecutive pull-test failures per input; edges of the other channel since A, B were last high; stuck-low faults
  (R361). -/
  pullFail : Vector Nat 3
  otherEdges : Vector Nat 2
  stuck : Vector Bool 2
  /-- DTIME of the last change of the filtered level of A, B and Z, and of the last pull test (R361). -/
  lvlAt : Vector DWord 3
  pullAt : DWord
deriving DecidableEq, Repr

/-- What a SENT receiver waits for (R364). -/
inductive SentPhase
  | search
  | nibbles
  | pause
  | calib
deriving DecidableEq, Repr

/-- One SENT receiver (R364 to R366). -/
structure SentHidden where
  phase : SentPhase
  /-- Length of the running frame's calibration pulse in ns, and the LTIME of its first edge. -/
  tc : Nat
  calStart : DWord
  /-- The running frame is the first after a search and is not delivered. -/
  refFrame : Bool
  /-- Nibbles of the running frame so far, oldest first. -/
  nibs : List Nat
  /-- Status bits 3 and 2 of consecutive valid frames, oldest first (R366). -/
  ser : List (Bool × Bool)
  /-- LTIME of the calibration pulse of the last valid frame (R365, R368). -/
  tsAt : DWord
  /-- DTIME of the last accepted falling edge, or of EN's setting (R367). -/
  edgeAt : DWord
  /-- DTIME at which the sensor supply of this number was switched off by a fault (R369). -/
  supAt : DWord
deriving DecidableEq, Repr

end Sys2Proof.Machine
end

