-- ==== Sys2Proof/Machine/StateSio.lean ====
section
/-! DEFINITION. State of the safety inputs and outputs that no register shows (13). -/

namespace Sys2Proof.Machine

structure SioHidden where
  /-- Channels: A of pairs 0 to 7, then B. Accepted value before forcing, consecutive unmasked ticks with the other value,
  value at the last unmasked tick, forced by a test fault (R377, R383). -/
  acc : BitVec 16
  run : Vector Nat 16
  last : BitVec 16
  forced : BitVec 16
  /-- Discrepancy counters (R379). -/
  disc : Vector Nat 8
  /-- LTIME at which the test window of TPO k ends, once its pulse has ended (R382); the check before its pulse failed
  (R383). -/
  winEnd : Vector (Option DWord) 4
  preFail : Vector Bool 4
  /-- LTIME of the last tick (R376); the start of the last pulse of TPO k, its check made, and the start for which the check
  before it was made (R381, R383). -/
  tickAt : Option DWord
  tpAt : Vector (Option DWord) 4
  tpDone : Nat
  preFor : Vector (Option DWord) 4
  /-- The start of the last test pulse of output n, and its check made (R386). -/
  otAt : Vector (Option DWord) 4
  otDone : Nat
  /-- SRC 1 values read at the last frame start (R385). -/
  src1 : Nat
  /-- Stuck-on and overload latches of the outputs (R386, R387). -/
  stuck : Nat
  ovl : Nat
  /-- The running output test is discarded (R388). -/
  discard : Nat
deriving DecidableEq, Repr

end Sys2Proof.Machine
end

