-- ==== Sys2Proof/Machine/StateSys.lean ====
section
/-! DEFINITION. State of power, clocks, calendar, start-up, life cycle and the service port that no register shows
(17, 18, 19). -/

namespace Sys2Proof.Machine

/-- The power state of the lane (R483). -/
inductive PState
  | run | idle | sleep | deep | off
deriving DecidableEq, Repr

/-- Power, reset and start-up. -/
structure PwrHidden where
  pstate : PState
  /-- The lane is in its lane reset and a start-up of this form is due: 1 cold, 2 warm, 3 wake (R506, R537). -/
  startDue : Option Nat
  /-- The next start-up uses the full BIST sets (R537). -/
  fullBist : Bool
  /-- Banks retained in DEEP (R467). -/
  kept : Nat
  /-- Latched pad levels: test-pulse outputs, divided outputs of QEP0 and QEP1, sensor-supply switches (R487). -/
  pads : Option (List Nat)
  /-- STRAP[5:0] as read at the last lane reset (R390). -/
  strap : Nat
  /-- The halyard test of the start-up failed: no claim is requested until the next lane reset (R514). -/
  noClaim : Bool
  /-- The entry into DEEP saved the registers (R491). -/
  saved : Bool
  /-- Wake sources active now, FIRST codes 1 to 5 in bits 0 to 4 (R485 code 9, R488). -/
  wakeAct : BitVec 5
  /-- Successive windows of 2 µs in which LCLK has lain beyond WTHR (R500). -/
  clkOver : Nat
  /-- DTIME of the last hourly comparison of the power-up test ages; none before the first (R513). -/
  putAt : Option DWord
deriving DecidableEq, Repr

/-- The calendar clock (R495 to R499). -/
structure RtcHidden where
  /-- Ticks since the power-up of the domain; signed counts left to trim in this 2^20-tick interval (R496). -/
  ticks : Nat
  calLeft : Int
  setDue : Bool
  adoptDue : Bool
  /-- DTIME at the last tick, and whether none has come for 100 µs (R497). -/
  tickAt : DWord
  stopped : Bool
  /-- The enabled alarm was in the past when it was set and does not fire (R498). -/
  dead : Bool
deriving DecidableEq, Repr

/-- The fuses of the lane (R506, R520, R521, R528). -/
structure Fuses where
  /-- Bit i: the transition into life-cycle state i + 1. -/
  life : BitVec 5
  ownerHash : Option (BitVec 256)
  herefKey : BitVec 512
  herefHash : BitVec 256
  devKey : BitVec 128
  floor : Nat
  grade : Bool
  uid : BitVec 72
  /-- Fused spares of each bank: rows and columns (R476). -/
  repRows : Vector Nat 16
  repCols : Vector Nat 16
deriving DecidableEq, Repr

/-- The life-cycle block (R528 to R530, R536). -/
structure LcyHidden where
  fuses : Fuses
  /-- SEQ of the last record accepted since the lane reset (R528). -/
  lastSeq : Option Nat
  /-- The key words after the unwrap of this lane reset; none before it, empty when it failed (R530). -/
  keys : Option (List Word)
deriving DecidableEq, Repr

/-- What the next FETCH returns (R532). -/
inductive SvpResp
  | none
  | words (l : List Word)
  | msg
deriving DecidableEq, Repr

/-- The service port (R531 to R533). -/
structure SvpHidden where
  /-- The fuse load failed: the port stays silent (R514). -/
  silent : Bool
  resp : SvpResp
  /-- Words of the seal record received so far and the chunk index that comes next. -/
  chunks : List Word
  chunk : Nat
  /-- What the last addressed transaction drove on SDO: the status of the one before it; for FETCH also RLEN, the response words
  and their CRC-8 (R531). -/
  sdo : List (BitVec 8)
deriving DecidableEq, Repr

/-- Overlay switching and the rolling LBIST (R515 to R518, R526, R527). -/
structure OvlHidden where
  /-- Frame f_r from which the current target counts; none without a switch in progress. -/
  from_ : Option Word
  /-- The inactive copy of the target is complete. -/
  built : Bool
  /-- Frame of the start of the rolling run. -/
  rolling : Bool
deriving DecidableEq, Repr

end Sys2Proof.Machine
end

