-- ==== Sys2Proof/Machine/State.lean ====
section
/-! DEFINITION. The lane: every register, memory word and piece of hidden state, and the queue of waiting commands. -/

namespace Sys2Proof.Machine

/-- Why a machine could stop with a fault. No rule of the spec stops a lane on a command: error responses, traps, STRUCK
and reset are next states. -/
inductive Fault
  /-- Raised by no command: a lane has no state in which a command stops the model. Safe. -/
  | stopped
deriving DecidableEq, Repr

/-- Why a command could be refused. -/
inductive Refusal
  /-- Raised by the arm of a command that has no meaning yet. Safe: the machine stops there. -/
  | notModelled (mnemonic : String)
deriving DecidableEq, Repr

/-- One lane: its controller die and its gate-drive die. -/
structure State where
  /-- Which lane of the triplex this is: 0 A, 1 B, 2 C (R15, R57). -/
  lane : Fin 3
  /-- Every memory-mapped register that does not hold its reset value, by address (R39). -/
  regs : Cells
  /-- Every word of SRAM, MRAM and AOM that is not 0, by address (R39). -/
  mem : Cells
  memc : MemcHidden
  pwr : PwrHidden
  rtc : RtcHidden
  lcy : LcyHidden
  svp : SvpHidden
  ovl : OvlHidden
  nce : NceHidden
  pwm : Vector PwmHidden 2
  dlk : DlkHidden
  die : DieHidden
  chop : ChopHidden
  com : Vector ComHidden 2
  isn : IsnHidden
  qep : Vector QepHidden 2
  sent : Vector SentHidden 4
  sio : SioHidden
  fce : Vector FceHidden 2
  sdp : SdpHidden
  /-- Values captured for later reads by the same fabric source: source, address, value (R293, R365). -/
  caps : List (Nat × Nat × Word)
  /-- The model's own: how many free values have been taken. -/
  freeCtr : Nat
  /-- The transfers in progress of the DMA channels. -/
  dma : Vector (Option DmaRun) 8
  /-- LTIME (R27) and the LCLK cycles since the lane reset (R57 CYCLE). -/
  ltime : DWord
  cycle : DWord
  /-- Rate corrections of the running frame: how many, their sense, LCLK cycles of the frame so far (R28). -/
  corrN : Nat
  corrBack : Bool
  frameCycle : Nat
  /-- Frame number (R22), LTIME of the start of the running frame. -/
  frame : Word
  frameStart : DWord
  /-- Pennant of the latest completed frame (R33). -/
  pennant : Word
  cores : Vector Core 4
  /-- Pair p is split (R112). -/
  split : Vector Bool 2
  intc : IntHidden
  tap : TapHidden
  lsc : LscHidden
  hal : HalHidden
  logQ : List LogEntry
  xla : XlaHidden
  /-- The commands that wait, first in, first out. -/
  pending : List Instr
deriving DecidableEq, Repr

/-- A core in the lane reset: general registers 0, control registers at the values of R57, at the boot address. -/
def coreReset : Core :=
  { g := Vector.replicate 32 0
    c := ((((Vector.replicate 64 (0 : Word)).set 0 0x802).set 3 0x200000).set 4 0x200100).set 25 0xF0000
    pc := 0x200000
    run := .held
    wait := .none
    firstSec := true
    slot0 := none
    stErr := []
    joinOver := false
    afterIret := false
    joinLeft := none
    dhalt := false
    bpSkip := false }

def peerReset : XlaPeer :=
  { in1 := false, in2 := false, vt1 := false, vt2 := false, admI := none, admV := none, offV := none, offI := none
    absPrev := false, lastJoin := none, answerDue := false, samples := [], delayOk := false, ready := false
    founder := false, accept := false, tframe := 0, setver := 0, vmaj := 0, epoch := 0, annMemb := 0, pennant := 0
    jreq := false, memb := none, heard := false }

def xlaReset : XlaHidden :=
  { peer := Vector.replicate 3 peerReset, viewI := Vector.replicate 3 [], viewV := Vector.replicate 3 []
    selected := false, voted := false, relWait := none, ownSet := none, accepted := none, ownAbsPrev := false, xstep := 0
    prevAgreed := [], prevMemb := 0, nomajPrev := false, commitDue := none, leave := false
    resync := false, keys := Vector.replicate 3 0, sent := [], epoch := none, founding := false, solo := false
    announced := none, accepting := none, stepped := false, toSend := 0, served := none, m1 := 0, capture := []
    captureFinal := false, mseq := 0, serving := false, failedAtt := none, copies := [], nextMseq := 0, midBase := 0, readyAt := none, joinAt := none, attempt := false
    attemptAt := none, finalFrame := none, since := none, voteNext := false, frameEpoch := 0, target := none, events := [] }

def halReset : HalHidden :=
  { safe := false, safeDue := 0, safeHm := false, limpNs := 0, limpWarned := false, inHalfMast := false, contCur := none
    contOther := none, twoAsserted := none, isoLeft := none, isoClaimSeen := false
    relt := Vector.replicate 2 false, quietAt := 0, diffAt := none, safeAt := 0 }

def pwmReset : PwmHidden :=
  { fresh := true, resume := false, sVal := Vector.replicate 3 false, sAge := Vector.replicate 3 0
    acmp := Vector.replicate 3 0, refresh := false, startD := 0, role := Vector.replicate 3 3
    chg := Vector.replicate 3 false, lastG := Vector.replicate 3 0, lowAge := Vector.replicate 3 0, tripD := 0
    tripLow := Vector.replicate 3 0, startL := 0
    phased := none, strNext := false, done := false, base := 0, ripe := none, answered := true }

def dlkReset : DlkHidden :=
  { dtime := 0, edgeQ := Vector.replicate 3 [], tripQ := [], cfgQ := [], cfgSent := [], soPend := [], nextSeq := 0
    tsync := none, tsyncAt := 0, stopAt := none, downLine := none, upLine := none, patNext := false, upBits := none, upEvent := none, upStatus := [] }

def dieBankReset : DieBank :=
  { gates := 0, offAt := Vector.replicate 6 none, onAt := Vector.replicate 6 none, accept := false, discard := false, sched := [] }

/-- The gate-drive die after its power-up: registers at their reset values, outputs disabled, the link-loss pattern all
off (R249, R257, R547). -/
def dieReset : DieHidden :=
  { powered := true, dtime := 0, regs := [], llpat := 0, dt := Vector.replicate 2 0x32
    bank := Vector.replicate 2 dieBankReset, chop := false, chopSched := [], lastSeq := 7, patHeld := false
    soCmd := 0, dirty := [], rr := 0, evDue := false, bitSeq := 0, gobs := 0, armAt := none, shen := false, pins := 0
    lateN := 0, codeN := 0, crcN := 0, tsAt := none, tsBad := 0, vms := 0, chopAt := none
    rptAt := Vector.replicate 24 0, relDue := 0 }

def comReset : ComHidden :=
  { mode := none, next := none, runDir := 0, runN := 0, altCnt := 0, altHigh := false, altSel := 0, swTs := 0
    rawAt := 0, edgeAt := 0, startAt := 0, lockAt := 0, lockN := 0 }

def isnReset : IsnHidden :=
  { bits := Vector.replicate 7 [], newest := 0, nextSeq := none, sampled := Vector.replicate 2 true
    owed := Vector.replicate 2 none }

def qepReset : QepHidden :=
  { hasEdge := false, times := [], n := 0, lastEdge := 0, lastIv := 0, idxCond := false, idxLater := false, idxN := 0, acc := 0, qout := 0
    zLeft := 0, pullFail := Vector.replicate 3 0, otherEdges := Vector.replicate 2 0, stuck := Vector.replicate 2 false
    lvlAt := Vector.replicate 3 0, pullAt := 0 }

def sentReset : SentHidden := { phase := .search, tc := 0, calStart := 0, refFrame := true, nibs := [], ser := [], tsAt := 0, edgeAt := 0, supAt := 0 }

def sioReset : SioHidden :=
  { acc := 0, run := Vector.replicate 16 0, last := 0, forced := 0, disc := Vector.replicate 8 0
    winEnd := Vector.replicate 4 none, preFail := Vector.replicate 4 false, tickAt := none, tpAt := Vector.replicate 4 none
    tpDone := 0, preFor := Vector.replicate 4 none, otAt := Vector.replicate 4 none, otDone := 0, src1 := 0, stuck := 0, ovl := 0, discard := 0 }

/-- Powered, in reset, with a cold start-up due. -/
def pwrReset : PwrHidden :=
  { pstate := .run, startDue := some 1, fullBist := false, kept := 0, pads := none, strap := 0, noClaim := false
    saved := false, wakeAct := 0, clkOver := 0, putAt := none }

/-- A part with no fuse programmed: life-cycle state TEST. -/
def fusesBlank : Fuses :=
  { life := 0, ownerHash := none, herefKey := 0, herefHash := 0, devKey := 0, floor := 0, grade := false, uid := 0
    repRows := Vector.replicate 16 0, repCols := Vector.replicate 16 0 }

/-- The lane right after the power-on reset (R13): registers at their reset values, memories with nothing listed, cores
held until the start-up sequence releases them (R506). -/
def State.reset : State :=
  { lane := 0, regs := [], mem := [], memc := { upsets := [], wb := [], wipeAt := 0, mqAt := 0, scrubNs := 0, mq := [], march := none }
    pwr := pwrReset, rtc := { ticks := 0, calLeft := 0, setDue := false, adoptDue := false, tickAt := 0, stopped := false, dead := false }
    lcy := { fuses := fusesBlank, lastSeq := none, keys := none }
    svp := { silent := false, resp := .none, chunks := [], chunk := 0, sdo := [] }
    ovl := { from_ := none, built := false, rolling := false }
    nce := nceReset
    pwm := Vector.replicate 2 pwmReset, dlk := dlkReset, die := dieReset, chop := { minDone := true, onAt := 0, restAt := 0, emAt := Vector.replicate 24 0 }
    com := Vector.replicate 2 comReset, isn := isnReset
    qep := Vector.replicate 2 qepReset, sent := Vector.replicate 4 sentReset, sio := sioReset, fce := Vector.replicate 2 fceReset, sdp := sdpReset, caps := [], freeCtr := 0
    dma := Vector.replicate 8 none, ltime := 0, cycle := 0, corrN := 0, corrBack := false
    frameCycle := 0, frame := 0, frameStart := 0, pennant := 0
    cores := Vector.replicate 4 coreReset, split := Vector.replicate 2 false
    intc := { pulse := 0, edges := 0, taken := 0 }, tap := { ir := 2, core := 0, result := 0, status := 0 }, lsc := { testQ := [], takeover := false, release := none }
    hal := halReset, logQ := [], xla := xlaReset, pending := [] }

end Sys2Proof.Machine
end

