-- ==== Sys2Proof/Machine/Ops.lean ====
section
/-! DEFINITION. The named operations over registers, memory, interrupt sources, bunting and fault log that every meaning
is built from. -/

namespace Sys2Proof.Machine

/-! Registers and their fields -/

/-- The stored word of a register (R13 for one that nothing has written). -/
def State.reg (s : State) (a : Nat) : Word := Sparse.get regReset s.regs a

def State.setReg (s : State) (a : Nat) (v : Word) : State := { s with regs := Sparse.put regReset s.regs a v }

/-- A field's value. -/
def State.fld (s : State) (f : Fld) : Nat := getBits (s.reg f.addr) f.lo f.w

/-- Is a field non-zero? For one-bit fields, is it 1? -/
def State.fldB (s : State) (f : Fld) : Bool := decide (s.fld f ≠ 0)

def State.setFld (s : State) (f : Fld) (v : Nat) : State := s.setReg f.addr (putBits (s.reg f.addr) f.lo f.w v)

def State.setFldB (s : State) (f : Fld) (b : Bool) : State := s.setFld f (b2n b)

/-- A saturating counter field advanced by n. -/
def State.incFld (s : State) (f : Fld) (n : Nat := 1) : State := s.setFld f (satInc (s.fld f) n f.w)

/-- A field read as a signed number. -/
def State.fldI (s : State) (f : Fld) : Int := signedOf f.w (s.fld f)

/-! Memory words -/

/-- What an unlisted memory word reads as (R466, R506: cleared). -/
def memDefault (_ : Nat) : Word := 0

/-- The canonical form of a memory: addresses strictly rising, no word listed that reads as an unlisted one does. -/
def Memory.wf (m : Cells) : Bool := Sparse.wf memDefault m

def State.word (s : State) (a : Nat) : Word := Sparse.get memDefault s.mem a

/-- A memory word written; the write makes a whole new code word, so an upset of it is gone, and a write-back that is
pending for it is dropped (R459). -/
def State.setWord (s : State) (a : Nat) (v : Word) : State :=
  { s with
    mem := Sparse.put memDefault s.mem a v
    memc := { s.memc with
      upsets := s.memc.upsets.filter fun u => u.1 != a
      wb := s.memc.wb.filter fun w => w.1 != a } }

/-- Consecutive words from `a`. -/
def State.words (s : State) (a : Nat) : Nat → List Word
  | 0 => []
  | n + 1 => s.word a :: s.words (a + 1) n

/-- Consecutive words stored from `a`. -/
def State.setWords (s : State) (a : Nat) : List Word → State
  | [] => s
  | w :: r => (s.setWord a w).setWords (a + 1) r

/-- A word of SRAM stored by a unit of the lane: a write into the mirrored state region marks its block to be sent (R154). -/
def State.store (s : State) (a : Nat) (v : Word) : State :=
  let s := s.setWord a v
  let b := s.fld F.XLA_MBASE_MBASE
  if b ≤ a ∧ a < b + 32 * s.fld F.XLA_MCFG_MBLKS then
    { s with xla := { s.xla with toSend := s.xla.toSend ||| BitVec.twoPow 256 ((a - b) / 32) } }
  else s

/-! Interrupt sources (R82, R87) -/

/-- INT_CFGn.EDGE, with sources 0 to 7 always edge sources (R87). -/
def srcEdge (s : State) (n : Nat) : Bool := decide (n < 8) || s.fldB (F.INT_CFG_EDGE n)

/-- The stored pending bit of a source. -/
def pendBit (s : State) (n : Nat) : Bool := bit (s.reg (R.INT_PEND (n / 32))) (n % 32)

def setPendBit (n : Nat) (b : Bool) (s : State) : State :=
  let a := R.INT_PEND (n / 32)
  s.setReg a (putBits (s.reg a) (n % 32) 1 (b2n b))

/-- A source's signal rises (R82): an edge source latches its pending bit; with EDGE = 0 it is pending in this LCLK cycle
only. -/
def pendSrc (n : Nat) (s : State) : State :=
  let i := { s.intc with edges := s.intc.edges ||| BitVec.twoPow 256 n }
  if srcEdge s n then setPendBit n true { s with intc := i }
  else { s with intc := { i with pulse := s.intc.pulse ||| BitVec.twoPow 256 n } }

/-- A bunting flag's bit (R184). -/
def flagSet (s : State) (n : Nat) : Bool := bit (s.reg (R.FLT_BUNT (n / 36))) (n % 36)

/-- The signal of a source of kind level (R160, R218, R254, R429 and the SIO sources). -/
def levelSig (s : State) (n : Nat) : Bool :=
  match n with
  | 22 => flagSet s 1
  | 23 => s.fldB F.DBG_STAT_ATTACHED
  | 31 => flagSet s 13
  | 59 => s.fldB F.DLK_STAT_VERR
  | 60 => s.fldB F.DLK_CFGQ_CFGF
  | 177 => flagSet s 78
  | 199 => s.fldB F.NCE_STAT_GAPW
  | _ => false

/-- Is source n pending (R82)? DESIGN CHOICE: while EDGE is 0 the latched bit of an edge source is kept out of sight, where no dip
reaches it, and it shows again when EDGE is set; the spec does not say what becomes of it (R87). -/
def srcPending (s : State) (n : Nat) : Bool :=
  if srcEdge s n then pendBit s n else levelSig s n || s.intc.pulse.getLsbD n

/-! Lane standing (R33, R162, R166) -/

def lsOffline : Nat := 0
def lsSelftest : Nat := 1
def lsSyncing : Nat := 2
def lsVoting : Nat := 3
def lsWithdrawn : Nat := 4
def lsStruck : Nat := 5
def lsDebug : Nat := 6

def State.lstate (s : State) : Nat := s.fld F.HAL_RSTAT_LSTATE
def State.rstate (s : State) : Nat := s.fld F.HAL_RSTAT_RSTATE

def rsSafe : Nat := 0
def rsHalfMast : Nat := 1
def rsDuplex : Nat := 2
def rsTriplex : Nat := 3

/-- Bit of this lane in a membership mask (R120). -/
def State.laneBit (s : State) : Nat := 2 ^ s.lane.val

def maskHas (m x : Nat) : Bool := decide (m / 2 ^ x % 2 = 1)

/-- Is the lane a member of the current frame? -/
def State.isMember (s : State) : Bool := maskHas (s.fld F.XLA_MEMB_CUR) s.lane.val

/-- The safety pair (R205): 0 or 1. -/
def State.safetyPair (s : State) : Nat := s.fld F.LSC_STAT_SPAIR

/-- SEALED and the later states lock every RWL field (R10); the states are numbered in R520. -/
def lcTest : Nat := 0
def lcBlank : Nat := 1
def lcDevelop : Nat := 2
def lcSealed : Nat := 3
def lcReturned : Nat := 4
def lcScrapped : Nat := 5

def State.lcState (s : State) : Nat := s.fld F.LCY_STATE_LCS
def State.rwlLocked (s : State) : Bool := decide (lcSealed ≤ s.lcState)

/-! Fault log (R187, R188) -/

/-- Event codes of a log entry beside the flag numbers. -/
def evtLaneState : Nat := 0x90
def evtRedundancy : Nat := 0x91
def evtEnsignGained : Nat := 0x92
def evtEnsignLost : Nat := 0x93

/-- Queue a log entry for an event that has just been applied; with 16 entries waiting it is lost (R187). -/
def logEvent (evt : Nat) (s : State) : State :=
  if !s.fldB F.FLT_LOGCFG_EN then s
  else if s.logQ.length < 16 then
    let w3 := evt + s.lstate * 2 ^ 8 + s.rstate * 2 ^ 11
      + (if s.fldB F.XLA_STAT_FORMED then s.frame.toNat % 2 ^ 23 else 0) * 2 ^ 13
    let e : LogEntry := { w1 := s.reg R.RTC_TIMEL, w2 := s.reg R.RTC_TIMEH, w3 := BitVec.ofNat 36 w3 }
    { s with logQ := s.logQ ++ [e] }
  else pendSrc 38 (s.incFld F.FLT_LOGDROP_CNT)

/-! Bunting (R184 to R186) -/

/-- The class of flag n; none for a number that R184 does not list. -/
def flagClass (s : State) (n : Nat) : Option Nat :=
  if n ≤ 5 then some 0
  else if n ≤ 15 then some 1
  else if 17 ≤ n ∧ n ≤ 22 then some 2
  else if 36 ≤ n ∧ n ≤ 46 then some 3
  else if 47 ≤ n ∧ n ≤ 49 then some 4
  else if 72 ≤ n ∧ n ≤ 78 then some 5
  else if 79 ≤ n ∧ n ≤ 83 then some 6
  else if 108 ≤ n ∧ n ≤ 116 then some 7
  else if 136 ≤ n ∧ n ≤ 143 then some (getBits (s.reg R.FLT_SWCLS) (3 * (n - 136)) 3)
  else none

/-- Flags that ignore dips and are cleared by a lane reset only (R184, mark L). -/
def flagLatched (n : Nat) : Bool := [1, 3, 5, 13, 20, 21, 22, 78, 115].contains n

/-- The FLT_CNTk that select flag n count a hoist event (R186). -/
def countHoist (n : Nat) (s : State) : State :=
  (List.range 8).foldl (fun s k => if s.fld (F.FLT_CNTSEL_FLAG k) = n then s.incFld (F.FLT_CNT_CNT k) else s) s

/-- SAFE cause c falls due; the first cause is kept (R167). -/
def safeCause (c : Nat) (s : State) : State :=
  if s.isMember && !s.hal.safe && decide (s.hal.safeDue = 0) then
    { s with hal := { s.hal with safeDue := c } }
  else s

/-- A hoist event of flag n (R184, R186): counted; a 0-to-1 transition may pend source 37 and make a log entry; in
HALF-MAST, a class set in HAL_DIAGMASK is SAFE cause 3 (R167). -/
def hoistFlag (n : Nat) (s : State) : State :=
  match flagClass s n with
  | none => s
  | some c =>
    let a := R.FLT_BUNT (n / 36)
    let i := n % 36
    let s1 := countHoist n s
    let s2 :=
      if flagSet s n then s1
      else
        let s1 := s1.setReg a (putBits (s1.reg a) i 1 1)
        let s1 := if bit (s1.reg (R.FLT_IRQM (n / 36))) i then pendSrc 37 s1 else s1
        let s1 := if n = 1 then pendSrc 22 (s1.setFld F.LSC_STAT_CMPF 1)
          else if n = 13 then pendSrc 31 s1 else if n = 78 then pendSrc 177 s1 else s1
        if bit (s1.reg (R.FLT_LOGM (n / 36))) i then logEvent n s1 else s1
    if s2.hal.inHalfMast && decide (n ≠ 19) && bit (s2.reg R.HAL_DIAGMASK) c then safeCause 3 s2 else s2

/-- A dip of flag n: no effect on a flag marked L or not listed (R184). A hoist of the same LCLK cycle, which wins (R12), is a command
after the dip: the flag then reads 1, and the hoist is counted. -/
def dipFlag (n : Nat) (s : State) : State :=
  if (flagClass s n).isSome && !flagLatched n then
    let a := R.FLT_BUNT (n / 36)
    s.setReg a (putBits (s.reg a) (n % 36) 1 0)
  else s

/-- HOIST by software acts on SWF0 to SWF7 alone (R115, R184). -/
def softHoist (n : Nat) (s : State) : State := if 136 ≤ n ∧ n ≤ 143 then hoistFlag n s else s

/-- FLT_SUM: bit 16 + c is 1 when some flag of class c is hoisted and bit c of SUMMASK is 1 (R185). -/
def fltSum (s : State) : Nat :=
  let cls := (List.range 144).foldl (fun m n =>
    if flagSet s n then (match flagClass s n with | some c => m ||| 2 ^ c | none => m) else m) 0
  cls &&& s.fld F.FLT_SUMMASK_MASK

/-- The pennant of the present state with a given frame count (R33). -/
def pennantOf (fcount : Nat) (s : State) : Word :=
  BitVec.ofNat 36 (s.lstate * 2 ^ 33 + s.rstate * 2 ^ 31 + s.fld F.HAL_STAT_ENSIGN * 2 ^ 30
    + s.fld F.HAL_RSTAT_HALFMAST * 2 ^ 29 + b2n (flagSet s 3) * 2 ^ 28 + s.fld F.SYS_OVLSTAT_ACT * 2 ^ 24
    + fltSum s * 2 ^ 16 + fcount % 2 ^ 16)

/-- The pennant a message sent now carries: that of the latest completed frame, or the present state with FCOUNT 0 before
the frame numbering runs and during frame 0 (R33). -/
def State.sentPennant (s : State) : Word :=
  if s.fldB F.XLA_STAT_FORMED && decide (s.frame ≠ 0) then s.pennant else pennantOf 0 s

/-! The debug port -/

/-- Is the debug port open (R215)? DESIGN CHOICE: it is closed while the life-cycle state is not known, that is, from a lane reset
until the start-up has loaded the fuses, and in DEEP and OFF. -/
def portOpen (s : State) : Bool :=
  s.pwr.startDue.isNone && decide (s.pwr.pstate ≠ .deep) && decide (s.pwr.pstate ≠ .off) &&
  (decide (s.lcState = lcTest) || decide (s.lcState = lcBlank) || decide (s.lcState = lcDevelop) || decide (s.lcState = lcReturned))

/-- Test-Logic-Reset, in which IDCODE is selected; the core that the debugger has chosen stays (R559). -/
def testLogicReset (t : TapHidden) : TapHidden := { State.reset.tap with ir := 0b00010, core := t.core }

/-! Free values and captures -/

/-- The next free value: a value the spec leaves open. -/
def State.freeVal (s : State) : Word := Config.freeWord s.freeCtr
def State.useFree (s : State) : State := { s with freeCtr := s.freeCtr + 1 }

/-- Keep a register's value for later reads by one fabric source. -/
def State.capture (s : State) (src a : Nat) (v : Word) : State :=
  { s with caps := (src, a, v) :: s.caps.filter fun c => !(c.1 == src && c.2.1 == a) }

/-- The value captured by a source. -/
def State.captured (s : State) (src a : Nat) : Option Word :=
  (s.caps.find? fun c => c.1 == src && c.2.1 == a).map (·.2.2)

/-! Time -/

/-- Bits [35:0] of LTIME. -/
def State.lt36 (s : State) : Word := BitVec.ofNat 36 s.ltime.toNat

/-- LCLK reaches the blocks: in RUN and IDLE (R483), but not while the lane is held in its reset (R162, R506). -/
def clocked (s : State) : Bool :=
  s.pwr.startDue.isNone && (decide (s.pwr.pstate = .run) || decide (s.pwr.pstate = .idle))

/-- What a block does on an event while it has its clock; without it, nothing. -/
def whenClocked (f : State → State) (s : State) : State := if clocked s then f s else s

/-- A loop over 0 .. n - 1 that carries the state. -/
def forN (n : Nat) (f : Nat → State → State) (s : State) : State := (List.range n).foldl (fun s i => f i s) s

end Sys2Proof.Machine
end

