-- ==== Sys2Proof/Machine/Dlk.lean ====
section
/-! DEFINITION. The controller's end of the drive link: queues of packets and configuration writes, and the resolved
trip state of the banks (R235 to R244, R248). -/

namespace Sys2Proof.Machine

/-! Link states of DLK_STAT.LSTATE (R253) -/

def llDown : Nat := 0
def llTraining : Nat := 1
def llVersion : Nat := 2
def llHeld : Nat := 3
def llUp : Nat := 4

/-- Does the controller die send packets: enabled and trained (R250, R253)? -/
def linkUp (s : State) : Bool := s.fldB F.DLK_CTRL_EN && decide (llHeld ≤ s.fld F.DLK_STAT_LSTATE)

/-! Edge and trip packets -/

/-- Is a write a safety-output command (R375)? -/
def CfgWrite.safety (w : CfgWrite) : Bool := w.space == 1 && w.off == 0x20

/-- Pending commands with one more: a later command for an output takes the place of an earlier one (R375). -/
def putOutput (l : List (Nat × Bool)) (p : Nat × Bool) : List (Nat × Bool) := (l.filter fun x => x.1 != p.1) ++ [p]

/-- The controller die stops drive-link traffic (R35, R165, R250): what it queued for the link is gone; writes sent and not
acknowledged are sent again after the next training, a safety-output command unless a later one for its output waits. -/
def stopDlk (s : State) : State :=
  let d := s.dlk
  let again := d.cfgSent.filter fun w => !w.safety
  let so := (d.cfgSent.filter (·.safety)).map fun w => (getBits w.data 0 4, bit w.data 4)
  { s.setFld F.DLK_STAT_LSTATE 0 with dlk := { d with
      edgeQ := Vector.replicate 3 [], tripQ := [], tsync := none, stopAt := some d.dtime
      cfgQ := (again.map fun w => { w with tries := 0 }) ++ d.cfgQ, cfgSent := [], nextSeq := 0
      soPend := (so ++ d.soPend).foldl putOutput [] } }

def pushEdges (q : Fin 3) (es : List EdgePkt) (s : State) : State :=
  if linkUp s then { s with dlk := { s.dlk with edgeQ := s.dlk.edgeQ.set q.val (s.dlk.edgeQ[q] ++ es) } } else s

def trimOf (q : Fin 3) (s : State) : Nat :=
  if q = 0 then s.fld F.DLK_TRIM_TB0 else if q = 1 then s.fld F.DLK_TRIM_TB1 else s.fld F.DLK_TRIM_TCH

/-- ETIME of a command that the generator changes at DTIME t (R240). -/
def etimeOf (q : Fin 3) (t : Nat) (s : State) : Nat := (t + 160 + trimOf q s) % 2 ^ 20

/-- A trip packet with the present resolved actions of both banks, an override for one of them, and the chopper bit (R239). -/
def sendTrip (override : Option (Nat × Nat)) (s : State) : State :=
  let act := fun (n : Nat) => match override with
    | some (m, a) => if m = n then a else s.fld (F.PWM_STAT_TSTATE n)
    | none => s.fld (F.PWM_STAT_TSTATE n)
  let o1 := act 0 + 4 * act 1 + 16 * s.fld F.SYS_CHSTAT_FORCED
  if linkUp s then { s with dlk := { s.dlk with tripQ := s.dlk.tripQ ++ [o1] } } else s

/-- The resolved action of bank n (R235): 0 none, 1 short, 2 off. -/
def resolvedTrip (n : Nat) (s : State) : Nat :=
  let b := s.fldB
  if b (F.PWM_TRIP_EMOFF n) || b (F.PWM_TRIP_SWOFF n) || (b (F.PWM_TRIP_XLAT n) && !b (F.PWM_TRIP_XLASH n))
      || (b (F.PWM_TRIP_SAFET n) && !b (F.PWM_TRIP_SAFESH n)) then 2
  else if b (F.PWM_TRIP_EMSHORT n) || b (F.PWM_TRIP_SWSHORT n) || b (F.PWM_TRIP_XLAT n) || b (F.PWM_TRIP_SAFET n) then 1
  else 0

/-! Configuration writes (R244, R248) -/

/-- Writes that take a place in the queue of 16: queued ones and sent ones, safety-output commands apart (R375). -/
def cfgLevel (s : State) : Nat :=
  ((s.dlk.cfgQ ++ s.dlk.cfgSent).filter fun w => !w.safety).length

def updateLevel (s : State) : State := s.setFld F.DLK_CFGQ_LEVEL (Nat.min (cfgLevel s) 16)

/-- Is the configuration queue full? A write then stalls the fabric access (R248). -/
def cfgFull (s : State) : Bool := decide (16 ≤ cfgLevel s)

def enqueueCfg (space off : Nat) (data : Word) (s : State) : State :=
  updateLevel { s with dlk := { s.dlk with cfgQ := s.dlk.cfgQ ++ [⟨space, off, data, 0, 0, 0⟩] } }

/-- Offsets in the die's DLK register space (SPACE = 1), which the spec leaves open: DLK_LLPAT, the dead times of banks 0
and 1, the safety-output register, the halyard as the die observes it, the die's counts of errors (DESIGN CHOICE). -/
def dieLlpat : Nat := 2
def dieDt : Nat := 4
def dieSafetyOut : Nat := 0x20
def dieHalyard : Nat := 0x21
def dieErrors : Nat := 0x22

/-- A safety-output command: a later one for an output replaces one not yet sent (R375). -/
def commandOutput (o : Nat) (on : Bool) (s : State) : State :=
  { s with dlk := { s.dlk with soPend := putOutput s.dlk.soPend (o, on) } }

/-- Outputs whose shared-output gate is enabled at the die (R177), and those that are on: commanded, and enabled when
declared SHARED (R385). -/
def gateMask (s : State) : Nat :=
  (List.range 4).foldl (fun m o => if s.fldB (F.SIO_OCFG_SHARED o) && s.die.shen then m + 2 ^ o else m) 0

/-- Safety outputs whose switch is on. -/
def switchMask (s : State) : Nat :=
  (List.range 4).foldl (fun m o =>
    if maskHas s.die.soCmd o && (!s.fldB (F.SIO_OCFG_SHARED o) || s.die.shen) then m + 2 ^ o else m) 0

/-- The die's report of its safety outputs: commanded [3:0], pins [7:4], gates [11:8]. -/
def dieOutputs (s : State) : Word := BitVec.ofNat 36 (s.die.soCmd + 16 * s.die.pins + 256 * gateMask s)

/-- The die's report of the halyard: GOBS [2:0], SHEN [3]. -/
def dieHalyardWord (s : State) : Word := BitVec.ofNat 36 (s.die.gobs % 8 + 8 * b2n s.die.shen)

/-- The die's report of its error counts since the last one: late packets [11:0], code errors [23:12], CRC errors [35:24]. -/
def dieErrorsWord (s : State) : Word :=
  BitVec.ofNat 36 (Nat.min s.die.lateN 4095 + 2 ^ 12 * Nat.min s.die.codeN 4095 + 2 ^ 24 * Nat.min s.die.crcN 4095)

/-- A register of the die is due in a status packet (R248). -/
def markDie (r : Nat × Nat) (s : State) : State :=
  { s with die := { s.die with dirty := if s.die.dirty.contains r then s.die.dirty else s.die.dirty ++ [r] } }

/-- The report of the safety outputs is due. -/
def markOutputs (s : State) : State := markDie (1, dieSafetyOut) s

end Sys2Proof.Machine
end

