-- ==== Sys2Proof/Machine/Chop.lean ====
section
/-! DEFINITION. The event matrix and the chopper generator (R264 to R269). -/

namespace Sys2Proof.Machine

/-! The chopper generator (R267) -/

/-- CHON at the generator: report bit 17. -/
def chopDemand (s : State) : Bool := bit (s.reg R.GDC_RPT) 17

/-- Lane states in which the generator runs (R267): all but OFFLINE (0), SELFTEST (1) and STRUCK (5). -/
def chopRuns (s : State) : Bool :=
  s.fldB F.SYS_CHCFG_EN && decide (s.lstate ≠ lsOffline) && decide (s.lstate ≠ lsSelftest) && decide (s.lstate ≠ lsStruck)

/-- Have n ns of DTIME passed since t? -/
def passed (s : State) (t : DWord) (n : Nat) : Bool := decide (t.toNat + n ≤ s.dlk.dtime.toNat)

def chopPacket (on : Bool) (s : State) : State :=
  pushEdges 2 [⟨etimeOf 2 s.dlk.dtime.toNat s, if on then 32 else 0, false, false⟩] s

def chopOn (s : State) : State :=
  let s := chopPacket true (s.setFld F.SYS_CHSTAT_GATE 1)
  { pendSrc 89 (s.incFld F.SYS_CHCNT_CNT) with chop := { s.chop with
    minDone := decide (s.fld F.SYS_CHCFG_MINON = 0), onAt := s.dlk.dtime } }

def chopOff (s : State) : State := pendSrc 90 (chopPacket false (s.setFld F.SYS_CHSTAT_GATE 0))

/-- Bring the chopper gate in line with its conditions. -/
def chopEval (s : State) : State :=
  let s := s.setFldB F.SYS_CHSTAT_DEMAND (chopDemand s)
  let gate := s.fldB F.SYS_CHSTAT_GATE
  let forced := s.fldB F.SYS_CHSTAT_FORCED
  if gate then
    if !chopRuns s || forced || (!chopDemand s && s.chop.minDone) then chopOff s else s
  else if chopRuns s && chopDemand s && !forced && !s.fldB F.SYS_CHSTAT_RESTING then chopOn s
  else s

/-- CHOPPER_MINON: MINON µs have passed since the gate turned on. -/
def chopperMinon (s : State) : State :=
  if s.fldB F.SYS_CHSTAT_GATE && passed s s.chop.onAt (1000 * s.fld F.SYS_CHCFG_MINON) then
    chopEval { s with chop := { s.chop with minDone := true } }
  else s

def execChopperMinon (s : State) : Host.Outcome State Fault Refusal := .next (whenClocked chopperMinon s)

/-- CHOPPER_MAXON: the gate has been on for MAXON × 10 µs; it turns off and a rest interval begins. -/
def chopperMaxon (s : State) : State :=
  if s.fldB F.SYS_CHSTAT_GATE && decide (s.fld F.SYS_CHCFG_MAXON ≠ 0)
      && passed s s.chop.onAt (10000 * s.fld F.SYS_CHCFG_MAXON) then
    let rest := s.fld F.SYS_CHCFG_REST
    let s := { s with chop := { s.chop with restAt := s.dlk.dtime } }
    let s := chopOff (s.setFldB F.SYS_CHSTAT_RESTING (decide (rest ≠ 0)))
    if rest = 0 then chopEval s else s
  else s

def execChopperMaxon (s : State) : Host.Outcome State Fault Refusal := .next (whenClocked chopperMaxon s)

/-- CHOPPER_REST_END: REST µs have passed, and the gate turns on again when CHON is still 1. -/
def chopperRestEnd (s : State) : State :=
  if s.fldB F.SYS_CHSTAT_RESTING && passed s s.chop.restAt (1000 * s.fld F.SYS_CHCFG_REST) then chopEval (s.setFld F.SYS_CHSTAT_RESTING 0) else s

def execChopperRestEnd (s : State) : Host.Outcome State Fault Refusal := .next (whenClocked chopperRestEnd s)

/-! The event matrix (R264) -/

/-- Matrix input n: GDC_RPT, or forced by SYS_EMTEST. -/
def matrixIn (s : State) : Nat := s.fld F.GDC_RPT_RPT ||| s.fld F.SYS_EMTEST_FORCE

/-- The trips that an active input latches in a bank by its routing code. -/
def routeBank (b code : Nat) (s : State) : State :=
  if code = 1 then s.setFld (F.PWM_TRIP_EMSHORT b) 1 else if code = 2 then s.setFld (F.PWM_TRIP_EMOFF b) 1 else s

/-- The matrix outputs for the present inputs and routing: trips latched, the chopper forced, interrupt sources of bits
that went from 0 to 1 pended. -/
def matrixEval (s : State) : State :=
  let now := matrixIn s
  let was := s.fld F.SYS_EMSTAT_IN
  let s := s.setFld F.SYS_EMSTAT_IN now
  let s := forN 24 (fun n s =>
    if maskHas now n then
      let s := routeBank 1 (s.fld (F.SYS_EMRT_B1 n)) (routeBank 0 (s.fld (F.SYS_EMRT_B0 n)) s)
      if !maskHas was n && s.fldB (F.SYS_EMRT_IRQ n) then pendSrc (64 + n) s else s
    else s) s
  let forced := (List.range 24).any fun n => maskHas now n && s.fldB (F.SYS_EMRT_CHOFF n)
  let before := s.fldB F.SYS_CHSTAT_FORCED
  let s := chopEval (s.setFldB F.SYS_CHSTAT_FORCED forced)
  if forced && !before then sendTrip none s else s

/-- A write of SYS_EMTEST (R266): only in SELFTEST and WITHDRAWN. -/
def emtestWrite (v : Word) (s : State) : State :=
  if s.lstate = lsSelftest ∨ s.lstate = lsWithdrawn then
    let s := { s with chop := { s.chop with
      emAt := Vector.ofFn fun n : Fin 24 => if bit v n.val then s.dlk.dtime else s.chop.emAt[n] } }
    matrixEval (s.setFld F.SYS_EMTEST_FORCE (s.fld F.SYS_EMTEST_FORCE ||| getBits v 0 24))
  else s

/-- Inputs of a mask whose 1.0 µs is over. -/
def emtestOver (m : BitVec 24) (s : State) : Nat :=
  (List.range 24).foldl (fun a n =>
    if m.getLsbD n && passed s (s.chop.emAt.toList.getD n 0) 1000 then a + 2 ^ n else a) 0

/-- EMTEST_EXPIRY: the 1.0 µs of the forced inputs in a mask end. -/
def emtestExpiry (m : BitVec 24) (s : State) : State :=
  matrixEval (s.setFld F.SYS_EMTEST_FORCE (s.fld F.SYS_EMTEST_FORCE &&& (0xFFFFFF - emtestOver m s)))

def execEmtestExpiry (m : BitVec 24) (s : State) : Host.Outcome State Fault Refusal := .next (whenClocked (emtestExpiry m) s)

end Sys2Proof.Machine
end

