-- ==== Sys2Proof/Machine/FceTrig.lean ====
section
/-! DEFINITION. The triggers of a Field Control Engine (R299, R300, R324). -/

namespace Sys2Proof.Machine

def setFce (n : Fin 2) (f : FceHidden → FceHidden) (s : State) : State :=
  { s with fce := s.fce.set n.val (f s.fce[n]) }

/-- Event e of the engine (R324). -/
def fceSrc (n : Fin 2) (e : Nat) : Nat := 96 + 8 * n.val + e

/-- A trigger reaches the engine: a run is due; during a run, or with one due, it is latched; with the latch full it is lost. -/
def fceTrigger (n : Fin 2) (s : State) : State :=
  if !s.fldB (F.FCE_CTRL_EN n.val) then s
  else if s.fce[n].due || s.fce[n].run.isSome then
    if s.fce[n].latch then pendSrc (fceSrc n 2) (s.incFld (F.FCE_OVRCNT_CNT n.val))
    else setFce n (fun h => { h with latch := true }) s
  else setFce n (fun h => { h with due := true }) s

/-- A frame start of the lane triggers an engine with TRIG = 0. -/
def triggerAtFrame (n : Fin 2) (s : State) : State := if s.fldB (F.FCE_CTRL_TRIG n.val) then s else fceTrigger n s

/-- A period start of its bank triggers an engine with TRIG = 0 before the lane's first frame start. DESIGN CHOICE: that is, while
no frame numbering runs. -/
def triggerAtPeriod (n : Fin 2) (s : State) : State :=
  if s.fldB (F.FCE_CTRL_TRIG n.val) || s.fldB F.XLA_STAT_FORMED then s else fceTrigger n s

/-- A sample-ready event of its bank triggers an engine with TRIG = 1. -/
def triggerAtSample (n : Fin 2) (s : State) : State := if s.fldB (F.FCE_CTRL_TRIG n.val) then fceTrigger n s else s

end Sys2Proof.Machine
end

