-- ==== Sys2Proof/Machine/Aes.lean ====
section
/-! DEFINITION. AES-128 and AES-CMAC, which R125 names by NIST SP 800-38B, and AES key unwrap (R530). PRESUMED: the
algorithms are those of the outside standards. -/

namespace Sys2Proof.Machine

/-- Multiplication by x in GF(2^8) with the AES polynomial. -/
def xtime (b : Nat) : Nat := 2 * b % 256 ^^^ b / 128 * 0x1B

/-- Product with a coefficient m below 16. -/
def gmul (m b : Nat) : Nat :=
  m % 2 * b ^^^ m / 2 % 2 * xtime b ^^^ m / 4 % 2 * xtime (xtime b) ^^^ m / 8 * xtime (xtime (xtime b))

/-- The substitution table, sixteen entries in each number, the first in its most significant octet. -/
def sboxRows : List Nat :=
  [0x637c777bf26b6fc53001672bfed7ab76, 0xca82c97dfa5947f0add4a2af9ca472c0, 0xb7fd9326363ff7cc34a5e5f171d83115,
   0x04c723c31896059a071280e2eb27b275, 0x09832c1a1b6e5aa0523bd6b329e32f84, 0x53d100ed20fcb15b6acbbe394a4c58cf,
   0xd0efaafb434d338545f9027f503c9fa8, 0x51a3408f929d38f5bcb6da2110fff3d2, 0xcd0c13ec5f974417c4a77e3d645d1973,
   0x60814fdc222a908846eeb814de5e0bdb, 0xe0323a0a4906245cc2d3ac629195e479, 0xe7c8376d8dd54ea96c56f4ea657aae08,
   0xba78252e1ca6b4c6e8dd741f4bbd8b8a, 0x703eb5664803f60e613557b986c11d9e, 0xe1f8981169d98e949b1e87e9ce5528df,
   0x8ca1890dbfe6426841992d0fb054bb16]

/-- Its inverse. -/
def invSboxRows : List Nat :=
  [0x52096ad53036a538bf40a39e81f3d7fb, 0x7ce339829b2fff87348e4344c4dee9cb, 0x547b9432a6c2233dee4c950b42fac34e,
   0x082ea16628d924b2765ba2496d8bd125, 0x72f8f66486689816d4a45ccc5d65b692, 0x6c704850fdedb9da5e154657a78d9d84,
   0x90d8ab008cbcd30af7e45805b8b34506, 0xd02c1e8fca3f0f02c1afbd0301138a6b, 0x3a9111414f67dcea97f2cfcef0b4e673,
   0x96ac7422e7ad3585e2f937e81c75df6e, 0x47f11a711d29c5896fb7620eaa18be1b, 0xfc563e4bc6d279209adbc0fe78cd5af4,
   0x1fdda8338807c731b11210592780ec5f, 0x60517fa919b54a0d2de57a9f93c99cef, 0xa0e03b4dae2af5b0c8ebbb3c83539961,
   0x172b047eba77d626e169146355210c7d]

/-- Entry b of such a table. -/
def tableOctet (rows : List Nat) (b : Nat) : Nat := rows.getD (b / 16) 0 / 256 ^ (15 - b % 16) % 256

def sbox (b : Nat) : Nat := tableOctet sboxRows b

def invSbox (b : Nat) : Nat := tableOctet invSboxRows b

/-- Octets of a number, most significant first. -/
def octetsBE : Nat → Nat → List Nat
  | 0, _ => []
  | n + 1, x => (x / 256 ^ n) % 256 :: octetsBE n x

def natBE (l : List Nat) : Nat := l.foldl (fun a b => a * 256 + b) 0

def xorList (a b : List Nat) : List Nat := List.zipWith (· ^^^ ·) a b

/-- The next round key from a round key and its round constant. -/
def nextKey (k : List Nat) (rcon : Nat) : List Nat :=
  let w := fun (i : Nat) => (k.drop (4 * i)).take 4
  let t := match w 3 with
    | [a, b, c, d] => [sbox b ^^^ rcon, sbox c, sbox d, sbox a]
    | l => l
  let w0 := xorList (w 0) t
  let w1 := xorList (w 1) w0
  let w2 := xorList (w 2) w1
  let w3 := xorList (w 3) w2
  w0 ++ w1 ++ w2 ++ w3

/-- Round keys 0 to n. -/
def roundKeys : Nat → List Nat → Nat → List (List Nat)
  | 0, k, _ => [k]
  | n + 1, k, rc => k :: roundKeys n (nextKey k rc) (xtime rc)

def shiftRows (s : List Nat) : List Nat :=
  [0, 5, 10, 15, 4, 9, 14, 3, 8, 13, 2, 7, 12, 1, 6, 11].map fun i => s.getD i 0

def invShiftRows (s : List Nat) : List Nat :=
  [0, 13, 10, 7, 4, 1, 14, 11, 8, 5, 2, 15, 12, 9, 6, 3].map fun i => s.getD i 0

/-- One column through a circulant matrix with first row (m0, m1, m2, m3). -/
def mixCol (m0 m1 m2 m3 : Nat) (c : List Nat) : List Nat :=
  let a := c.getD 0 0
  let b := c.getD 1 0
  let d := c.getD 2 0
  let e := c.getD 3 0
  [gmul m0 a ^^^ gmul m1 b ^^^ gmul m2 d ^^^ gmul m3 e,
   gmul m3 a ^^^ gmul m0 b ^^^ gmul m1 d ^^^ gmul m2 e,
   gmul m2 a ^^^ gmul m3 b ^^^ gmul m0 d ^^^ gmul m1 e,
   gmul m1 a ^^^ gmul m2 b ^^^ gmul m3 d ^^^ gmul m0 e]

def mixCols (m0 m1 m2 m3 : Nat) (s : List Nat) : List Nat :=
  ((List.range 4).map fun i => mixCol m0 m1 m2 m3 ((s.drop (4 * i)).take 4)).flatten

/-- AES-128 encryption of one block of 16 octets. -/
def aesEnc (key blk : List Nat) : List Nat :=
  let ks := roundKeys 10 key 1
  let s0 := xorList blk (ks.getD 0 [])
  let s9 := (List.range 9).foldl (fun s i =>
    xorList (mixCols 2 3 1 1 (shiftRows (s.map sbox))) (ks.getD (i + 1) [])) s0
  xorList (shiftRows (s9.map sbox)) (ks.getD 10 [])

/-- AES-128 decryption of one block. -/
def aesDec (key blk : List Nat) : List Nat :=
  let ks := roundKeys 10 key 1
  let s0 := (invShiftRows (xorList blk (ks.getD 10 []))).map invSbox
  let s9 := (List.range 9).foldl (fun s i =>
    (invShiftRows (mixCols 14 11 13 9 (xorList s (ks.getD (9 - i) [])))).map invSbox) s0
  xorList s9 (ks.getD 0 [])

/-- Doubling of a CMAC subkey. -/
def cmacDouble (x : Nat) : Nat :=
  if x < 2 ^ 127 then 2 * x else (2 * x) % 2 ^ 128 ^^^ 0x87

/-- Chain of CBC-MAC over blocks of 16 octets; the fuel bounds the number of blocks. -/
def cbcMac (key : List Nat) : Nat → List Nat → List Nat → List Nat
  | 0, x, _ => x
  | n + 1, x, m => if m.isEmpty then x else cbcMac key n (aesEnc key (xorList x (m.take 16))) (m.drop 16)

/-- AES-CMAC of an octet string, as 16 octets. -/
def aesCmac (key m : List Nat) : List Nat :=
  let l := natBE (aesEnc key (List.replicate 16 0))
  let k1 := cmacDouble l
  let k2 := cmacDouble k1
  let n := if m.isEmpty then 1 else (m.length + 15) / 16
  let head := m.take (16 * (n - 1))
  let last := m.drop (16 * (n - 1))
  let lastX :=
    if last.length = 16 then xorList last (octetsBE 16 k1)
    else xorList (last ++ [0x80] ++ List.replicate (15 - last.length) 0) (octetsBE 16 k2)
  let x := cbcMac key n (List.replicate 16 0) head
  aesEnc key (xorList x lastX)

/-- Octets of words packed under R48: 9 octets per 2 words, 4 zero bits appended when the number of words is odd. -/
def packWords : List Word → List Nat
  | [] => []
  | [a] => octetsBE 5 (a.toNat * 16)
  | a :: b :: r => octetsBE 9 (pairNat a b) ++ packWords r

/-- CRC-32C, reflected, over octets: polynomial 1EDC_6F41h, initial value and final XOR FFFF_FFFFh (R403, R568). -/
def crc32cBits : Nat → Nat → Nat
  | 0, c => c
  | n + 1, c => crc32cBits n (if c % 2 = 1 then (c / 2) ^^^ 0x82F63B78 else c / 2)

def crc32c (l : List Nat) : Nat :=
  (l.foldl (fun c b => crc32cBits 8 (c ^^^ b)) 0xFFFFFFFF) ^^^ 0xFFFFFFFF

/-- CRC-32C over words packed under R48, as the word that holds it (R568). -/
def crcWords (l : List Word) : Word := BitVec.ofNat 36 (crc32c (packWords l))

/-- AES key unwrap (six rounds from the last) of n 64-bit blocks; the integrity value and the blocks. -/
def unwrapStep (kek : List Nat) (n : Nat) (st : Nat × List Nat) (t : Nat) : Nat × List Nat :=
  let i := (t - 1) % n
  let a := st.1 ^^^ t
  let b := natBE (aesDec kek (octetsBE 8 a ++ octetsBE 8 (st.2.getD i 0)))
  (b / 2 ^ 64, st.2.set i (b % 2 ^ 64))

def aesUnwrap (kek : List Nat) (c : List Nat) : Nat × List Nat :=
  let n := c.length - 1
  ((List.range (6 * n)).map fun j => 6 * n - j).foldl (unwrapStep kek n) (c.headD 0, c.tail)

def wrapStep (kek : List Nat) (n : Nat) (st : Nat × List Nat) (t : Nat) : Nat × List Nat :=
  let i := (t - 1) % n
  let b := natBE (aesEnc kek (octetsBE 8 st.1 ++ octetsBE 8 (st.2.getD i 0)))
  ((b / 2 ^ 64) ^^^ t, st.2.set i (b % 2 ^ 64))

/-- AES key wrap of 64-bit blocks under a key-encryption key. -/
def aesWrap (kek : List Nat) (p : List Nat) : List Nat :=
  let n := p.length
  let r := ((List.range (6 * n)).map (· + 1)).foldl (wrapStep kek n) (0xA6A6A6A6A6A6A6A6, p)
  r.1 :: r.2

end Sys2Proof.Machine
end

