-- ==== Sys2Proof/Machine/SioOut.lean ====
section
/-! DEFINITION. Evaluation and command of the safety outputs (R375, R385 to R388). -/

namespace Sys2Proof.Machine

/-- Mask with bit k at a value. -/
def maskPut (m k : Nat) (b : Bool) : Nat := if maskHas m k then (if b then m else m - 2 ^ k) else if b then m + 2 ^ k else m

/-- The SRC 1 value of output n in the active committed buffer (R385). -/
def committedBit (n : Nat) (s : State) : Bool :=
  let a := s.fld F.XLA_OSBASE_OSBASE + 16 + 16 * s.fld F.XLA_COMMIT_BUF + s.fld (F.SIO_OCFG_OIDX n)
  bit (s.word a) (s.fld (F.SIO_OCFG_OBIT n))

/-- The source value of output n. -/
def outputSource (n : Nat) (s : State) : Bool :=
  match s.fld (F.SIO_OCFG_SRC n) with
  | 0 => maskHas (s.fld F.SIO_OUTSW_SW) n
  | 1 => maskHas s.sio.src1 n
  | 2 =>
    let l := s.fld (F.SIO_OCFG_LMASK n)
    maskHas s.sio.src1 n && decide (s.fld F.SIO_IRES_RES &&& l = l)
  | _ => false

/-- The commanded value of output n. -/
def outputValue (n : Nat) (s : State) : Bool :=
  if s.lstate ≠ lsVoting then false
  else if !s.fldB F.SIO_CTRL_OEN || maskHas s.sio.stuck n || maskHas s.sio.ovl n then false
  else if s.hal.safe then s.fldB (F.SIO_OCFG_SAFEV n)
  else outputSource n s

/-- Evaluate output n: a change is commanded, but turning on waits for the end of a test pulse (R388). -/
def evalOutput (n : Nat) (s : State) : State :=
  let v := outputValue n s
  let cmd := s.fld F.SIO_OSTAT_CMD
  if maskHas cmd n = v then s
  else
    let s := pendSrc 176 (s.setFld F.SIO_OSTAT_CMD (maskPut cmd n v))
    if maskHas (s.fld F.SIO_OSTAT_INTEST) n then
      let s := { s with sio := { s.sio with discard := maskPut s.sio.discard n true } }
      if v then s else commandOutput n false s
    else commandOutput n v s

/-- Evaluate the safety outputs for the present lane and redundancy state (R385). -/
def sioEval (s : State) : State := forN 4 evalOutput s

/-- The die's report of its safety outputs reaches the controller die (R375). -/
def sioTakeStatus (v : Word) (s : State) : State :=
  let gate := getBits v 8 4
  let changed := decide (gate ≠ s.fld F.SIO_OSTAT_GATE)
  let s := (s.setFld F.SIO_OSTAT_PIN (getBits v 4 4)).setFld F.SIO_OSTAT_GATE gate
  if changed then pendSrc 178 s else s

end Sys2Proof.Machine
end

