-- ==== Sys2Proof/Machine/Lane.lean ====
section
/-! DEFINITION. The lane state and its outputs, the halyard claim and the ensign (R162 to R182). -/

namespace Sys2Proof.Machine

/-! Halyard masks -/

def State.obs (s : State) : Nat := s.fld F.HAL_STAT_OBS

/-- Does the lane hold the ensign by its own observations (R182)? -/
def ensignHeld (s : State) : Bool := s.fldB F.HAL_STAT_CLAIM && decide (s.obs = s.laneBit)

/-- Bring HAL_STAT.ENSIGN in line with R182: a gain is counted with source 33, a loss pends source 34; both are logged. -/
def updateEnsign (s : State) : State :=
  match s.fldB F.HAL_STAT_ENSIGN, ensignHeld s with
  | false, true => logEvent evtEnsignGained (pendSrc 33 ((s.setFld F.HAL_STAT_ENSIGN 1).incFld F.HAL_HOCNT_CNT))
  | true, false => logEvent evtEnsignLost (pendSrc 34 (s.setFld F.HAL_STAT_ENSIGN 0))
  | _, _ => s

/-- Is contention present: own claim asserted and another line observed asserted (R179)? -/
def contentionNow (s : State) : Bool :=
  s.fldB F.HAL_STAT_CLAIM && decide (s.obs % 8 ≠ 0) && decide (s.obs ≠ s.laneBit)

def updateCont (s : State) : State := s.setFldB F.HAL_STAT_CONT (contentionNow s)

/-- The time since which the own line, as observed, differs from the level the lane drives (R181). -/
def noteOwnLine (s : State) : State :=
  let d :=
    if maskHas s.obs s.lane.val = s.fldB F.HAL_STAT_CLAIM then none
    else match s.hal.diffAt with
      | some t => some t
      | none => some s.dlk.dtime
  { s with hal := { s.hal with diffAt := d } }

/-- Release the claim driver (R178). -/
def releaseClaim (s : State) : State := noteOwnLine (updateCont (updateEnsign (s.setFld F.HAL_STAT_CLAIM 0)))

/-- Assert the claim when it is requested, the lane is VOTING and the quiet time has elapsed (R178). -/
def tryClaim (s : State) : State :=
  if s.fldB F.HAL_STAT_REQ && !s.pwr.noClaim && decide (s.lstate = lsVoting) && s.fldB F.HAL_STAT_QUIET && !s.fldB F.HAL_STAT_CLAIM then
    noteOwnLine (updateCont (updateEnsign (s.setFld F.HAL_STAT_CLAIM 1)))
  else s

/-- Entitled lanes: members of CUR less those marked as fallen (R178). -/
def entitled (s : State) : Nat := s.fld F.XLA_MEMB_CUR &&& (7 ^^^ s.fld F.HAL_STAT_FALLEN)

/-- Is this lane the highest-ranked entitled lane (rank A > B > C)? -/
def highestEntitled (s : State) : Bool := maskHas (entitled s) s.lane.val && decide (entitled s % s.laneBit = 0)

/-- May the lane request a claim again after a contention it released in (R179)? -/
def contentionOver (s : State) : Bool :=
  match s.hal.contCur with
  | none => true
  | some c => decide (c ≠ s.fld F.XLA_MEMB_CUR)

/-- Withdraw the request and with it the claim (R178). -/
def dropRequest (s : State) : State := releaseClaim (s.setFld F.HAL_STAT_REQ 0)

/-- The claim rule at a frame start with AUTO = 1: marks of non-members are cleared, and the request follows the
entitlement (R178, R179). -/
def claimAtFrame (s : State) : State :=
  let s := s.setFld F.HAL_STAT_FALLEN (s.fld F.HAL_STAT_FALLEN &&& s.fld F.XLA_MEMB_CUR)
  if !s.fldB F.HAL_CTRL_AUTO then s
  else if s.lstate ≠ lsVoting then s
  else
    let s := if contentionOver s then { s with hal := { s.hal with contCur := none, contOther := none } } else s
    if highestEntitled s then (if s.hal.contCur.isNone then tryClaim (s.setFld F.HAL_STAT_REQ 1) else s)
    else dropRequest s

/-- Is the enabling condition of the shared-output gates present at the gate-drive die (R177)? -/
def sharedCondition (s : State) : Bool := decide (s.die.gobs = s.laneBit)

/-! Outputs of the lane state (R165) -/

/-- The XLA trip source of a bank: XLA_WCFG code 00b off, 01b short (R235). -/
def setXlaTrip (s : State) : State :=
  forN 2 (fun n s =>
    let code := if n = 0 then s.fld F.XLA_WCFG_WB0 else s.fld F.XLA_WCFG_WB1
    (s.setFld (F.PWM_TRIP_XLAT n) 1).setFldB (F.PWM_TRIP_XLASH n) (decide (code = 1))) s

def clearXlaTrip (s : State) : State :=
  forN 2 (fun n s => (s.setFld (F.PWM_TRIP_XLAT n) 0).setFld (F.PWM_TRIP_XLASH n) 0) s

/-- The SAFE trip source of a bank: HAL_SAFECFG code 00b off, 01b short; 10b does not trip, and 11b does not before its
release time is over, which turns all gates off (R168, R235). -/
def setSafeTrip (s : State) : State :=
  forN 2 (fun n s =>
    let code := if n = 0 then s.fld F.HAL_SAFECFG_SB0 else s.fld F.HAL_SAFECFG_SB1
    if code ≤ 1 ∨ (code = 3 ∧ s.hal.relt.toList.getD n false = false) then
      (s.setFld (F.PWM_TRIP_SAFET n) 1).setFldB (F.PWM_TRIP_SAFESH n) (decide (code = 1)) else s) s

/-- The trip sources that the lane state and SAFE hold active (R165, R168, R235). -/
def laneTrips (s : State) : State :=
  let s :=
    if s.lstate = lsSyncing ∨ s.lstate = lsWithdrawn ∨ s.lstate = lsDebug then setXlaTrip s
    else if s.lstate = lsVoting then clearXlaTrip s
    else s
  if s.hal.safe then setSafeTrip s else s

/-- Apply the outputs of a lane state (R165): the withdrawn state on entering SYNCING, WITHDRAWN or DEBUG, the commanded
pattern on entering VOTING, the end of drive-link traffic on OFFLINE and STRUCK; the claim is released and requests and
marks are cleared outside VOTING (R178). -/
def laneOutputs (t : Nat) (s : State) : State :=
  let s := laneTrips s
  let s := if t = lsOffline ∨ t = lsStruck then stopDlk s else s
  let s :=
    if t = lsVoting then s
    else
      let s := dropRequest (s.setFld F.HAL_STAT_FALLEN 0)
      { s with hal := { s.hal with inHalfMast := false, contCur := none, contOther := none } }.setFld F.HAL_RSTAT_HALFMAST 0
  sioEval (chopEval s)

/-- The lane becomes READY when it enters SYNCING (R150, R162). -/
def noteReady (t : Nat) (s : State) : State :=
  if t = lsSyncing then { s with xla := { s.xla with readyAt := some s.dlk.dtime } } else s

/-- Change the lane state (R162): source 36 and a log entry. -/
def setLaneState (t : Nat) (s : State) : State :=
  if s.lstate = t then s
  else noteReady t <| logEvent evtLaneState (pendSrc 36 (laneOutputs t (s.setFld F.HAL_RSTAT_LSTATE t)))

/-- Set the redundancy state (R166): source 35 and a log entry on a change. -/
def setRedundancy (r : Nat) (s : State) : State :=
  if s.rstate = r then s
  else logEvent evtRedundancy (pendSrc 35 (s.setFld F.HAL_RSTAT_RSTATE r))

/-- The redundancy state that a membership gives (R166). -/
def redundancyOf (memb : Nat) : Nat := popNat 3 memb

/-- The STRUCK record in the AOM (R164, R492): bit 0 STRUCK, bits [3:1] STRKCAUSE. -/
def struckRecord : Nat := 0x400FC0

/-- Strike the lane with a cause (R162, R164, R189): the record goes to the always-on domain. -/
def strike (cause : Nat) (s : State) : State :=
  if s.lstate = lsStruck then s
  else
    let s := s.setFld F.HAL_RSTAT_STRKCAUSE cause
    let s := hoistFlag 22 (s.setWord struckRecord (BitVec.ofNat 36 (1 + 2 * cause)))
    setLaneState lsStruck s

/-- May the lane state change to STRUCK from here by a fault (R162)? -/
def strikable (s : State) : Bool := decide (s.lstate = lsSyncing ∨ s.lstate = lsVoting ∨ s.lstate = lsWithdrawn)

/-- Record a resynchronisation event (R157): three within 10 s of LTIME strike the lane. -/
def resyncEvent (s : State) : State :=
  let recent := s.xla.events.filter fun t => decide (s.ltime.toNat < t.toNat + 10000000000)
  let ev := s.ltime :: recent
  let s := { s with xla := { s.xla with events := ev } }
  let s := (s.incFld F.XLA_RSCNT_TOTAL).setFld F.XLA_RSCNT_EVENTS (Nat.min ev.length 3)
  if 3 ≤ ev.length ∧ strikable s then strike 1 s else s

def setRphase (p : Nat) (s : State) : State :=
  if s.fld F.XLA_RSTAT_RPHASE = p then s else pendSrc 30 (s.setFld F.XLA_RSTAT_RPHASE p)

/-- The ATTEMPT whose later messages the lane leaves aside once it has failed: one whose JFIN has not come (R156). -/
def attemptLeft (s : State) : Option Nat :=
  if s.xla.attempt ∧ s.xla.finalFrame = none then some (s.fld F.XLA_RSTAT_ATTEMPT) else s.xla.failedAtt

/-- The resynchronisation attempt in progress fails (R156): XRSF, RPHASE 6, an event of R157; the lane joins by it no more. -/
def failAttempt (s : State) : State :=
  let s := { s with xla := { s.xla with
    failedAtt := attemptLeft s, attempt := false, copies := [], finalFrame := none, since := none, relWait := none
    voteNext := false } }
  resyncEvent (setRphase 6 (hoistFlag 12 s))

/-- Leave voting (R144, R162): VOTING becomes WITHDRAWN; a second cause in WITHDRAWN fails an attempt in progress (R163). -/
def withdraw (s : State) : State :=
  if s.lstate = lsVoting then setLaneState lsWithdrawn { s with xla := { s.xla with since := none } }
  else if s.lstate = lsWithdrawn ∧ s.xla.attempt then failAttempt s
  else s

/-- Withdrawal as odd (R144, R146): XODD and source 27; within the first 16 member frames after a join the attempt has
failed as well (R156). In WITHDRAWN it is a second cause, and XODD logs it (R163). -/
def withdrawOdd (s : State) : State :=
  if s.lstate = lsVoting then
    let fresh := s.xla.since.isSome
    let s := pendSrc 27 (withdraw (hoistFlag 9 s))
    if fresh then failAttempt s else s
  else if s.lstate = lsWithdrawn then withdraw (hoistFlag 9 s)
  else s

end Sys2Proof.Machine
end

