-- ==== Sys2Proof/Machine/XlaMsg.lean ====
section
/-! DEFINITION. Messages on the XL links: layout, signature, the checks of a received message, and the frame timeline
(R123 to R132). -/

namespace Sys2Proof.Machine

/-! Fields of a message (R124) -/

def XMsg.w (m : XMsg) (i : Nat) : Word := List.getD m i 0
def xmFrame (m : XMsg) : Word := XMsg.w m 0
def xmType (m : XMsg) : Nat := getBits (XMsg.w m 1) 32 4
def xmLane (m : XMsg) : Nat := getBits (XMsg.w m 1) 30 2
def xmSetver (m : XMsg) : Nat := getBits (XMsg.w m 1) 22 8
def xmLen (m : XMsg) : Nat := getBits (XMsg.w m 1) 16 6
def xmVmaj (m : XMsg) : Nat := getBits (XMsg.w m 1) 12 4
def xmMemb (m : XMsg) : Nat := getBits (XMsg.w m 1) 5 3
def xmJreq (m : XMsg) : Bool := bit (XMsg.w m 1) 4
def xmJfin (m : XMsg) : Bool := bit (XMsg.w m 1) 3
def xmMabort (m : XMsg) : Bool := bit (XMsg.w m 1) 2
def xmJlane (m : XMsg) : Nat := getBits (XMsg.w m 1) 0 2
def xmTx (m : XMsg) : Word := XMsg.w m 2
def xmPennant (m : XMsg) : Word := XMsg.w m 3
def xmPayload (m : XMsg) : List Word := (List.drop 4 m).take (xmLen m)
/-- LSTATE and RSTATE of a pennant (R33). -/
def penLstate (p : Word) : Nat := getBits p 33 3
def penRstate (p : Word) : Nat := getBits p 31 2

def mtInput : Nat := 1
def mtOutput : Nat := 2
def mtState : Nat := 3
def mtMirror : Nat := 4
def mtJoin : Nat := 5

/-! Signature (R125) -/

/-- The tag words M0, M1 over the words H0 to P(N-1). -/
def tagWords (key : BitVec 128) (ws : List Word) : List Word :=
  let t := aesCmac (octetsBE 16 key.toNat) (packWords ws)
  [BitVec.ofNat 36 (natBE (t.take 4)), BitVec.ofNat 36 (natBE ((t.drop 4).take 4))]

/-- Flags of H1 [4:0] of an own message: JREQ, JFIN, MABORT, JLANE. -/
structure MsgFlags where
  jreq : Bool := false
  jfin : Bool := false
  mabort : Bool := false
  jlane : Nat := 3
deriving DecidableEq, Repr

/-- The lane being resynchronised: the one this lane serves, or this lane itself in an attempt; 3 for none (R124 JLANE). -/
def resyncLane (s : State) : Nat :=
  match s.xla.served with
  | some x => x.val
  | none => if s.xla.attempt then s.lane.val else 3

/-- An own message whose start symbol goes out at LTIME `tx`, signed under the lane's own key (R121, R124). -/
def ownMsg (s : State) (tx : Word) (mtype : Nat) (frame : Word) (memb : Nat) (fl : MsgFlags) (payload : List Word) : XMsg :=
  let h1 := mtype * 2 ^ 32 + s.lane.val * 2 ^ 30 + s.fld F.XLA_SET_SETVER * 2 ^ 22 + payload.length * 2 ^ 16
    + 1 * 2 ^ 12 + 0 * 2 ^ 8 + memb * 2 ^ 5 + b2n fl.jreq * 2 ^ 4 + b2n fl.jfin * 2 ^ 3 + b2n fl.mabort * 2 ^ 2
    + fl.jlane
  let ws := [frame, BitVec.ofNat 36 h1, tx, s.sentPennant] ++ payload
  ws ++ tagWords s.xla.keys[s.lane] ws

/-! Timeline (R123, R129, R132), in ns from the frame start -/

/-- T(N): the time a message with N payload words lasts. -/
def msgTime (n : Nat) : Nat := ((9 * (n + 6) + 1) / 2 + 2) * 25

def xT (s : State) : Nat := s.fld F.XLA_TFRAME_TFRAME
def xWin (s : State) : Nat := s.fld F.XLA_WIN_WIN
def xNin (s : State) : Nat := s.fld F.XLA_SET_NIN
def xNout (s : State) : Nat := s.fld F.XLA_SET_NOUT
def tI1 : Nat := 500
def tI2 (s : State) : Nat := tI1 + xWin s + msgTime (xNin s) + 100
def cI (s : State) : Nat := tI2 s + xWin s + msgTime (xNin s) + 100
def tV1 (s : State) : Nat := s.fld F.XLA_ODL_ODL
def tV2 (s : State) : Nat := tV1 s + xWin s + msgTime (xNout s) + 100
def cV (s : State) : Nat := tV2 s + xWin s + msgTime (xNout s) + 100

/-- MIRROR messages that end within a window of a given length, spaced by 0.10 µs (R132). -/
def mirrorFit (len : Int) : Nat := ((len + 100) / 4550).toNat

def midFit (s : State) : Nat := mirrorFit ((tV1 s : Int) - 100 - (cI s + 50))
def tailFit (s : State) : Nat := mirrorFit ((xT s + tI1 : Nat) - 100 - (cV s + 50 : Nat) : Int)
/-- KCAP (R153). -/
def kcap (s : State) : Nat := tailFit s + midFit s

/-! Lanes and links -/

/-- The two far lanes, in rank order. -/
def farLanes (s : State) : List (Fin 3) := [(0 : Fin 3), 1, 2].filter (· ≠ s.lane)

/-- The lane that is neither this one nor x. -/
def thirdLane (s : State) (x : Fin 3) : Fin 3 :=
  (([(0 : Fin 3), 1, 2].find? fun y => decide (y ≠ s.lane) && decide (y ≠ x)).getD 0)

def memberB (s : State) (x : Fin 3) : Bool := maskHas (s.fld F.XLA_MEMB_CUR) x.val

def State.setPeer (s : State) (x : Fin 3) (f : XlaPeer → XlaPeer) : State :=
  { s with xla := { s.xla with peer := s.xla.peer.set x.val (f s.xla.peer[x]) } }

def setPhase (p : Nat) (s : State) : State := s.setFld F.XLA_STAT_PHASE p
def State.phase (s : State) : Nat := s.fld F.XLA_STAT_PHASE

/-- Does the lane take part in the exchanges: EN, numbering runs, and SYNCING, VOTING or WITHDRAWN (R126)? -/
def xlaRuns (s : State) : Bool :=
  s.fldB F.XLA_CTRL_EN && s.fldB F.XLA_STAT_FORMED
    && decide (s.lstate = lsSyncing ∨ s.lstate = lsVoting ∨ s.lstate = lsWithdrawn)

/-- Has LTIME come to t ns after the start of the running frame? -/
def frameReached (s : State) (t : Nat) : Bool := decide (s.frameStart.toNat + t ≤ s.ltime.toNat)

/-- Is event k of the timeline due, at t ns of the frame (R129, R132)? -/
def stepDue (k t : Nat) (s : State) : Bool := xlaRuns s && decide (s.xla.xstep < k) && frameReached s t

def takeStep (k : Nat) (s : State) : State := { s with xla := { s.xla with xstep := k } }

/-- The link delay measured to lane x (R149). -/
def ldly (s : State) (x : Fin 3) : Nat := s.fld ⟨R.XLA_LDLY, 12 * x.val, 12⟩

/-! Counters (R127): every increment pends source 28 -/

inductive XErr
  | miss | corr | outw | stale | setv | eqv
deriving DecidableEq, Repr

def xErrFld (e : XErr) (x : Fin 3) : Fld :=
  match e with
  | .miss => F.XLA_ERR1_MISS x.val
  | .corr => F.XLA_ERR1_CORR x.val
  | .outw => F.XLA_ERR1_OUTW x.val
  | .stale => F.XLA_ERR2_STALE x.val
  | .setv => F.XLA_ERR2_SETV x.val
  | .eqv => F.XLA_ERR2_EQV x.val

/-- An error of a link counted (R127, R158). DESIGN CHOICE: source 28 rises for an error whose counter stands at its end, too, where
the rule says "incremented" (R160). -/
def countErr (e : XErr) (x : Fin 3) (s : State) : State := pendSrc 28 (s.incFld (xErrFld e x))

/-! The checks of a received message, in order (R127) -/

/-- Is LEN right for the type (R126)? -/
def lenOk (s : State) (m : XMsg) : Bool :=
  match xmType m with
  | 1 => decide (xmLen m = xNin s)
  | 2 => decide (xmLen m = xNout s)
  | 3 => decide (xmLen m = 0)
  | 4 => decide (xmLen m = 33)
  | 5 => decide (xmLen m = 5)
  | _ => false

/-- The payload bits that R149 and R154 leave unused are 0. -/
def payloadOk (m : XMsg) : Bool :=
  if xmType m = 4 then decide (getBits (XMsg.w m 4) 33 3 = 0)
  else if xmType m = 5 then decide (getBits (XMsg.w m 6) 3 15 = 0)
  else true

/-- Flag bits are 0 in every type they are not tied to (R124). -/
def flagsOk (m : XMsg) : Bool :=
  (!xmJreq m || decide (xmType m = 3)) && (!(xmJfin m || xmMabort m) || decide (xmType m = 2))

def macOk (s : State) (m : XMsg) : Bool :=
  match xmLane m with
  | 0 => decide (List.drop (m.length - 2) m = tagWords s.xla.keys[0] (List.take (m.length - 2) m))
  | 1 => decide (List.drop (m.length - 2) m = tagWords s.xla.keys[1] (List.take (m.length - 2) m))
  | 2 => decide (List.drop (m.length - 2) m = tagWords s.xla.keys[2] (List.take (m.length - 2) m))
  | _ => false

/-- Is the arrival, less the link delay, within WIN of a time of the frame (R130)? -/
def inWindow (s : State) (link : Fin 3) (t : Nat) : Bool :=
  let arr : Int := (s.ltime.toNat : Int) - ldly s link - s.frameStart.toNat
  decide ((t : Int) - xWin s ≤ arr) && decide (arr ≤ (t : Int) + xWin s)

/-- Is the arrival within a span of the frame (R132, for MIRROR)? -/
def inSpan (s : State) (link : Fin 3) (a b : Int) : Bool :=
  let arr : Int := (s.ltime.toNat : Int) - ldly s link - s.frameStart.toNat
  decide (a ≤ arr) && decide (arr ≤ b)

/-- Mid window; tail window of this frame; tail window of the preceding frame that runs on into this one (R132). -/
def inMid (s : State) (link : Fin 3) : Bool := inSpan s link (cI s + 50 : Nat) ((tV1 s : Int) - 100)
def inTail (s : State) (link : Fin 3) : Bool :=
  inSpan s link (cV s + 50 : Nat) ((xT s + tI1 : Nat) - 100 : Int)
def inTailCarried (s : State) (link : Fin 3) : Bool :=
  inSpan s link ((cV s + 50 : Nat) - (xT s : Int)) ((tI1 : Int) - 100)

/-- Does LANE name the originator that the link and the kind of message call for? -/
def laneOk (s : State) (link : Fin 3) (relay : Bool) (m : XMsg) : Bool :=
  decide (xmLane m = (if relay then (thirdLane s link).val else link.val))

/-- The checks common to every type up to the set version: the counter of the first that fails (R127). -/
def checkHead (s : State) (link : Fin 3) (relay symOk : Bool) (types : List Nat) (m : XMsg) : Option XErr :=
  if !(symOk && decide (6 ≤ m.length) && decide (m.length = xmLen m + 6)) then some .corr
  else if !macOk s m then some .corr
  else if !(types.contains (xmType m) && lenOk s m && flagsOk m && payloadOk m && laneOk s link relay m) then some .corr
  else if xmVmaj m ≠ 1 ∨ xmSetver m ≠ s.fld F.XLA_SET_SETVER then some .setv
  else none

/-- The checks of a message of an exchange, sent at time t of the frame (R127). -/
def checkRound (s : State) (link : Fin 3) (relay symOk : Bool) (types : List Nat) (t : Nat) (m : XMsg) : Option XErr :=
  match checkHead s link relay symOk types m with
  | some e => some e
  | none =>
    if xmFrame m ≠ s.frame then some .stale
    else if !inWindow s link t then some .outw
    else none

/-- Count a failed check against the lane that sent the message on the link; a wrong set version hoists XSETV. -/
def rejectMsg (e : XErr) (link : Fin 3) (s : State) : State :=
  let s := countErr e link s
  if e = .setv then hoistFlag 8 s else s

/-- Add a message to a view as a distinct element (R122). -/
def viewAdd (v : List XMsg) (m : XMsg) : List XMsg := if v.contains m then v else v ++ [m]

/-- Source 29 when NEXT comes to differ from CUR (R160). -/
def noteNext (before s : State) : State :=
  let differs := fun (s : State) => decide (s.fld F.XLA_MEMB_NEXT ≠ s.fld F.XLA_MEMB_CUR)
  if differs s && !differs before then pendSrc 29 s else s

/-- R146: both other lanes, or the other of two members, omit this lane from their MEMB. -/
def omitted (s : State) : Bool :=
  let omits := fun (x : Fin 3) => match s.xla.peer[x].memb with
    | some mb => !maskHas mb s.lane.val
    | none => false
  let cur := s.fld F.XLA_MEMB_CUR
  (farLanes s).all omits || (decide (popNat 3 cur = 2) && (farLanes s).any fun x => memberB s x && omits x)

/-- The lane counts itself a non-member for the rest of the frame (R146). -/
def dropOwnMember (s : State) : State :=
  noteNext s ((s.setFld F.XLA_MEMB_CUR (s.fld F.XLA_MEMB_CUR &&& (7 ^^^ s.laneBit))).setFld F.XLA_STAT_MEMBER 0)

/-- Does a member's MEMB show this lane as one of the members, while it is still joining by an attempt? Then the JFIN of that
attempt has not reached it (R156). -/
def missedJfin (x : Fin 3) (m : XMsg) (s : State) : Bool :=
  s.xla.attempt && s.xla.finalFrame.isNone && decide (s.lstate = lsSyncing ∨ s.lstate = lsWithdrawn) && memberB s x
    && maskHas (xmMemb m) s.lane.val && !s.isMember

/-- What every valid message of the frame tells of its originator: pennant, membership view, SAFE carried to every member
(R167), the omission of R146, and a JFIN that has not come (R156). -/
def noteOriginator (x : Fin 3) (m : XMsg) (s : State) : State :=
  let s := s.setPeer x fun p => { p with pennant := xmPennant m, memb := some (xmMemb m) }
  let s := if memberB s x ∧ penRstate (xmPennant m) = rsSafe then safeCause 5 s else s
  let s := if missedJfin x m s then failAttempt s else s
  if s.lstate = lsVoting ∧ s.isMember ∧ omitted s then dropOwnMember (withdrawOdd s) else s

/-- The time offset o_x of a direct message (R28). -/
def offsetOf (s : State) (link : Fin 3) (m : XMsg) : Word := xmTx m + BitVec.ofNat 36 (ldly s link) - s.lt36

/-- Two distinct valid messages of one originator: EQV against it and XEQV, once when the second comes (R122, R139). -/
def noteEqv (x : Fin 3) (before after : List XMsg) (s : State) : State :=
  if before.length = 1 ∧ after.length = 2 then hoistFlag 7 (countErr .eqv x s) else s

end Sys2Proof.Machine
end

