-- ==== Sys2Proof/Machine/Com.lean ====
section
/-! DEFINITION. Commutation: electrical angles, Hall decoding, modes and roles, locked rotor (R276 to R289). -/

namespace Sys2Proof.Machine

def setCom (n : Fin 2) (f : ComHidden → ComHidden) (s : State) : State :=
  { s with com := s.com.set n.val (f s.com[n]) }

/-! Angles (R276, R281, R282) -/

/-- The angle of k × 30 degrees. -/
def angle30 (k : Nat) : Nat := (k % 12 * 2 ^ 36 + 6) / 12 % 2 ^ 36

/-- An angle source: whether it is valid, the angle and its timestamp. -/
structure Angle where
  valid : Bool
  ang : Nat
  ts : Word
deriving DecidableEq, Repr

def polePairs (n : Fin 2) (s : State) : Nat := Nat.max 1 (s.fld (F.COM_ACFG_PP n.val))

/-- floor(P × PP × 2^36 ÷ M) mod 2^36. -/
def posAngle (p pp m : Nat) : Nat := p * pp * 2 ^ 36 / m % 2 ^ 36

/-- A position less the zero, reduced to [0, M). -/
def posMod (pos zero : Word) (m : Nat) : Nat := ((pos - zero).toInt % (m : Int)).toNat

/-- Bits of the fast channel that COM uses (R281, R365). -/
def sentWidth (r : Nat) (s : State) : Nat := if s.fldB (F.SENT_CFG_SPLIT r) then 12 else 4 * s.fld (F.SENT_CFG_NIB r)

/-- Sector of a bank's Hall sensors; 7 invalid. -/
def hallSector (n : Fin 2) (s : State) : Nat := s.fld (F.HALL_STAT_SECT n.val)

/-- The interpolated Hall angle. -/
def hallAngle (n : Fin 2) (s : State) : Nat :=
  let sec := hallSector n s
  let tsec := s.fld (F.HALL_TSEC_T n.val)
  let dir := s.fld (F.HALL_STAT_DIR n.val)
  if s.fldB (F.HALL_STAT_TSV n.val) && decide (tsec ≠ 0) && decide (dir ≠ 0) then
    let dt := (s.lt36 - s.reg (R.HALL_TEDGE n.val)).toNat
    let adv := Nat.min (dt * 2 ^ 36 / (6 * tsec)) 0x2AAAAAAAA
    if dir = 1 then (angle30 (2 * sec + 11) + adv) % 2 ^ 36
    else (angle30 (2 * sec + 1) + 2 ^ 36 - adv) % 2 ^ 36
  else angle30 (2 * sec)

/-- The present angle of a bank's source. -/
def angleOf (n : Fin 2) (s : State) : Angle :=
  let src := s.fld (F.COM_ACFG_ASRC n.val)
  let pp := polePairs n s
  let zero := s.reg (R.COM_ZERO n.val)
  if src ≤ 1 then
    let cpr := s.fld (F.COM_CPR_CPR n.val)
    let ok := decide (cpr ≠ 0) && decide (s.fld (F.QEP_STAT_WIRE src) % 4 = 0)
    ⟨ok, if cpr = 0 then 0 else posAngle (posMod (s.reg (R.QEP_POS src)) zero cpr) pp cpr, s.reg (R.QEP_TEDGE src)⟩
  else if src = 2 then
    let r := s.fld (F.COM_ACFG_SENTN n.val)
    let b := sentWidth r s
    let age := s.ltime.toNat - s.sent[Fin.ofNat 4 r].tsAt.toNat
    let ok := s.fldB (F.SENT_STAT_FCV r) && decide (age ≤ Nat.max 1 (s.fld (F.COM_ACFG_SAGE n.val)) * 100000)
    ⟨ok, posAngle (posMod (BitVec.ofNat 36 (s.fld (F.SENT_FC_VALUE r) % 2 ^ b)) zero (2 ^ b)) pp (2 ^ b),
      s.reg (R.SENT_TS r)⟩
  else if src = 3 then ⟨decide (hallSector n s ≠ 7), if hallSector n s = 7 then 0 else hallAngle n s, s.lt36⟩
  else ⟨true, (s.reg (R.COM_SWANG n.val)).toNat, s.com[n].swTs⟩

/-- In PASS under START, a fall of AVALID leads back to six-step or to FLOAT (R286). -/
def startFallback (n : Fin 2) (s : State) : State :=
  if s.com[n].mode = some 2 ∧ s.fld (F.COM_STAT_PHASE n.val) = 3 then
    if s.fldB (F.COM_ACFG_FBEN n.val) then
      pendSrc 118 (setCom n (fun c => { c with next := some 2, runN := 0 }) (s.incFld (F.COM_FBCNT_CNT n.val)))
    else setCom n (fun c => { c with next := some 5 }) s
  else s

/-- Bring COM_ANGn, COM_ATSn and AVALID up to date (R281). -/
def comAngle (n : Fin 2) (s : State) : State :=
  if s.lstate = lsOffline then s
  else
    let a := angleOf n s
    let was := s.fldB (F.COM_STAT_AVALID n.val)
    let s := s.setFldB (F.COM_STAT_AVALID n.val) a.valid
    let s :=
      if a.valid then
        (s.setReg (R.COM_ANG n.val) (BitVec.ofNat 36 a.ang)).setReg (R.COM_ATS n.val) a.ts
      else s
    if was && !a.valid then startFallback n (pendSrc (116 + n.val) s) else s

/-- Both banks follow a change of a source. -/
def comAngles (s : State) : State := comAngle 1 (comAngle 0 s)

/-- Is source kind `src` (and SENT receiver) the one a bank uses? -/
def usesSource (n : Fin 2) (src : Nat) (s : State) : Bool := decide (s.fld (F.COM_ACFG_ASRC n.val) = src)

/-- The locked-rotor timer of a bank starts again (R287). -/
def lockRestart (n : Fin 2) (s : State) : State := setCom n (fun c => { c with lockAt := s.ltime, lockN := 0 }) s

/-- The locked-rotor timer: ms of LTIME since it started (R287). -/
def lockMs (n : Fin 2) (s : State) : Nat := (s.ltime.toNat - s.com[n].lockAt.toNat) / 1000000

/-- COM_STATn as it reads: LTMR saturates. -/
def comStatWord (n : Fin 2) (s : State) : Word := putBits (s.reg (R.COM_STAT n.val)) 9 10 (Nat.min (lockMs n s) 1023)

/-- The position of source `src`, of SENT receiver r for source 2, changed: the locked-rotor timer of a bank that uses it
starts again with LSRC = 1 (R287). -/
def positionMoved (src r : Nat) (s : State) : State :=
  let one := fun (n : Fin 2) (s : State) =>
    if decide (s.fld (F.COM_ACFG_ASRC n.val) = src) && (decide (src ≠ 2) || decide (s.fld (F.COM_ACFG_SENTN n.val) = r))
        && s.fldB (F.COM_LOCK_LSRC n.val) then lockRestart n s else s
  one 1 (one 0 s)

/-! Modes and roles (R283 to R288) -/

/-- Roles of phases U, V, W in six-step, by sector and direction (R285): 0 PWM, 1 LOW, 3 FLOAT. -/
def sixStepRoles (sector : Nat) (backward : Bool) : Vector Nat 3 :=
  match backward, sector with
  | false, 0 => #v[3, 0, 1]
  | false, 1 => #v[1, 0, 3]
  | false, 2 => #v[1, 3, 0]
  | false, 3 => #v[3, 1, 0]
  | false, 4 => #v[0, 1, 3]
  | false, 5 => #v[0, 3, 1]
  | true, 0 => #v[3, 1, 0]
  | true, 1 => #v[0, 1, 3]
  | true, 2 => #v[0, 3, 1]
  | true, 3 => #v[3, 0, 1]
  | true, 4 => #v[1, 0, 3]
  | true, 5 => #v[1, 3, 0]
  | _, _ => #v[3, 3, 3]

/-- HALL_CTRL.ENn. -/
def hallEn (n : Fin 2) (s : State) : Bool := if n = 0 then s.fldB F.HALL_CTRL_EN0 else s.fldB F.HALL_CTRL_EN1

/-- The mode that applies: START acts as FLOAT while the bank's Hall inputs are disabled (R286). -/
def modeApplied (n : Fin 2) (s : State) : Nat :=
  let m := s.fld (F.COM_MODE_MODE n.val)
  if m = 2 ∧ !hallEn n s then 4 else m

/-- PHASE on entry into a mode. -/
def entryPhase (m : Nat) : Nat :=
  match m with
  | 0 => 0
  | 1 => 2
  | 2 => 1
  | 3 => 4
  | _ => 5

def setPhaseCom (n : Fin 2) (p : Nat) (s : State) : State :=
  if s.fld (F.COM_STAT_PHASE n.val) = p then s else pendSrc (112 + n.val) (s.setFld (F.COM_STAT_PHASE n.val) p)

/-- The alternation of a SHORT with SHSEL 10b (R288). -/
def altStep (n : Fin 2) (entered : Bool) (s : State) : State :=
  let sel := s.fld (F.COM_SHORT_SHSEL n.val)
  let per := Nat.max 1 (s.fld (F.COM_SHORT_ALTP n.val))
  setCom n (fun c =>
    if entered ∨ (sel = 2 ∧ c.altSel ≠ 2) then { c with altCnt := 1, altHigh := false, altSel := sel }
    else if per ≤ c.altCnt then { c with altCnt := 1, altHigh := !c.altHigh, altSel := sel }
    else { c with altCnt := c.altCnt + 1, altSel := sel }) s

/-- The mode and the changes of R286 take effect at the bank's period start (R284). -/
def comPeriodStart (n : Fin 2) (s : State) : State :=
  let m := modeApplied n s
  let entered := decide (s.com[n].mode ≠ some m)
  let s := s.setFld (F.COM_STAT_SECTOR n.val) (hallSector n s)
  let s :=
    if entered then
      let s := setCom n (fun c => { c with
        mode := some m, next := none, runDir := 0, runN := 0, startAt := s.dlk.dtime }) s
      setPhaseCom n (entryPhase m) (if m = 2 then s.setFld (F.COM_STAT_CATCH n.val) 0 else s)
    else match s.com[n].next with
      | some p => setPhaseCom n p (setCom n (fun c => { c with next := none }) s)
      | none => s
  let s := if m = 3 then altStep n entered s else s
  comAngle n s

/-- The roles of the phases for the period that starts. -/
def rolesNow (n : Fin 2) (s : State) : Vector Nat 3 :=
  match s.fld (F.COM_STAT_PHASE n.val) with
  | 0 => #v[0, 0, 0]
  | 3 => #v[0, 0, 0]
  | 2 => sixStepRoles (s.fld (F.COM_STAT_SECTOR n.val)) (s.fldB (F.COM_SS_DIR n.val))
  | 4 =>
    let sel := s.fld (F.COM_SHORT_SHSEL n.val)
    if sel = 1 ∨ (sel = 2 ∧ s.com[n].altHigh) then #v[2, 2, 2] else #v[1, 1, 1]
  | _ => #v[3, 3, 3]

/-! Hall decoding (R277 to R279) -/

/-- Map entry of a raw state: sector 0 to 5, or invalid. -/
def hallEntry (n : Fin 2) (r : Nat) (s : State) : Option Nat :=
  let e := s.fld (F.HALL_MAP_MAP n.val) / 8 ^ r % 8
  if e < 6 then some e else none

/-- FSEDG: 2 to 6, other values act as 2 (R295). -/
def fsedg (n : Fin 2) (s : State) : Nat :=
  let f := s.fld (F.COM_SS_FSEDG n.val)
  if 2 ≤ f ∧ f ≤ 6 then f else 2

/-- START follows a Hall edge in direction d (1 forward, 2 backward): while catching it counts consecutive edges in one
direction, and in six-step consecutive edges in the commanded direction that give TSEC ≤ SWT (R286). -/
def startEdge (n : Fin 2) (d : Nat) (s : State) : State :=
  if s.com[n].mode ≠ some 2 then s
  else
    let cmd := if s.fldB (F.COM_SS_DIR n.val) then 2 else 1
    let fast := s.fldB (F.HALL_STAT_TSV n.val) &&
      decide (s.fld (F.HALL_TSEC_T n.val) ≤ s.fld (F.COM_SS_SWT n.val) * 1000)
    let phase := s.fld (F.COM_STAT_PHASE n.val)
    let run :=
      if phase = 2 ∧ ¬(d = cmd ∧ fast) then 0
      else if s.com[n].runDir = d then s.com[n].runN + 1 else 1
    let s := setCom n (fun c => { c with runDir := d, runN := run }) s
    if run < fsedg n s ∨ s.com[n].next.isSome then s
    else if phase = 1 then
      if fast then
        setCom n (fun c => { c with next := some 3 }) (s.setFld (F.COM_STAT_CATCH n.val) (if d = cmd then 2 else 3))
      else setCom n (fun c => { c with next := some 2, runN := 0 }) (s.setFld (F.COM_STAT_CATCH n.val) 1)
    else if phase = 2 ∧ d = cmd ∧ fast then setCom n (fun c => { c with next := some 3 }) s
    else s

/-- TSEC and DIR after a forward (1) or backward (2) edge at time t. -/
def hallEdge (n : Fin 2) (d sec : Nat) (t : Word) (s : State) : State :=
  let iv := (t - s.reg (R.HALL_TEDGE n.val)).toNat
  let valid := decide (s.fld (F.HALL_STAT_DIR n.val) = d)
  let s := s.setFld (F.HALL_TSEC_T n.val) (Nat.min iv 0xFFFFFFFF)
  let s := ((s.setFldB (F.HALL_STAT_TSV n.val) valid).setFld (F.HALL_STAT_DIR n.val) d).setFld (F.HALL_STAT_SECT n.val) sec
  let s := if s.fldB (F.COM_LOCK_LSRC n.val) ∧ !usesSource n 3 s then s else lockRestart n s
  startEdge n d (pendSrc (144 + n.val) (s.setReg (R.HALL_TEDGE n.val) t))

/-- A change of FILT that is no edge: TSEC becomes invalid and START counts its edges afresh. -/
def hallBreak (n : Fin 2) (t : Word) (s : State) : State :=
  setCom n (fun c => { c with runN := 0, runDir := 0 })
    ((s.setFld (F.HALL_STAT_TSV n.val) 0).setReg (R.HALL_TEDGE n.val) t)

/-- An accepted change of the filtered state, classified by R279. -/
def hallAccept (n : Fin 2) (raw : Nat) (s : State) : State :=
  let old := hallEntry n (s.fld (F.HALL_STAT_FILT n.val)) s
  let new := hallEntry n raw s
  let t := s.lt36 - BitVec.ofNat 36 (s.fld F.HALL_CTRL_HFT * 100)
  let s := setCom n (fun c => { c with edgeAt := s.dlk.dtime }) (s.setFld (F.HALL_STAT_FILT n.val) raw)
  match old, new with
  | some o, some e =>
    let d := (e + 6 - o) % 6
    if d = 0 then s.setReg (R.HALL_TEDGE n.val) t
    else if d = 1 then hallEdge n 1 e t s
    else if d = 5 then hallEdge n 2 e t s
    else
      let s := pendSrc (148 + n.val) (s.incFld (F.HALL_ERR_SKIP n.val))
      hallBreak n t ((s.setFld (F.HALL_STAT_SECT n.val) e).setFld (F.HALL_STAT_DIR n.val) 0)
  | _, none => hallBreak n t (pendSrc (146 + n.val) (s.incFld (F.HALL_ERR_INV n.val)))
  | none, some e => hallBreak n t ((s.setFld (F.HALL_STAT_SECT n.val) e).setFld (F.HALL_STAT_DIR n.val) 0)

/-- HALL_CHANGE: the raw state of bank n as sampled; it is accepted when it has been stable for the filter time (R277). -/
def hallChange (n : Fin 2) (raw : BitVec 3) (s : State) : State :=
  let s :=
    if s.fld (F.HALL_STAT_RAW n.val) = raw.toNat then s
    else setCom n (fun c => { c with rawAt := s.dlk.dtime }) (s.setFld (F.HALL_STAT_RAW n.val) raw.toNat)
  if hallEn n s && decide (s.fld (F.HALL_STAT_FILT n.val) ≠ raw.toNat)
      && passed s s.com[n].rawAt (100 * s.fld F.HALL_CTRL_HFT) then
    comAngle n (hallAccept n raw.toNat s)
  else s

def execHallChange (n : Fin 2) (raw : BitVec 3) (s : State) : Host.Outcome State Fault Refusal := .next (whenClocked (hallChange n raw) s)

/-- HALL_STANDSTILL: no edge for HSTO ms, 0 acting as 1 (R279, R296). -/
def hallStandstill (n : Fin 2) (s : State) : State :=
  if hallEn n s && passed s s.com[n].edgeAt (1000000 * Nat.max 1 (s.fld F.HALL_CTRL_HSTO)) then
    let s := (s.setFld (F.HALL_STAT_TSV n.val) 0).setFld (F.HALL_STAT_DIR n.val) 0
    comAngle n (pendSrc 150 (setCom n (fun c => { c with runN := 0, runDir := 0 }) s))
  else s

def execHallStandstill (n : Fin 2) (s : State) : Host.Outcome State Fault Refusal := .next (whenClocked (hallStandstill n) s)

/-- CATCH_TIMEOUT: FSTO expires while catching: standstill, and six-step from the next period start (R286). -/
def catchTimeout (n : Fin 2) (s : State) : State :=
  if s.com[n].mode = some 2 ∧ s.fld (F.COM_STAT_PHASE n.val) = 1 ∧ s.com[n].next.isNone
      ∧ passed s s.com[n].startAt (1000000 * s.fld (F.COM_SS_FSTO n.val)) then
    setCom n (fun c => { c with next := some 2, runN := 0 }) (s.setFld (F.COM_STAT_CATCH n.val) 1)
  else s

def execCatchTimeout (n : Fin 2) (s : State) : Host.Outcome State Fault Refusal := .next (whenClocked (catchTimeout n) s)

/-- LOCKED_ROTOR: the timer has reached LOCKT ms, or a further LOCKT ms (R287). -/
def lockedRotor (n : Fin 2) (s : State) : State :=
  let t := s.fld (F.COM_LOCK_LOCKT n.val)
  if t = 0 ∨ lockMs n s < t * (s.com[n].lockN + 1) then s
  else pendSrc (114 + n.val) (hoistFlag 48 (setCom n (fun c => { c with lockN := c.lockN + 1 }) s))

def execLockedRotor (n : Fin 2) (s : State) : Host.Outcome State Fault Refusal := .next (whenClocked (lockedRotor n) s)

/-! Register writes (R281, R284) -/

/-- A write of COM_MODEn: values 5 to 7 leave MODE unchanged. -/
def comModeWrite (n : Fin 2) (v : Word) (s : State) : State :=
  if getBits v 0 3 ≤ 4 then s.setFld (F.COM_MODE_MODE n.val) (getBits v 0 3) else s

/-- A write of COM_ACFGn: ASRC 5 to 7 leave ASRC unchanged, the other fields are applied. -/
def comAcfgWrite (n : Fin 2) (v : Word) (s : State) : State :=
  let src := if getBits v 0 3 ≤ 4 then getBits v 0 3 else s.fld (F.COM_ACFG_ASRC n.val)
  comAngle n (s.setReg (R.COM_ACFG n.val) (putBits (v &&& 0xFFFFF) 0 3 src))

def comSwangWrite (n : Fin 2) (v : Word) (s : State) : State :=
  let s := if s.reg (R.COM_SWANG n.val) ≠ v ∧ usesSource n 4 s ∧ s.fldB (F.COM_LOCK_LSRC n.val) then lockRestart n s else s
  comAngle n (setCom n (fun c => { c with swTs := s.lt36 }) (s.setReg (R.COM_SWANG n.val) v))

end Sys2Proof.Machine
end

