-- ==== Sys2Proof/Machine/Pwm.lean ====
section
/-! DEFINITION. The PWM generators: periods, effective compares, gate states and their edges, shadow transfers, trips
(R220 to R236, R241). -/

namespace Sys2Proof.Machine

def bank (n : Nat) (h : n < 2 := by decide) : Fin 2 := ⟨n, h⟩

def setPwm (n : Fin 2) (f : PwmHidden → PwmHidden) (s : State) : State :=
  { s with pwm := s.pwm.set n.val (f s.pwm[n]) }

def aper (n : Fin 2) (s : State) : Nat := s.fld (F.PWM_APER_APER n.val)
def pwmDt (n : Fin 2) (s : State) : Nat := s.fld (F.PWM_DT_DT n.val)

/-! Effective compares (R225) -/

/-- E of a phase and whether the compare was clamped. -/
def effCompare (p mon moff : Nat) (cmp : BitVec 21) : Nat × Bool :=
  let c := cmp.toNat % 2 ^ 20
  if cmp.getLsbD 20 then (p, false)
  else if c < mon then (0, false)
  else if c ≤ p - moff then (c, false)
  else if c < p then (p - moff, false)
  else (p - moff, true)

/-! The signal S and the commands of a phase (R226 to R228) -/

/-- What forms the signal of one phase in one period: APER, E, INV, SWAP, DT, RFW when the phase is refreshed, and the
value and age of S before count 0. -/
structure Phase where
  p : Nat
  e : Nat
  inv : Bool
  swap : Bool
  dt : Nat
  rfw : Option Nat
  v0 : Bool
  age0 : Nat
  role : Nat
  chg : Bool
  lastG : Nat
deriving DecidableEq, Repr

/-- S at count t, after INV and the refresh forcing. -/
def Phase.sig (f : Phase) (t : Nat) : Bool :=
  match f.rfw with
  | some w => if f.p - w ≤ t ∧ t < f.p then false else decide (t < f.e) != f.inv
  | none => decide (t < f.e) != f.inv

/-- Counts at which S can change, rising. -/
def Phase.points (f : Phase) : List Nat :=
  match f.rfw with
  | some w => if f.e ≤ f.p - w then [0, f.e, f.p - w, f.p] else [0, f.p - w, f.e, f.p]
  | none => [0, f.e, f.p]

/-- S at count t and the count since which it has held that value. -/
def Phase.info (f : Phase) (t : Nat) : Bool × Int :=
  (f.points.filter (· ≤ t)).foldl (fun (i : Bool × Int) q => if f.sig q = i.1 then i else (f.sig q, (q : Int)))
    (f.v0, -(f.age0 : Int))

/-- H and L at count t (R226). -/
def Phase.cmds (f : Phase) (t : Nat) : Bool × Bool :=
  let i := f.info t
  let settled := decide ((f.dt : Int) ≤ t - i.2)
  (i.1 && settled, !i.1 && settled)

/-- High-side and low-side gate of the phase, in two bits: the commands after SWAP (R227), or the role's gates (R283). -/
def Phase.roleGates (f : Phase) (t : Nat) : Nat :=
  match f.role with
  | 0 =>
    let c := f.cmds t
    if f.swap then 2 * b2n c.2 + b2n c.1 else 2 * b2n c.1 + b2n c.2
  | 1 => 1
  | 2 => 2
  | _ => 0

/-- The gates with the all-off interval of DT counts that follows a change of role from one gate to the other (R283). -/
def Phase.gates (f : Phase) (t : Nat) : Nat :=
  let g := f.roleGates t
  if f.chg ∧ t < f.dt ∧ ((f.lastG = 2 ∧ g = 1) ∨ (f.lastG = 1 ∧ g = 2)) then 0 else g

/-- Counts at which the gates of the phase can change. -/
def Phase.times (f : Phase) : List Nat :=
  f.points ++ (f.points.map (· + f.dt)) ++ (if f.age0 < f.dt then [f.dt - f.age0] else []) ++ (if f.chg then [f.dt] else [])

/-- Phase i of bank n in its running period, with or without the refresh forcing. -/
def phaseOf (n : Fin 2) (i : Fin 3) (s : State) : Phase :=
  let h := s.pwm[n]
  let full := s.fldB (F.PWM_ECMP_FULL n.val i.val)
  let ov := s.reg (R.PWM_AOVR n.val)
  let f : Phase :=
    { p := aper n s, e := if full then aper n s else s.fld (F.PWM_ECMP_E n.val i.val)
      inv := bit ov (2 * i.val), swap := bit ov (2 * i.val + 1), dt := pwmDt n s, rfw := none
      v0 := h.sVal[i], age0 := h.sAge[i], role := h.role[i], chg := h.chg[i], lastG := h.lastG[i] }
  let w := s.fld (F.PWM_RFR_RFW n.val)
  if h.refresh && (f.cmds (f.p - w)).1 then { f with rfw := some w } else f

def phases : List (Fin 3) := [0, 1, 2]

/-- Gate states of bank n at count t: GH U at bit 5 down to GL W at bit 0 (R239). -/
def gateStates (n : Fin 2) (t : Nat) (s : State) : Nat := phases.foldl (fun g i => 4 * g + (phaseOf n i s).gates t) 0

/-- Insert a number into a rising list without repeats. -/
def insertUp (x : Nat) : List Nat → List Nat
  | [] => [x]
  | y :: r => if x < y then x :: y :: r else if x = y then y :: r else y :: insertUp x r

/-- Counts of the period at which a gate of bank n can change, rising. -/
def edgeTimes (n : Fin 2) (s : State) : List Nat :=
  ((phases.map fun i => (phaseOf n i s).times).flatten).foldl (fun l x => insertUp x l) []

/-- The edge packets of the counts in `ts` at which the gate states differ from those before. -/
def edgesAt (n : Fin 2) (s : State) : Nat → List Nat → List EdgePkt
  | _, [] => []
  | g, t :: r =>
    let g' := gateStates n t s
    if g' = g then edgesAt n s g r
    else
      ⟨etimeOf ⟨n.val, by omega⟩ (s.pwm[n].startD.toNat + 2 * t) s, g', false, false⟩ :: edgesAt n s g' r

/-- Does the period-start packet carry RESUME: the first after a trip, after EN was set or after LLREL, in a bank that is
not tripped (R239, R243, R250)? -/
def resumes (n : Fin 2) (s : State) : Bool := s.pwm[n].resume && decide (s.fld (F.PWM_STAT_TSTATE n.val) = 0)

/-- Every edge packet of the period, the period-start packet first (R241). -/
def periodPackets (n : Fin 2) (s : State) : List EdgePkt :=
  let g0 := gateStates n 0 s
  ⟨etimeOf ⟨n.val, by omega⟩ s.pwm[n].startD.toNat s, g0, resumes n s, true⟩ ::
    edgesAt n s g0 ((edgeTimes n s).filter fun t => decide (0 < t) && decide (t < aper n s))

/-! Where period starts lie (R221 to R224) -/

/-- The highest-ranked lane of a membership. -/
def referenceLane (memb : Nat) : Option Nat := [0, 1, 2].find? fun x => maskHas memb x

/-- The slot of this lane: (L − Q) mod 3. -/
def slotOf (s : State) : Option Nat :=
  (referenceLane (s.fld F.XLA_MEMB_CUR)).map fun q => (s.lane.val + 3 - q) % 3

/-- OFFSET of the slot, in counts (R223). -/
def slotOffset (s : State) : Nat := aper 0 s * s.fld (F.PWM_STAT_SLOT 0) / 3

/-- The slot instant k = 0 after the last frame start F: F + 2 × OFFSET (R222). -/
def slotBase (s : State) : Int := s.frameStart.toNat + 2 * slotOffset s

/-- The latest of the instants base + 2 × k × APER that is not after t, for whole k. -/
def gridAt (base per t : Int) : Int := base + (t - base) / per * per

/-- The instant of LTIME at which a period of bank 0 starts now, if one is due: E0 for the first period; the next instant of
its grid; at the end of a stretched period the first slot instant at or after which APER counts have run (R222, R224). -/
def periodInstant (s : State) : Option Int :=
  let t : Int := s.ltime.toNat
  let per : Int := 2 * aper 0 s
  let h := s.pwm[(0 : Fin 2)]
  let base : Int := h.base.toNat
  if h.fresh then some (gridAt base per t)
  else if s.fldB (F.PWM_STAT_STRETCH 0) then
    match h.ripe with
    | none => none
    | some r => if r.toNat < gridAt (slotBase s) per t then some (gridAt (slotBase s) per t) else none
  else if base ≤ t ∧ t < base + per then none
  else some (gridAt base per t)

/-- Is a period start of the bank due in this cycle? Bank 1 starts OFS counts after every period start of bank 0 (R221). -/
def periodDue (n : Fin 2) (s : State) : Bool :=
  s.fldB (F.PWM_CTRL_EN n.val) &&
    if n = 0 then (periodInstant s).isSome
    else !s.pwm[(0 : Fin 2)].fresh && !s.pwm[(1 : Fin 2)].answered
      && decide (s.fld (F.PWM_OFS_OFS 1) ≤ s.fld (F.PWM_CNT_CNT 0))

/-- A bank's counter over one LCLK cycle: it counts up, and stands at its last count in a cycle in which the next period
starts; the LTIME of count APER − 1 is kept (R220, R224). -/
def countPwm (n : Fin 2) (s : State) : State :=
  if !s.fldB (F.PWM_STAT_RUN n.val) || periodDue n s then s
  else
    let s := s.incFld (F.PWM_CNT_CNT n.val)
    if s.fld (F.PWM_CNT_CNT n.val) + 1 = aper n s then setPwm n (fun h => { h with ripe := some s.ltime }) s else s

/-- Does a period start of either bank lie less than 64 ns ahead (R241)? -/
def guardWindow (s : State) : Bool :=
  let t : Int := s.ltime.toNat
  let per : Int := 2 * aper 0 s
  let h := s.pwm[(0 : Fin 2)]
  let c := s.fld (F.PWM_CNT_CNT 0)
  let near := fun (base : Int) => decide (gridAt base per t + per - t ≤ 64)
  let ofs := s.fld (F.PWM_OFS_OFS 1)
  (s.fldB (F.PWM_CTRL_EN 0) && !h.fresh
      && (if s.fldB (F.PWM_STAT_STRETCH 0) then decide (aper 0 s ≤ c + 32) && near (slotBase s) else near h.base.toNat))
    || (s.fldB (F.PWM_CTRL_EN 1) && !s.pwm[(1 : Fin 2)].answered && decide (c < ofs) && decide (ofs ≤ c + 32))

/-! Shadow transfer (R230, R231, R234) -/

/-- Is the frame a whole number of periods from 1 to 8 of this length? -/
def perFits (per : Nat) (s : State) : Bool := (List.range 8).any fun k => decide (xT s = (k + 1) * 2 * per)

/-- Shadow values pass to the active registers. -/
def transfer (n : Fin 2) (s : State) : State :=
  let s :=
    if n = 0 then
      let per := s.fld (F.PWM_PER_PER 0)
      if s.fldB F.XLA_CTRL_EN && !perFits per s then pendSrc 47 (s.setFld (F.PWM_STAT_PERR 0) 1)
      else (s.setFld (F.PWM_STAT_PERR 0) 0).setFld (F.PWM_APER_APER 0) per
    else s
  let s := s.setReg (R.PWM_AOVR n.val) (s.reg (R.PWM_OVR n.val))
  let cmp := fun (i : Nat) => BitVec.ofNat 21 (s.reg (R.PWM_CMP n.val i)).toNat
  setPwm n (fun h => { h with acmp := #v[cmp 0, cmp 1, cmp 2] }) s

/-- Does the open round include bank n, which has not yet transferred (R231): enabled, and named in BANKS? -/
def inRound (n : Fin 2) (s : State) : Bool :=
  s.fldB F.PWM_LOAD_LOADALL && s.fldB (F.PWM_CTRL_EN n.val) && maskHas (s.fld F.PWM_LOAD_BANKS) n.val && !s.pwm[n].done

/-- PEND of both banks; the round is complete when a bank has transferred and none is left (R231). -/
def roundCheck (s : State) : State :=
  let s := (s.setFldB (F.PWM_STAT_PEND 0) (inRound 0 s)).setFldB (F.PWM_STAT_PEND 1) (inRound 1 s)
  if s.fldB F.PWM_LOAD_LOADALL && !inRound 0 s && !inRound 1 s && (s.pwm[(0 : Fin 2)].done || s.pwm[(1 : Fin 2)].done) then
    pendSrc 45 (s.setFld F.PWM_LOAD_LOADALL 0)
  else s

/-- The transfer of bank n in an open round that includes it. -/
def roundTransfer (n : Fin 2) (s : State) : State :=
  if s.fldB (F.PWM_STAT_PEND n.val) then
    roundCheck (setPwm n (fun h => { h with done := true }) (pendSrc (41 + 8 * n.val) (transfer n s)))
  else s

/-- A write of PWM0_LOAD (R231, R232): LOADALL opens a round, unless one is open. -/
def pwmLoadWrite (v : Word) (s : State) : State :=
  let s := s.setFld F.PWM_LOAD_BANKS (getBits v 1 2)
  if bit v 0 && !s.fldB F.PWM_LOAD_LOADALL then
    roundCheck (setPwm 0 (fun h => { h with done := false }) (setPwm 1 (fun h => { h with done := false })
      (s.setFld F.PWM_LOAD_LOADALL 1)))
  else roundCheck s

/-! The period start -/

/-- The effective compares of the new period; clamps hoist CMPCLAMP (R225). -/
def formCompares (n : Fin 2) (s : State) : State :=
  let mon := s.fld (F.PWM_LIM_MINON n.val)
  let moff := s.fld (F.PWM_LIM_MINOFF n.val)
  phases.foldl (fun s i =>
    let c := s.pwm[n].acmp[i]
    let r := effCompare (aper n s) mon moff c
    let s := (s.setFld (F.PWM_ECMP_E n.val i.val) r.1).setFldB (F.PWM_ECMP_FULL n.val i.val) (c.getLsbD 20)
    if r.2 then pendSrc (44 + 8 * n.val) ((hoistFlag 49 s).incFld (F.PWM_CLCNT_CNT n.val)) else s) s

/-- Counts, up to count t, for which the low side of phase i has been on without a break. -/
def lowOn (n : Fin 2) (i : Fin 3) (t : Nat) (s : State) : Nat :=
  let f := phaseOf n i s
  let r := ((edgeTimes n s).filter (· ≤ t)).foldl (fun (a : Option Int) q =>
    if f.gates q % 2 = 1 then (match a with | none => some (q : Int) | some x => some x) else none)
    (if s.pwm[n].lowAge[i] = 0 then none else some (-(s.pwm[n].lowAge[i] : Int)))
  match r with
  | none => 0
  | some since => ((t : Int) + 1 - since).toNat

/-- Counts, up to now, for which the low side of phase i has been on while the bank is tripped: an active short leaves a low
side on that was on, and turns the others on DT after the trip (R235). -/
def tripLowOn (n : Fin 2) (i : Fin 3) (s : State) : Nat :=
  let since := (s.dlk.dtime.toNat - s.pwm[n].tripD.toNat) / 2
  match s.fld (F.PWM_STAT_TSTATE n.val) with
  | 1 => if s.pwm[n].tripLow[i] ≠ 0 then s.pwm[n].tripLow[i] + since else since - pwmDt n s
  | _ => 0

/-- Counts for which the low side of phase i has been on at count t of the running period, the present one at most. -/
def lowSideAge (n : Fin 2) (i : Fin 3) (t : Nat) (s : State) : Nat :=
  if s.fld (F.PWM_STAT_TSTATE n.val) = 0 then lowOn n i t s else tripLowOn n i s

/-- The counts to the sample anchor of bank n: SPT, and the active period at most (R291). -/
def anchorCount (n : Fin 2) (s : State) : Nat := Nat.min (s.fld (F.ISN_CFG_SPT n.val)) (aper n s)

/-- What a sample of the running period needs of it. -/
def sampleNow (n : Fin 2) (s : State) : OwedSample :=
  let spt := anchorCount n s
  { start := s.pwm[n].startL, spt := spt, trip := s.fld (F.PWM_STAT_TSTATE n.val)
    low := Vector.ofFn fun i : Fin 3 => lowSideAge n i spt s }

/-- A period that ends without its sample still owes it. -/
def owePeriod (n : Fin 2) (s : State) : State :=
  let o := if s.isn.sampled[n] then none else some (sampleNow n s)
  { s with isn := { s.isn with owed := s.isn.owed.set n.val o, sampled := s.isn.sampled.set n.val false } }

/-- The value of S at the end of the ended period, which has lasted CNT + 1 counts, and the counts it has held; the gates
and low sides then. -/
def closePeriod (n : Fin 2) (s : State) : State :=
  let len := s.fld (F.PWM_CNT_CNT n.val) + 1
  let i := fun (p : Fin 3) => (phaseOf n p s).info (len - 1)
  let age := fun (p : Fin 3) => ((len : Int) - (i p).2).toNat
  let g := fun (p : Fin 3) => (phaseOf n p s).gates (len - 1)
  let low := fun (p : Fin 3) => Nat.min (2 ^ 21) (lowSideAge n p (len - 1) s)
  setPwm n (fun h => { h with
    sVal := #v[(i 0).1, (i 1).1, (i 2).1], sAge := #v[age 0, age 1, age 2]
    lastG := #v[g 0, g 1, g 2], lowAge := #v[low 0, low 1, low 2] }) s

/-- The roles of the period that starts (R283). -/
def takeRoles (n : Fin 2) (s : State) : State :=
  let r := rolesNow n s
  setPwm n (fun h => { h with
    role := r, chg := Vector.ofFn fun i : Fin 3 => decide (h.role[i] ≠ r[i]) }) s

/-- The refresh count of the new period (R228). -/
def refreshCount (n : Fin 2) (s : State) : State :=
  let c := s.fld (F.PWM_STAT_RFCNT n.val) + 1
  let due := s.fldB (F.PWM_RFR_RFEN n.val) && decide (s.fld (F.PWM_RFR_RFPER n.val) ≤ c)
  setPwm n (fun h => { h with refresh := due })
    (s.setFld (F.PWM_STAT_RFCNT n.val) (if due then 0 else Nat.min c 63))

/-- Before count 0 of the first period, S counts as having held the value it has at count 0 (R226). -/
def freshPhases (n : Fin 2) (s : State) : State :=
  let v := fun (i : Fin 3) => (phaseOf n i s).sig 0
  setPwm n (fun h => { h with sVal := #v[v 0, v 1, v 2], sAge := Vector.replicate 3 (2 ^ 21) }) s

/-- Leave the trip state when every source is inactive (R236). -/
def leaveTrip (n : Fin 2) (s : State) : State :=
  if s.fldB (F.PWM_STAT_TSTATE n.val) && decide (resolvedTrip n.val s = 0) then
    let s := sendTrip none (s.setFld (F.PWM_STAT_TSTATE n.val) 0)
    setPwm n (fun h => { h with resume := true, tripD := s.dlk.dtime }) (pendSrc (43 + 8 * n.val) s)
  else s

/-- Edge packets of the part of a stretched period beyond count APER. -/
def stretchPackets (n : Fin 2) (s : State) : List EdgePkt :=
  let p := aper n s
  edgesAt n s (gateStates n (p - 1) s) ((edgeTimes n s).filter fun t => decide (p ≤ t))

/-- The place of the period that starts: its instant on the grid, and the answer that bank 1 owes it or has given. -/
def placePeriod (n : Fin 2) (s : State) : State :=
  if n = 0 then
    let at_ := (periodInstant s).getD 0
    setPwm 1 (fun h => { h with answered := false }) (setPwm 0 (fun h => { h with base := BitVec.ofInt 72 at_ }) s)
  else setPwm 1 (fun h => { h with answered := true }) s

/-- PERIOD_START of bank n, in the cycle in which it is due: the counter is 0 (R220 to R222); transfer, compares, refresh,
trip exit, and the packets of the period. -/
def periodStart (n : Fin 2) (s : State) : State :=
  if !periodDue n s then s
  else
    let fresh := s.pwm[n].fresh
    let s := placePeriod n s
    let s := if fresh then { s with isn := { s.isn with sampled := s.isn.sampled.set n.val false } }
      else closePeriod n (owePeriod n s)
    let s := roundTransfer n s
    let s := if n = 1 then s.setFld (F.PWM_APER_APER 1) (s.fld (F.PWM_APER_APER 0)) else s
    let s := refreshCount n (formCompares n s)
    let s := takeRoles n (comPeriodStart n s)
    let s := if fresh then freshPhases n s else s
    let answers := s.pwm[n].strNext
    let s := leaveTrip n ((s.setFldB (F.PWM_STAT_STRETCH n.val) answers).setFld (F.PWM_CNT_CNT n.val) 0)
    let s := if fresh then s else s.setFld (F.PWM_CNT_PIDX n.val) (s.fld (F.PWM_CNT_PIDX n.val) + 1)
    let s := setPwm n (fun h => { h with fresh := false, strNext := false, ripe := none, startD := s.dlk.dtime, startL := s.ltime }) s
    let s := triggerAtPeriod n (pendSrc (40 + 8 * n.val) (s.setReg (R.PWM_PSTART n.val) s.lt36))
    let packets := periodPackets n s ++ (if answers then stretchPackets n s else [])
    setPwm n (fun h => { h with resume := h.resume && !resumes n s }) (pushEdges ⟨n.val, by omega⟩ packets s)

def execPeriodStart (n : Fin 2) (s : State) : Host.Outcome State Fault Refusal := .next (whenClocked (periodStart n) s)

/-! Enable and disable (R229, R252) -/

/-- The conditions of R229, and of R230 while the XLA runs. -/
def pwmConfigOk (n : Fin 2) (s : State) : Bool :=
  let per := s.fld (F.PWM_PER_PER 0)
  let dt := pwmDt n s
  let mon := s.fld (F.PWM_LIM_MINON n.val)
  let moff := s.fld (F.PWM_LIM_MINOFF n.val)
  let rfw := s.fld (F.PWM_RFR_RFW n.val)
  let rfper := s.fld (F.PWM_RFR_RFPER n.val)
  let ofs := s.fld (F.PWM_OFS_OFS 1)
  decide (2500 ≤ per) && decide (per ≤ 100000) && decide (10 ≤ dt) && decide (dt ≤ 500)
    && decide (150 ≤ mon) && decide (mon ≤ 1000) && decide (dt + 10 ≤ mon)
    && decide (dt + 10 ≤ moff) && decide (moff ≤ 1000) && decide (dt + 10 ≤ rfw) && decide (rfw ≤ 1000)
    && decide (1 ≤ rfper) && decide (rfper ≤ 63)
    && (decide (n = 0) || (decide (300 ≤ ofs) && decide (ofs + 300 ≤ per) && s.fldB (F.PWM_CTRL_EN 0)))
    && decide (s.fld F.DLK_STAT_LSTATE = llUp)
    && decide (s.lstate ≠ lsOffline) && decide (s.lstate ≠ lsSelftest) && decide (s.lstate ≠ lsStruck)
    && (decide (n = 1) || !s.fldB F.XLA_CTRL_EN || perFits per s)

/-- EN is set: refused, or the shadows transfer, the counter starts and the dead time is copied into the die. -/
def pwmEnable (n : Fin 2) (s : State) : State :=
  if s.fldB (F.PWM_CTRL_EN n.val) then s
  else if pwmConfigOk n s then
    let s := transfer n ((s.setFld (F.PWM_CTRL_EN n.val) 1).setFld (F.PWM_STAT_CFGERR n.val) 0)
    let s := if n = 1 then s.setFld (F.PWM_APER_APER 1) (s.fld (F.PWM_APER_APER 0)) else s
    let s := ((s.setFld (F.PWM_STAT_RUN n.val) 1).setReg (R.PWM_CNT n.val) 0).setFld (F.PWM_STAT_RFCNT n.val) 0
    let late := s.pwm[(0 : Fin 2)].fresh || decide (s.fld (F.PWM_OFS_OFS 1) < s.fld (F.PWM_CNT_CNT 0))
    let s := setPwm n (fun h => { h with
      fresh := true, resume := true, strNext := false, refresh := false, lastG := Vector.replicate 3 0, lowAge := Vector.replicate 3 0
      base := s.ltime, ripe := none, answered := late }) s
    let s := { s with isn := { s.isn with owed := s.isn.owed.set n.val none, sampled := s.isn.sampled.set n.val true } }
    roundCheck (enqueueCfg 1 (dieDt + n.val) (BitVec.ofNat 36 (pwmDt n s)) s)
  else s.setFld (F.PWM_STAT_CFGERR n.val) 1

/-- One bank stops: an off trip packet for it, the counter stops, and it leaves an open round. -/
def pwmStop (n : Fin 2) (s : State) : State :=
  if s.fldB (F.PWM_CTRL_EN n.val) then
    let s := ((s.setFld (F.PWM_CTRL_EN n.val) 0).setFld (F.PWM_STAT_RUN n.val) 0).setFld (F.PWM_STAT_STRETCH n.val) 0
    let s := setPwm n (fun h => { h with phased := none }) s
    let s := { s with dlk := { s.dlk with edgeQ := s.dlk.edgeQ.set n.val [] (by omega) } }
    let s := sendTrip (some (n.val, 2)) s
    roundCheck s
  else s

/-- EN is cleared; clearing PWM0.EN also stops PWM1 (R221). -/
def pwmDisable (n : Fin 2) (s : State) : State := if n = 0 then pwmStop 1 (pwmStop 0 s) else pwmStop 1 s

def pwmCtrlWrite (n : Fin 2) (v : Word) (s : State) : State := if bit v 0 then pwmEnable n s else pwmDisable n s

/-! Trips (R235, R236) -/

/-- A write of PWMn_CMD latches the software trips. -/
def pwmCmdWrite (n : Fin 2) (v : Word) (s : State) : State :=
  let s := if bit v 0 then s.setFld (F.PWM_TRIP_SWOFF n.val) 1 else s
  if bit v 1 then s.setFld (F.PWM_TRIP_SWSHORT n.val) 1 else s

/-- A dip of latched trip bits; a matrix input that is still routed keeps its bit at 1 (R264). -/
def pwmTripWrite (n : Fin 2) (v : Word) (s : State) : State :=
  matrixEval (s.setReg (R.PWM_TRIP n.val) (s.reg (R.PWM_TRIP n.val) &&& ~~~(v &&& 0xF)))

/-- TRIP_ASSERT: the resolved trip state of bank n takes effect at the generator and goes out as a trip packet; leaving the
trip state waits for a period start. -/
def tripAssert (n : Fin 2) (s : State) : State :=
  let r := resolvedTrip n.val s
  let t := s.fld (F.PWM_STAT_TSTATE n.val)
  if r = 0 ∨ r = t then s
  else
    let c := s.fld (F.PWM_CNT_CNT n.val)
    let low := Vector.ofFn fun i : Fin 3 => if t = 0 ∧ !s.pwm[n].fresh ∧ s.fldB (F.PWM_CTRL_EN n.val) then lowOn n i c s else 0
    let s := sendTrip none (s.setFld (F.PWM_STAT_TSTATE n.val) r)
    let s := setPwm n (fun h => { h with tripD := s.dlk.dtime, tripLow := low }) s
    if t = 0 then pendSrc (42 + 8 * n.val) s else s

/-- An event of the generator of bank n; that of bank 1 has its power domain (R493). -/
def whenBank (n : Fin 2) (f : State → State) (s : State) : State :=
  if n = 0 ∨ maskHas (s.fld F.PWR_DOMST_PWRD) 1 then f s else s

def execTripAssert (n : Fin 2) (s : State) : Host.Outcome State Fault Refusal :=
  .next (whenClocked (whenBank n (tripAssert n)) s)

/-! Interleave at a frame start (R223, R224) -/

/-- The running period of bank n is stretched. -/
def stretchNow (n : Fin 2) (s : State) : State :=
  pushEdges ⟨n.val, by omega⟩ (stretchPackets n s) (s.setFld (F.PWM_STAT_STRETCH n.val) 1)

/-- Bank 1 follows a stretched period of bank 0 with the period that answers it, the running one when it has started
(R221, R224). -/
def stretchBank1 (s : State) : State :=
  if s.fldB (F.PWM_CTRL_EN 1) then
    let s := pendSrc 54 s
    if !s.pwm[(1 : Fin 2)].fresh ∧ s.pwm[(0 : Fin 2)].startD ≤ s.pwm[(1 : Fin 2)].startD then stretchNow 1 s
    else setPwm 1 (fun h => { h with strNext := true }) s
  else s

/-- Slot, re-phasing and stretch of the running period at a frame start: of a member that has not been phased yet, and
later at each change of slot or APER (R223, R224). DESIGN CHOICE: a bank that is enabled while the lane is a member already
takes its slot at the next frame start at which a period runs. -/
def pwmFrameStart (s : State) : State :=
  match slotOf s with
  | none => s
  | some k =>
    let moved := decide (s.fld (F.PWM_STAT_SLOT 0) ≠ k)
    let s := (s.setFld (F.PWM_STAT_SLOT 0) k).setFld (F.PWM_STAT_SLOT 1) k
    let s := if moved && s.fldB (F.PWM_CTRL_EN 1) then pendSrc 54 s else s
    let h := s.pwm[(0 : Fin 2)]
    if s.fldB (F.PWM_CTRL_EN 0) && !h.fresh && (s.isMember || h.phased.isSome) && decide (h.phased ≠ some (k, aper 0 s)) then
      let s := setPwm 0 (fun h => { h with phased := some (k, aper 0 s) }) s
      stretchBank1 (stretchNow 0 (pendSrc 46 s))
    else if moved && s.fldB (F.PWM_CTRL_EN 0) then pendSrc 46 s
    else s

end Sys2Proof.Machine
end

