-- ==== Sys2Proof/Machine/DlkLink.lean ====
section
/-! DEFINITION. The gate-drive die and the packets between the dies (R237 to R263, R268, R547). -/

namespace Sys2Proof.Machine

def setDie (f : DieHidden → DieHidden) (s : State) : State := { s with die := f s.die }
def setDlk (f : DlkHidden → DlkHidden) (s : State) : State := { s with dlk := f s.dlk }

/-! Registers of the die -/

def dieReg (s : State) (a : Nat) : Word := Sparse.get regReset s.die.regs a

/-- A die register takes a value; a change makes it due in a status packet (R248). -/
def dieSetReg (a : Nat) (v : Word) (s : State) : State :=
  if dieReg s a = v then s
  else
    let off := a % 0x1000
    setDie (fun d => { d with
      regs := Sparse.put regReset d.regs a v
      dirty := if d.dirty.contains (0, off) then d.dirty else d.dirty ++ [(0, off)] }) s

def dieFld (s : State) (f : Fld) : Nat := getBits (dieReg s f.addr) f.lo f.w
def dieSetFld (f : Fld) (v : Nat) (s : State) : State := dieSetReg f.addr (putBits (dieReg s f.addr) f.lo f.w v) s

def setBank (n : Fin 2) (f : DieBank → DieBank) (s : State) : State :=
  setDie (fun d => { d with bank := d.bank.set n.val (f d.bank[n]) }) s

/-! Gates: the command lockout (R258) -/

/-- Bits of the high-side and the low-side gate of phase i in a gate state. -/
def hiBit (i : Nat) : Nat := 5 - 2 * i
def loBit (i : Nat) : Nat := 4 - 2 * i

/-- The gate states less every phase whose two gates are both on. -/
def dropOverlap (gs : Nat) : Nat :=
  (List.range 3).foldl (fun g i => if maskHas gs (hiBit i) ∧ maskHas gs (loBit i) then g - 2 ^ hiBit i - 2 ^ loBit i else g) gs

def overlapMask (gs : Nat) : Nat :=
  (List.range 3).foldl (fun m i => if maskHas gs (hiBit i) ∧ maskHas gs (loBit i) then m + 2 ^ i else m) 0

/-- The other gate of the phase of gate bit g. -/
def otherGate (g : Nat) : Nat := if g % 2 = 1 then g - 1 else g + 1

def offTime (b : DieBank) (g : Nat) : Option Nat := (b.offAt.toList.getD g none)

/-- Off times after the gates change from `was` to `now` at time t; the on times with `was` and `now` exchanged. -/
def noteOff (t was now : Nat) (l : Vector (Option Nat) 6) : Vector (Option Nat) 6 :=
  Vector.ofFn fun g : Fin 6 => if maskHas was g.val ∧ !maskHas now g.val then some t else l[g]

/-- Gates that would turn on less than LKT after the other gate of their phase turned off, with the time at which each may
turn on. -/
def tooSoon (lkt t gs : Nat) (b : DieBank) (off : Vector (Option Nat) 6) : List (Nat × Nat) :=
  (List.range 6).filterMap fun g =>
    if maskHas gs g ∧ !maskHas b.gates g then
      match off.toList.getD (otherGate g) none with
      | some t0 => if t < t0 + lkt then some (g, t0 + lkt) else none
      | none => none
    else none

/-- Insert a scheduled state in rising time order, after those of the same time. -/
def insertEdge (e : DieEdge) : List DieEdge → List DieEdge
  | [] => [e]
  | x :: r => if e.at_ < x.at_ then e :: x :: r else x :: insertEdge e r

/-- Apply gate states to bank n at time t through the command lockout. -/
def dieApply (n : Fin 2) (t gs : Nat) (s : State) : State :=
  let ov := overlapMask gs
  let s := if ov = 0 then s else dieSetFld F.GDC_XC_OVL (dieFld s F.GDC_XC_OVL ||| (ov * 8 ^ n.val)) s
  let gs := dropOverlap gs
  let b := s.die.bank[n]
  let lkt := 5 * dieFld s F.GDC_LOCK_LKT
  -- a turn-on that the lockout delays is overtaken by the next gate states
  let queue := b.sched.filter fun e => !e.delayed
  let off := noteOff t b.gates gs b.offAt
  let soon := tooSoon lkt t gs b off
  let now := soon.foldl (fun g x => g - 2 ^ x.1) gs
  let gaps := soon.foldl (fun m x => m ||| 2 ^ (2 - x.1 / 2)) 0
  let s := if gaps = 0 then s else dieSetFld F.GDC_XC_GAP (dieFld s F.GDC_XC_GAP ||| (gaps * 8 ^ n.val)) s
  let later := soon.map fun x => (⟨x.2, gs, true⟩ : DieEdge)
  setBank n (fun b => { b with
    gates := now, offAt := off, onAt := noteOff t now b.gates b.onAt, sched := later.foldl (fun l e => insertEdge e l) queue }) s

/-- The low sides of a bank. -/
def lowSides : Nat := 21

/-- An action on bank n at once: 2 all gates off; 1 high sides off, low sides on DT later (R235, R243). The bank then
ignores edge packets until one with RESUME. -/
def dieAction (n : Fin 2) (act : Nat) (s : State) : State :=
  if act = 0 then s
  else
    let t := s.die.dtime.toNat
    let s := setBank n (fun b => { b with accept := false, discard := false, sched := [] }) s
    if act = 1 then
      let s := dieApply n t (s.die.bank[n].gates &&& lowSides) s
      setBank n (fun b => { b with sched := insertEdge ⟨t + 2 * s.die.dt[n], lowSides, false⟩ b.sched }) s
    else dieApply n t 0 s

/-! The report vector (R260, R261) -/

/-- The report vector of the die changes: an event packet is due (R247). -/
def dieRpt (v : Nat) (s : State) : State :=
  if dieFld s F.GDC_RPT_RPT = v then s
  else setDie (fun d => { d with evDue := true }) (dieSetFld F.GDC_RPT_RPT v s)

/-- A mask without bit k. -/
def maskClr (m k : Nat) : Nat := if maskHas m k then m - 2 ^ k else m

/-- A report bit is set and latched, and stays set for 400 ns at least (R261). -/
def setReport (n : Fin 24) (s : State) : State :=
  let s := setDie (fun d => { d with rptAt := d.rptAt.set n.val d.dtime, relDue := maskClr d.relDue n.val }) s
  dieRpt (dieFld s F.GDC_RPT_RPT ||| 2 ^ n.val) (dieSetFld F.GDC_LATCH_LAT (dieFld s F.GDC_LATCH_LAT ||| 2 ^ n.val) s)

/-- Has bit n been set for 400 ns? -/
def reportHeld (n : Fin 24) (s : State) : Bool := decide (s.die.rptAt[n].toNat + 400 ≤ s.die.dtime.toNat)

/-- A report bit whose release condition holds clears, now or when it has been set for 400 ns. -/
def clearReport (n : Fin 24) (s : State) : State :=
  if !maskHas (dieFld s F.GDC_RPT_RPT) n.val then s
  else if reportHeld n s then dieRpt (maskClr (dieFld s F.GDC_RPT_RPT) n.val) s
  else setDie (fun d => { d with relDue := d.relDue ||| 2 ^ n.val }) s

/-- Report bits that waited for their 400 ns clear. -/
def releaseReports (s : State) : State :=
  if s.die.relDue = 0 then s
  else
    forN 24 (fun i s =>
      if h : i < 24 then
        if maskHas s.die.relDue i && reportHeld ⟨i, h⟩ s then
          clearReport ⟨i, h⟩ (setDie (fun d => { d with relDue := maskClr d.relDue i }) s)
        else s
      else s) s

/-! The chopper output (R257, R268) -/

/-- The chopper output at its pin: commanded and enabled. -/
def chopOut (s : State) : Bool := s.die.chop && decide (dieFld s F.GDC_CTRL_OENCH = 1) && s.die.powered

/-- The chopper effect monitor follows the output: it records VMS when the output turns on, and CHOPNF ends when it turns
off. -/
def chopTrack (s : State) : State :=
  match s.die.chopAt, chopOut s with
  | none, true => setDie (fun d => { d with chopAt := some (d.dtime, d.vms) }) s
  | some _, false => clearReport 18 (setDie (fun d => { d with chopAt := none }) s)
  | _, _ => s

/-- The chopper gate takes a state. -/
def dieChop (on : Bool) (s : State) : State := chopTrack (setDie (fun d => { d with chop := on }) s)

/-- A gate output of bank n at its pin: commanded and enabled (R257). -/
def gateOut (s : State) (n : Fin 2) (g : Nat) : Bool :=
  maskHas s.die.bank[n].gates g && decide (dieFld s (if n = 0 then F.GDC_CTRL_OEN0 else F.GDC_CTRL_OEN1) = 1)
    && s.die.powered

/-! Packets from the controller die -/

/-- The controller die discards a packet with a CRC error and counts it. -/
def crcError (s : State) : State := pendSrc 58 (s.incFld F.DLK_ERRCNT_CRC)

/-- The die discards a packet with a CRC error and reports the error in its status (R244). -/
def dieCrcError (s : State) : State := markDie (1, dieErrors) (setDie (fun d => { d with crcN := d.crcN + 1 }) s)

/-- A packet goes over the line downstream, or upstream. -/
def sendDown (p : LinkPkt) (s : State) : State := setDlk (fun d => { d with downLine := some p }) s
def sendUp (p : LinkPkt) (s : State) : State := setDlk (fun d => { d with upLine := some p }) s

/-- May the transmitter start an edge packet: no trip packet waits, and no period start lies less than 64 ns ahead; a TSYNC:
no edge packet waits either; a configuration write: no TSYNC is due either (R241). -/
def edgeTurn (s : State) : Bool := s.dlk.tripQ.isEmpty && !guardWindow s
def tsyncTurn (s : State) : Bool := edgeTurn s && s.dlk.edgeQ.toList.all (·.isEmpty)
def cfgTurn (s : State) : Bool := tsyncTurn s && decide (s.dlk.dtime < s.dlk.tsyncAt)

/-- The DTIME that a packet's ETIME names, within 2^19 ns of its arrival (R239). -/
def fullTime (now etime : Nat) : Nat :=
  let d := (etime + 2 ^ 20 - now % 2 ^ 20) % 2 ^ 20
  if d < 2 ^ 19 then now + d else now + d - 2 ^ 20

/-- A late packet is executed at its arrival, and counted for DLK_LATE (R242). -/
def noteLate (t : Nat) (s : State) : State × Nat :=
  let now := s.die.dtime.toNat
  if t < now then (markDie (1, dieErrors) (setDie (fun d => { d with lateN := d.lateN + 1 }) s), now) else (s, t)

/-- The die takes a good edge packet of bank n. -/
def takeEdge (n : Fin 2) (p : EdgePkt) (s : State) : State :=
  let b := s.die.bank[n]
  if s.die.patHeld || (!b.accept && !p.resume) || (b.discard && !p.first) then s
  else
    let (s, t) := noteLate (fullTime s.die.dtime.toNat p.etime) s
    setBank n (fun b => { b with accept := true, discard := false, sched := insertEdge ⟨t, p.gs, false⟩ b.sched }) s

/-- EDGE_PACKET of bank 0, bank 1 or the chopper: in the transmitter's turn the oldest packet goes over the link and is
decoded; with a CRC error it is discarded and the bank goes all off until the next packet with FIRST (R241, R244). -/
def edgePacket (q : Fin 3) (crcOk : Bool) (s : State) : State :=
  match s.dlk.edgeQ[q] with
  | [] => s
  | p :: r =>
    if !edgeTurn s then s
    else
    let s := sendDown (edgePkt q p) (setDlk (fun d => { d with edgeQ := d.edgeQ.set q.val r }) s)
    if !s.die.powered then s
    else if h : q.val < 2 then
      let n : Fin 2 := ⟨q.val, h⟩
      if crcOk then takeEdge n p s
      else
        let s := setBank n (fun b => { b with discard := true }) (dieCrcError s)
        if s.die.bank[n].accept then dieApply n s.die.dtime.toNat 0 (setBank n (fun b => { b with sched := [] }) s) else s
    else if !crcOk then dieCrcError s
    else if s.die.patHeld then s
    else
      let (s, t) := noteLate (fullTime s.die.dtime.toNat p.etime) s
      setDie (fun d => { d with chopSched := insertEdge ⟨t, p.gs, false⟩ d.chopSched }) s

def execEdgePacket (q : Fin 3) (crcOk : Bool) (s : State) : Host.Outcome State Fault Refusal := .next (edgePacket q crcOk s)

/-- EDGE_EXECUTION: the earliest scheduled state of the bank takes effect once the die's DTIME has reached it (R240). -/
def edgeExecution (q : Fin 3) (s : State) : State :=
  if h : q.val < 2 then
    let n : Fin 2 := ⟨q.val, h⟩
    match s.die.bank[n].sched with
    | [] => s
    | e :: r =>
      if s.die.dtime.toNat < e.at_ then s
      else dieApply n e.at_ e.gs (setBank n (fun b => { b with sched := r }) s)
  else
    match s.die.chopSched with
    | [] => s
    | e :: r =>
      if s.die.dtime.toNat < e.at_ then s
      else dieChop (decide (32 ≤ e.gs)) (setDie (fun d => { d with chopSched := r }) s)

def execEdgeExecution (q : Fin 3) (s : State) : Host.Outcome State Fault Refusal := .next (edgeExecution q s)

/-- TRIP_PACKET: the oldest trip packet on the link is applied on decode (R243). -/
def tripPacket (crcOk : Bool) (s : State) : State :=
  match s.dlk.tripQ with
  | [] => s
  | o :: r =>
    let s := sendDown (tripPkt o) (setDlk (fun d => { d with tripQ := r }) s)
    if !s.die.powered then s
    else if !crcOk then dieCrcError s
    else if s.die.patHeld then s
    else
      let s := dieAction 1 (o / 4 % 4) (dieAction 0 (o % 4) s)
      if maskHas o 4 then dieChop false (setDie (fun d => { d with chopSched := [] }) s) else s

def execTripPacket (crcOk : Bool) (s : State) : Host.Outcome State Fault Refusal := .next (tripPacket crcOk s)

/-! Configuration writes (R244, R248, R375) -/

/-- A safety output of the die is switched. -/
def dieOutput (o : Nat) (on : Bool) (s : State) : State :=
  let put := fun (m : Nat) => if on then m ||| 2 ^ o else m - (if maskHas m o then 2 ^ o else 0)
  markOutputs (setDie (fun d => { d with soCmd := put d.soCmd }) s)

/-- The die applies a write to one of its registers. -/
def dieWrite (w : CfgWrite) (s : State) : State :=
  if w.space = 1 then
    if w.off = dieLlpat then setDie (fun d => { d with llpat := getBits w.data 0 4 }) s
    else if w.off = dieDt then setDie (fun d => { d with dt := d.dt.set 0 (getBits w.data 0 9) }) s
    else if w.off = dieDt + 1 then setDie (fun d => { d with dt := d.dt.set 1 (getBits w.data 0 9) }) s
    else if w.off = dieSafetyOut then dieOutput (getBits w.data 0 4) (bit w.data 4) s
    else s
  else
    let a := 0x823000 + w.off
    match regRow? a with
    | none => s
    | some r =>
      let old := dieReg s a
      let rw := BitVec.ofNat 36 r.rw
      chopTrack <| dieSetReg a (((old &&& ~~~rw) ||| (w.data &&& rw)) &&& ~~~(w.data &&& BitVec.ofNat 36 r.w1c)) s

/-- The die applies writes in order: it takes the write after the last one applied, and no other (R244). -/
def dieTakes (w : CfgWrite) (s : State) : State :=
  if s.die.powered && decide (w.seq = (s.die.lastSeq + 1) % 8) then
    dieWrite w (setDie (fun d => { d with lastSeq := w.seq }) s)
  else s

/-- The next write to send: a safety-output command ahead of every queued write (R375). -/
def nextWrite (s : State) : Option (CfgWrite × DlkHidden) :=
  match s.dlk.soPend, s.dlk.cfgQ with
  | (o, on) :: r, _ => some (⟨1, dieSafetyOut, BitVec.ofNat 36 (o + 16 * b2n on), 0, 0, 0⟩, { s.dlk with soPend := r })
  | [], w :: r => some (w, { s.dlk with cfgQ := r })
  | [], [] => none

/-- A configuration write goes over the link, and the die applies it unless its CRC fails. -/
def sendCfg (w : CfgWrite) (crcOk : Bool) (s : State) : State :=
  let s := sendDown (cfgPkt w) s
  if crcOk then dieTakes w s else if s.die.powered then dieCrcError s else s

/-- CONFIGURATION_WRITE: in the transmitter's turn the next write is sent under the next SEQ, at most seven being
unacknowledged (R241, R244). -/
def configurationWrite (crcOk : Bool) (s : State) : State :=
  if linkUp s && cfgTurn s && decide (s.dlk.cfgSent.length < 7) then
    match nextWrite s with
    | none => s
    | some (w, d) =>
      let w := { w with seq := d.nextSeq, sentAt := d.dtime }
      sendCfg w crcOk
        (updateLevel { s with dlk := { d with nextSeq := (d.nextSeq + 1) % 8, cfgSent := d.cfgSent ++ [w] } })
  else s

def execConfigurationWrite (crcOk : Bool) (s : State) : Host.Outcome State Fault Refusal :=
  .next (whenClocked (configurationWrite crcOk) s)

/-- CONFIGURATION_REPEAT: 800 ns without acknowledgement of the oldest sent write; after three repeats CFGF (R244). -/
def configurationRepeat (crcOk : Bool) (s : State) : State :=
  match s.dlk.cfgSent with
  | [] => s
  | w :: r =>
    if !linkUp s || !passed s w.sentAt 800 then s
    else if 3 ≤ w.tries then pendSrc 60 (s.setFld F.DLK_CFGQ_CFGF 1)
    else if !cfgTurn s then s
    else
      let w := { w with tries := w.tries + 1, sentAt := s.dlk.dtime }
      sendCfg w crcOk (setDlk (fun d => { d with cfgSent := w :: r }) s)

def execConfigurationRepeat (crcOk : Bool) (s : State) : Host.Outcome State Fault Refusal :=
  .next (whenClocked (configurationRepeat crcOk) s)

/-- An ACK frees every write up to the one it names (R244). -/
def takeAck (ack : Nat) (s : State) : State :=
  if s.dlk.cfgSent.any fun w => w.seq == ack then
    updateLevel (setDlk (fun d => { d with cfgSent := (d.cfgSent.dropWhile fun w => w.seq != ack).drop 1 }) s)
  else s

/-! Time and bring-up -/

/-- The DTIME after `at_` at which a TSYNC falls due next: every 1.6 µs (R241). -/
def tsyncNext (at_ now : DWord) : DWord := at_ + BitVec.ofNat 72 (1600 * ((now.toNat - at_.toNat) / 1600 + 1))

/-- TSYNC_SEND: a TSYNC is due, and in the transmitter's turn it goes out with the controller's DTIME at the start symbol
(R241). -/
def tsyncSend (s : State) : State :=
  if linkUp s && tsyncTurn s && decide (s.dlk.tsyncAt ≤ s.dlk.dtime) then
    sendDown (tsyncPkt s.dlk.dtime)
      (setDlk (fun d => { d with tsync := some d.dtime, tsyncAt := tsyncNext d.tsyncAt d.dtime }) s)
  else s

def execTsyncSend (s : State) : Host.Outcome State Fault Refusal := .next (whenClocked tsyncSend s)

/-- The value modulo 2^24 of t that lies nearest to `near`: TSYNC carries DTIME[23:0] (R239). -/
def nearestTime (near : DWord) (t : Int) : DWord :=
  let d := (t - near.toNat) % 2 ^ 24
  BitVec.ofInt 72 (near.toNat + (if d < 2 ^ 23 then d else d - 2 ^ 24))

/-- TSYNC, over a link whose delay is `delay` ns this time: the die allows for the delay measured at bring-up, and sets its
copy of DTIME to the controller's within 1 ns; one that is more than 2 ns off its own is counted and not taken, unless it is
the first since the training (R238, R249). -/
def tsyncRx (crcOk : Bool) (delay : BitVec 10) (s : State) : State :=
  match s.dlk.tsync with
  | none => s
  | some _ =>
    let s := setDlk (fun d => { d with tsync := none }) s
    if !s.die.powered then s
    else if !crcOk then dieCrcError s
    else
      let err : Int := s.fld F.DLK_LDLY_DLY - delay.toNat
      let told := nearestTime s.die.dtime (s.dlk.dtime.toNat + err)
      let off := (told.toNat - s.die.dtime.toNat : Int).natAbs
      let s := setDie (fun d => { d with tsBad := if 2 < off ∧ d.tsAt.isSome then d.tsBad + 1 else 0 }) s
      if s.die.tsBad = 0 then
        let t := nearestTime s.die.dtime (s.dlk.dtime.toNat + max (-1) (min 1 err))
        setDie (fun d => { d with dtime := t, tsAt := some t }) s
      else setDie (fun d => { d with tsAt := some d.dtime }) s

def execTsync (crcOk : Bool) (delay : BitVec 10) (s : State) : Host.Outcome State Fault Refusal := .next (tsyncRx crcOk delay s)

/-- Has the stop of 1.0 µs passed (R250)? -/
def stopOver (s : State) : Bool :=
  match s.dlk.stopAt with
  | some t => passed s t 1000
  | none => true

/-- LINK_RETRAIN: the stop is over, or the lane reset is released, and the link trains (R250, R251). The training after a
lane reset disables the outputs (R257). -/
def linkRetrain (s : State) : State :=
  if s.fldB F.DLK_CTRL_EN && decide (s.fld F.DLK_STAT_LSTATE = llDown) && decide (s.lstate ≠ lsOffline)
      && decide (s.lstate ≠ lsStruck) && stopOver s then
    let s := s.setFld F.DLK_STAT_LSTATE llTraining
    if s.die.powered then
      let s := dieSetFld F.GDC_STAT_DSTATE 1 (setDie (fun d => { d with tsAt := none, tsBad := 0 }) s)
      if s.dlk.patNext then s else chopTrack (dieSetReg R.GDC_CTRL 0 s)
    else s
  else s

def execLinkRetrain (s : State) : Host.Outcome State Fault Refusal := .next (whenClocked linkRetrain s)

/-- HELLO in each direction, after the link delay has been measured (R251): this lane sends 1.0, and the die its protocol
version; a major other than 1 leaves the link in state 2 with VERR and the gates all off. -/
def helloRx (vmaj vmin : BitVec 4) (dly : BitVec 10) (s : State) : State :=
  if s.fld F.DLK_STAT_LSTATE = llTraining ∧ s.die.powered then
    let s := sendUp (helloPkt vmaj vmin) (sendDown (helloPkt 1 0) (s.setFld F.DLK_LDLY_DLY dly.toNat))
    let s := ((s.setFld F.DLK_STAT_LSTATE llVersion).setFld F.DLK_STAT_DVMAJ vmaj.toNat).setFld F.DLK_STAT_VMIN 0
    let s := dieSetReg R.GDC_VER (BitVec.ofNat 36 (vmin.toNat + 16 * vmaj.toNat + 256 * 2)) s
    if vmaj = 1 then s.setFld F.DLK_STAT_VERR 0
    else dieAction 1 2 (dieAction 0 2 (pendSrc 59 (s.setFld F.DLK_STAT_VERR 1)))
  else s

def execHello (vmaj vmin : BitVec 4) (dly : BitVec 10) (s : State) : Host.Outcome State Fault Refusal :=
  .next (whenClocked (helloRx vmaj vmin dly) s)

/-- Registers of the die after a training that follows a lane reset: reset values, outputs disabled, no pattern held
(R250, R257, R273); its identity is the one of its HELLO, and due in a status packet. -/
def dieAfterLaneReset (s : State) : State :=
  let ver := dieReg s R.GDC_VER
  let s := dieSetReg R.GDC_VER ver (setDie (fun d => { d with
    regs := [], dirty := [(1, dieSafetyOut), (1, dieHalyard)], patHeld := false, lastSeq := 7, relDue := 0 }) s)
  (List.range 0x18).foldl (fun s o => s.setReg (0x823000 + o) (regReset (0x823000 + o))) s

/-- The trip state of a tripped bank goes out again, since the die has kept none across the training (DEDUCED from R165,
R235). -/
def tripAgain (s : State) : State :=
  if s.fld F.DLK_STAT_LSTATE = llUp ∧ (s.fld (F.PWM_STAT_TSTATE 0) ≠ 0 ∨ s.fld (F.PWM_STAT_TSTATE 1) ≠ 0) then
    sendTrip none s
  else s

/-- LINK_UP (R250, R251): the pattern is held except after a lane reset; a TSYNC is due. -/
def linkUpEvent (s : State) : State :=
  if s.fld F.DLK_STAT_LSTATE = llVersion ∧ !s.fldB F.DLK_STAT_VERR ∧ s.die.powered then
    let s := setDlk (fun d => { d with tsyncAt := d.dtime }) s
    let s :=
      if s.dlk.patNext then
        dieSetFld F.GDC_STAT_DSTATE 3 (setDie (fun d => { d with patHeld := true, lastSeq := 7 })
          (s.setFld F.DLK_STAT_LSTATE llHeld))
      else dieSetFld F.GDC_STAT_DSTATE 2 (dieAfterLaneReset (s.setFld F.DLK_STAT_LSTATE llUp))
    tripAgain (pendSrc 56 (dieSetFld F.GDC_STAT_VGDOK 1 s))
  else s

def execLinkUp (s : State) : Host.Outcome State Fault Refusal := .next (whenClocked linkUpEvent s)

/-! Link loss (R249, R250) -/

/-- Code errors that the die has seen are due in its report (R253). -/
def dieCodeErrors (n : Nat) (s : State) : State :=
  if n = 0 then s else markDie (1, dieErrors) (setDie (fun d => { d with codeN := d.codeN + n }) s)

/-- Does the die declare loss (R249): no line transition for 64 ns, four code or disparity errors within 16 symbols, no valid
TSYNC for 5.0 µs, or three in a row more than 2 ns off? -/
def lossDeclared (quiet : Bool) (dcode : Nat) (s : State) : Bool :=
  quiet || decide (4 ≤ dcode) || decide (3 ≤ s.die.tsBad)
    || (match s.die.tsAt with
        | some t => decide (t.toNat + 5000 ≤ s.die.dtime.toNat)
        | none => false)

/-- LINK_LOSS: `dcode` code or disparity errors within 16 symbols, or a quiet line, at the die; when it declares loss, it
applies the pattern of each bank, the chopper off and the safety outputs off. -/
def linkLoss (quiet : Bool) (dcode : Nat) (s : State) : State :=
  if !s.die.powered then s
  else if !lossDeclared quiet dcode s then dieCodeErrors dcode s
  else
    let s := setDie (fun d => { d with tsAt := none, tsBad := 0 }) (dieCodeErrors dcode s)
    let act := fun (code : Nat) => if code = 1 then 1 else 2
    let s := dieAction 1 (act (s.die.llpat / 4 % 4)) (dieAction 0 (act (s.die.llpat % 4)) s)
    let s := dieChop false (setDie (fun d => { d with chopSched := [], patHeld := true }) s)
    let s := markOutputs (setDie (fun d => { d with soCmd := 0 }) s)
    dieSetFld F.GDC_STAT_DSTATE 3 s

def execLinkLoss (quiet : Bool) (dcode : Nat) (s : State) : Host.Outcome State Fault Refusal := .next (linkLoss quiet dcode s)

/-- Transmission stops, and the pattern is held after the next training (R250). -/
def stopAndHold (s : State) : State := setDlk (fun d => { d with patNext := true }) (stopDlk s)

/-- CONTROLLER_LINK_LOSS: `ucode` code or disparity errors within 16 symbols upstream, or a quiet line; a loss stops
transmission, and the upstream packets on their way are gone (R250). -/
def controllerLinkLoss (quiet : Bool) (ucode : Nat) (s : State) : State :=
  let s := if ucode = 0 then s else s.incFld F.DLK_ERRCNT_UCODE ucode
  if s.fld F.DLK_STAT_LSTATE = llDown ∨ !(quiet || decide (4 ≤ ucode)) then s
  else
    let s := setDlk (fun d => { d with upBits := none, upEvent := none, upStatus := [] }) (s.incFld F.DLK_LLCNT_CNT)
    stopAndHold (pendSrc 57 (hoistFlag 36 s))

def execControllerLinkLoss (quiet : Bool) (ucode : Nat) (s : State) : Host.Outcome State Fault Refusal :=
  .next (whenClocked (controllerLinkLoss quiet ucode) s)

/-- DLK_CMD.LLREL (R250). -/
def llrel (s : State) : State :=
  if s.fld F.DLK_STAT_LSTATE = llHeld then
    let s := setDie (fun d => { d with patHeld := false }) (s.setFld F.DLK_STAT_LSTATE llUp)
    tripAgain (dieSetFld F.GDC_STAT_DSTATE 2 (forN 2 (fun n s =>
      if h : n < 2 then setPwm ⟨n, h⟩ (fun p => { p with resume := true }) s else s) s))
  else s

/-- A write of DLK_CMD (R253). -/
def dlkCmd (v : Word) (s : State) : State :=
  let s := if bit v 0 then llrel s else s
  if bit v 1 then stopAndHold (s.setFld F.DLK_CFGQ_CFGF 0) else s

/-- A write of DLK_CTRL (R253): EN = 0 stops transmission. -/
def dlkCtrlWrite (v : Word) (s : State) : State :=
  if bit v 0 then s.setFld F.DLK_CTRL_EN 1
  else if s.fldB F.DLK_CTRL_EN then stopAndHold (s.setFld F.DLK_CTRL_EN 0) else s

/-- A write of DLK_LLPAT (R253): a code 1xb leaves its bank's pattern; the pattern is copied to the die. -/
def dlkLlpatWrite (v : Word) (s : State) : State :=
  let s := if bit v 1 then s else s.setFld F.DLK_LLPAT_LB0 (getBits v 0 2)
  let s := if bit v 3 then s else s.setFld F.DLK_LLPAT_LB1 (getBits v 2 2)
  enqueueCfg 1 dieLlpat (s.reg R.DLK_LLPAT) s

/-! Monitors (R260, R261, R268) -/

/-- A setting outside its range acts as the nearest end of the range. -/
def clampTo (lo hi x : Nat) : Nat := Nat.max lo (Nat.min hi x)

/-- 20.0 V + code × 0.5 V in mV, codes 0 to 150. -/
def ovMv (code : Nat) : Nat := 20000 + 500 * Nat.min code 150

/-- CHOFF in mV: CHON − 1.0 V whenever it is not below CHON. -/
def choffMv (s : State) : Nat :=
  let on := ovMv (dieFld s F.GDC_CHOP_CHON)
  let off := ovMv (dieFld s F.GDC_CHOP_CHOFF)
  if off < on then off else on - 1000

/-- Threshold of report bit n: the condition holds above it for bits 0 to 17 and 23, and below it for bits 19 to 22. Units are mV,
and °C + 40 for bit 23. -/
def threshold (n : Nat) (s : State) : Nat :=
  if n < 12 then 100 * clampTo 2 20 (dieFld s (F.GDC_DESAT_THR (n / 6)))
  else if n < 14 then 25 * (dieFld s F.GDC_OCP_THR + 1)
  else if n = 14 then 25 * (dieFld s F.GDC_OCP_THRB + 1)
  else if n = 15 then ovMv (dieFld s F.GDC_OV_OV1)
  else if n = 16 then ovMv (dieFld s F.GDC_OV_OV2)
  else if n = 17 then ovMv (dieFld s F.GDC_CHOP_CHON)
  else if n = 19 ∨ n = 20 then 7000 + 200 * dieFld s F.GDC_UV_BSTUV
  else if n = 21 then 5000 + 500 * clampTo 0 70 (dieFld s F.GDC_UV_BUSUV)
  else if n = 22 then (if dieFld s F.GDC_UV_VGDSEL = 1 then 10500 else 9500)
  else clampTo 140 205 (dieFld s F.GDC_TEMP_TW)

/-- Filter time of report bit n in ns. -/
def filterNs (n : Nat) (s : State) : Nat :=
  if n < 12 then 100 * 2 ^ dieFld s (F.GDC_DESAT_FILT (n / 6))
  else if n < 15 then 100 * 2 ^ dieFld s F.GDC_OCP_FILT
  else if n = 15 then 500 * 2 ^ dieFld s F.GDC_OV_F1
  else if n = 16 then 500 * 2 ^ dieFld s F.GDC_OV_F2
  else if n = 17 then 500
  else if n = 19 ∨ n = 20 then 2000
  else if n = 23 then 100000
  else 10000

/-- The bank and the gate of the switch of DESAT bit n. -/
def desatBank (n : Nat) : Fin 2 := Fin.ofNat 2 (n / 6)
def desatGate (n : Nat) : Nat := 5 - n % 6

/-- Has a gate that is on been on for t ns? -/
def onFor (b : Fin 2) (g t : Nat) (s : State) : Bool :=
  match s.die.bank[b].onAt.toList.getD g none with
  | some t0 => decide (t0 + t ≤ s.die.dtime.toNat)
  | none => true

/-- Is the monitor of bit n evaluated now: a switch commanded on for the blanking time; a bootstrap 2 µs after a turn-on of
its high side? -/
def evaluated (n : Fin 24) (ph : Fin 3) (s : State) : Bool :=
  if n.val < 12 then
    maskHas s.die.bank[desatBank n.val].gates (desatGate n.val)
      && onFor (desatBank n.val) (desatGate n.val) (250 * clampTo 2 16 (dieFld s (F.GDC_DESAT_BLANK (n.val / 6)))) s
  else if n.val = 19 ∨ n.val = 20 then onFor (Fin.ofNat 2 (n.val - 19)) (hiBit ph.val) 2000 s
  else true

/-- The condition of bit n at a level, and its release condition (R260). -/
def conditionOf (n : Fin 24) (level : Nat) (s : State) : Bool :=
  if 19 ≤ n.val ∧ n.val ≤ 22 then decide (level < threshold n.val s) else decide (threshold n.val s < level)

def releaseOf (n : Fin 24) (level : Nat) (s : State) : Bool :=
  let t := threshold n.val s
  if n.val < 12 then decide (level < t) || !maskHas s.die.bank[desatBank n.val].gates (desatGate n.val)
  else if n.val < 15 then decide (level < t)
  else if n.val ≤ 16 then decide (level + 1000 < t)
  else if n.val = 17 then decide (level < choffMv s)
  else if n.val = 21 then decide (t + 500 < level)
  else if n.val = 23 then decide (level + 5 < t)
  else decide (t + 300 < level)

/-- Levels of VMS reach the chopper effect monitor too. -/
def noteVms (n : Fin 24) (level : Nat) (s : State) : State :=
  if 15 ≤ n.val ∧ n.val ≤ 17 ∨ n.val = 21 then setDie (fun d => { d with vms := level }) s else s

/-- MONITOR_REPORT: the measured quantity of bit n, for a bootstrap that of phase ph, has been at `level` or beyond it for `held`
ns: the bit is set when the condition has held for the filter time against the present threshold (R260, R269). CHOPNF is
set by CHOPPER_EFFECT_CHECK. -/
def monitorReport (n : Fin 24) (ph : Fin 3) (level held : Nat) (s : State) : State :=
  if !s.die.powered then s
  else
    let s := noteVms n level s
    if n.val ≠ 18 && evaluated n ph s && conditionOf n level s && decide (filterNs n.val s ≤ held) then
      setReport n (if n.val = 19 ∨ n.val = 20 then
        dieSetFld F.GDC_BSTAT_BUV (dieFld s F.GDC_BSTAT_BUV ||| 2 ^ (3 * (n.val - 19) + ph.val)) s else s)
    else s

def execMonitorReport (n : Fin 24) (ph : Fin 3) (level held : Nat) (s : State) : Host.Outcome State Fault Refusal :=
  .next (monitorReport n ph level held s)

/-- MONITOR_RELEASE: the release condition of bit n has held for the filter time; a bootstrap bit clears when no phase of its
bank is left. -/
def monitorRelease (n : Fin 24) (ph : Fin 3) (level held : Nat) (s : State) : State :=
  if !s.die.powered then s
  else
    let s := noteVms n level s
    if n.val ≠ 18 && releaseOf n level s && decide (filterNs n.val s ≤ held) then
      let s := if n.val = 19 ∨ n.val = 20 then
          dieSetFld F.GDC_BSTAT_BUV (maskClr (dieFld s F.GDC_BSTAT_BUV) (3 * (n.val - 19) + ph.val)) s else s
      let more := (n.val = 19 ∧ dieFld s F.GDC_BSTAT_BUV % 8 ≠ 0) ∨ (n.val = 20 ∧ dieFld s F.GDC_BSTAT_BUV / 8 ≠ 0)
      if more then s else clearReport n s
    else s

def execMonitorRelease (n : Fin 24) (ph : Fin 3) (level held : Nat) (s : State) : Host.Outcome State Fault Refusal :=
  .next (monitorRelease n ph level held s)

/-- CHOPPER_EFFECT_CHECK: with the output on for CHT µs, CHOPNF is set when VMS has not fallen by CHDV since the turn-on
(R268). -/
def chopperEffectCheck (vms : Nat) (s : State) : State :=
  let s := setDie (fun d => { d with vms := vms }) s
  match s.die.chopAt with
  | some (t, v) =>
    if chopOut s && decide (t.toNat + 1000 * Nat.max 1 (dieFld s F.GDC_CHOP_CHT) ≤ s.die.dtime.toNat)
        && decide (v < vms + 100 * Nat.max 1 (dieFld s F.GDC_CHOP_CHDV)) then setReport 18 s
    else s
  | none => s

def execChopperEffectCheck (vms : Nat) (s : State) : Host.Outcome State Fault Refusal := .next (chopperEffectCheck vms s)

/-! Packets to the controller die (R245 to R248) -/

/-- Registers that the die reports in turn: SPACE and offset. -/
def dieRegList : List (Nat × Nat) :=
  ((List.range 14).map fun o => (0, o)) ++ ((List.range 8).map fun o => (0, 0x10 + o)) ++ [(1, dieSafetyOut), (1, dieHalyard), (1, dieErrors)]

/-- Value of a die register in a status packet. -/
def dieValue (s : State) (r : Nat × Nat) : Word :=
  if r.1 = 1 then
    if r.2 = dieHalyard then dieHalyardWord s else if r.2 = dieErrors then dieErrorsWord s else dieOutputs s
  else dieReg s (0x823000 + r.2)

/-- Does the die report: powered, and past its training (R249)? -/
def dieReports (s : State) : Bool := s.die.powered && decide (2 ≤ dieFld s F.GDC_STAT_DSTATE)

/-- The levels of the safety-output pins as sampled; a change is reported (R375). -/
def notePins (pins : Nat) (s : State) : State :=
  if s.die.pins = pins then s else markOutputs (setDie (fun d => { d with pins := pins }) s)

/-- UPSTREAM_SLOT: the die samples its modulators, measurements and safety-output pins and sends the slot's packets: the
bitstream, an event packet when the report vector changed or is not 0, and one status packet, changed registers first. The
error counts start afresh with their report. -/
def upstreamSlot (octets : List (BitVec 8)) (vbus vgd : BitVec 12) (tdie : BitVec 9) (pins : BitVec 4) (s : State) : State :=
  if dieReports s then
    let s := notePins pins.toNat (setDie (fun d => { d with vms := 25 * vbus.toNat }) s)
    let s := dieSetFld F.GDC_VBUS_V vbus.toNat (dieSetFld F.GDC_VGD_V vgd.toNat (dieSetFld F.GDC_TDIE_T tdie.toNat s))
    let ev := s.die.evDue || decide (dieFld s F.GDC_RPT_RPT ≠ 0)
    let r := match s.die.dirty with
      | x :: _ => x
      | [] => dieRegList.getD s.die.rr (0, 0)
    let st := (r.1, r.2, s.die.lastSeq, dieValue s r)
    let s := setDlk (fun d => { d with
      upBits := some (s.die.bitSeq, octets.take 7)
      upEvent := if ev then some (dieFld s F.GDC_RPT_RPT) else none
      upStatus := [st] }) s
    let s := if r = (1, dieErrors) then setDie (fun d => { d with lateN := 0, codeN := 0, crcN := 0 }) s else s
    setDie (fun d => { d with
      evDue := false, bitSeq := (d.bitSeq + 1) % 256, dirty := d.dirty.drop 1
      rr := if d.dirty.isEmpty then (d.rr + 1) % dieRegList.length else d.rr }) s
  else s

def execUpstreamSlot (octets : List (BitVec 8)) (vbus vgd : BitVec 12) (tdie : BitVec 9) (pins : BitVec 4) (s : State) :
    Host.Outcome State Fault Refusal := .next (upstreamSlot octets vbus vgd tdie pins s)

/-- The bunting flag of report bit n (R263). -/
def reportFlag (n : Nat) : Option Nat :=
  if n < 12 then some 42 else if n < 15 then some 43 else if n = 15 then some 37 else if n = 16 then some 38
  else if n = 18 then some 39 else if n = 19 ∨ n = 20 then some 40 else if n = 21 then some 44
  else if n = 22 then some 46 else if n = 23 then some 45 else none

/-- A report vector reaches the controller die (R261, R263, R264). -/
def takeReport (v : Nat) (s : State) : State :=
  let was := s.fld F.GDC_RPT_RPT
  let s := s.setFld F.GDC_RPT_RPT v
  let s := forN 24 (fun n s =>
    if maskHas v n && !maskHas was n then
      let s := if n < 12 then s.incFld F.GDC_DSCNT_CNT else s
      match reportFlag n with
      | some f => hoistFlag f s
      | none => s
    else s) s
  matrixEval s

/-- The event packet on the link: the slot's first, or one for a report that fell due later in the slot (R245). -/
def eventDue (s : State) : Option Nat :=
  match s.dlk.upEvent with
  | some v => some v
  | none =>
    if s.die.evDue && dieReports s then some (dieFld s F.GDC_RPT_RPT) else none

/-- EVENT_PACKET, after the slot's bitstream packet (R245). -/
def eventPacket (crcOk : Bool) (s : State) : State :=
  match eventDue s with
  | none => s
  | some v =>
    if s.dlk.upBits.isSome then s
    else
    let s := sendUp (eventPkt v) s
    let s := if s.dlk.upEvent.isNone then setDie (fun d => { d with evDue := false }) s else s
    let s := setDlk (fun d => { d with upEvent := none }) s
    if crcOk then takeReport v (pendSrc 61 s) else crcError s

def execEventPacket (crcOk : Bool) (s : State) : Host.Outcome State Fault Refusal := .next (whenClocked (eventPacket crcOk) s)

/-- New overlap bits of GDC_XC hoist XCOND, are counted and pend source 88 (R263, R273, R275). -/
def takeXc (v : Word) (s : State) : State :=
  let was := s.fld F.GDC_XC_OVL
  let s := s.setReg R.GDC_XC v
  let fresh := popNat 6 (getBits v 0 6 &&& (63 - was))
  if fresh = 0 then s else pendSrc 88 (hoistFlag 41 (s.incFld F.GDC_XCCNT_CNT fresh))

/-- The halyard as the die observes it reaches HAL_STAT (R17, R189). -/
def takeHalyard (v : Word) (s : State) : State :=
  (s.setFld F.HAL_STAT_GOBS (getBits v 0 3)).setFld F.HAL_STAT_SHEN (getBits v 3 1)

/-- The die's error counts reach DLK_LATE and DLK_ERRCNT (R242, R244, R253). -/
def takeErrors (v : Word) (s : State) : State :=
  let late := getBits v 0 12
  let crc := getBits v 24 12
  let s := s.incFld F.DLK_ERRCNT_DCODE (getBits v 12 12)
  let s := if late = 0 then s else pendSrc 62 (s.incFld F.DLK_LATE_CNT late)
  if crc = 0 then s else pendSrc 58 (s.incFld F.DLK_ERRCNT_CRC crc)

/-- A status packet's register value reaches its image (R248); the bus voltage also brings ISN_VBUS (R294). -/
def takeStatus (space off : Nat) (v : Word) (s : State) : State :=
  if space = 1 then
    if off = dieHalyard then takeHalyard v s else if off = dieErrors then takeErrors v s else sioTakeStatus v s
  else if off = 0x10 then takeReport (getBits v 0 24) s
  else if off = 0x13 then takeXc v s
  else if off = 0x14 then
    let code := getBits v 0 12
    (s.setReg R.GDC_VBUS v).setReg R.ISN_VBUS (wrap36 (sat36 (code * (s.reg R.ISN_VGAIN).toInt)))
  else s.setReg (0x823000 + off) v

/-- STATUS_PACKET, after the slot's bitstream packet and any event packet due (R245). -/
def statusPacket (crcOk : Bool) (s : State) : State :=
  match s.dlk.upStatus with
  | [] => s
  | (space, off, ack, v) :: r =>
    if s.dlk.upBits.isSome ∨ (eventDue s).isSome then s
    else
    let s := sendUp (statusPkt space off ack v) s
    let s := setDlk (fun d => { d with upStatus := r }) s
    if crcOk then takeAck ack (takeStatus space off v s) else crcError s

def execStatusPacket (crcOk : Bool) (s : State) : Host.Outcome State Fault Refusal := .next (whenClocked (statusPacket crcOk) s)

/-! Supply of the die (R547) -/

/-- GATE_DRIVE_RESET: VGD below its threshold; the die holds every output off. -/
def gateDriveReset (s : State) : State := { s with die := { dieReset with powered := false } }

def execGateDriveReset (s : State) : Host.Outcome State Fault Refusal := .next (gateDriveReset s)

/-- GATE_DRIVE_POWER_UP: the die leaves reset. -/
def gateDrivePowerUp (s : State) : State := if s.die.powered then s else { s with die := dieReset }

def execGateDrivePowerUp (s : State) : Host.Outcome State Fault Refusal := .next (gateDrivePowerUp s)

end Sys2Proof.Machine
end

