-- ==== Sys2Proof/Machine/DmaCtl.lean ====
section
/-! DEFINITION. The control of the DMA channels: start, trigger and stop (R477, R478, R481). -/

namespace Sys2Proof.Machine

/-- A transfer of channel c starts; a count of 0 ends at once (R477, R481). -/
def dmaBegin (c : Fin 8) (s : State) : State :=
  let n := s.fld (F.DMA_CNT_CNT c.val)
  if n = 0 then
    let s := s.setFld (F.DMA_STAT_LEFT c.val) 0
    pendSrc (232 + c.val) (if s.fldB (F.DMA_CTL_TEN c.val) then s else s.setFld (F.DMA_CTL_EN c.val) 0)
  else
    let r : DmaRun :=
      { src := s.fld (F.DMA_SRC_ADDR c.val), dst := s.fld (F.DMA_DST_ADDR c.val), cnt := n
        sinc := s.fldB (F.DMA_CTL_SINC c.val), dinc := s.fldB (F.DMA_CTL_DINC c.val)
        cls := s.fld (F.DMA_CTL_CLS c.val), moved := 0 }
    let s := (s.setFld (F.DMA_STAT_BUSY c.val) 1).setFld (F.DMA_STAT_LEFT c.val) n
    { s with dma := s.dma.set c.val (some r) }

/-- The channel leaves its transfer. -/
def dmaIdle (c : Fin 8) (s : State) : State :=
  { s.setFld (F.DMA_STAT_BUSY c.val) 0 with dma := s.dma.set c.val none }

/-- A write of DMA_CTLc (R477, R478, R481): CLS keeps its value on 11b; setting EN clears ERR and starts a transfer when TEN
is 0 and none is in progress; EN = 0 stops the channel. -/
def dmaCtlWrite (c : Fin 8) (v : Word) (s : State) : State :=
  let cls := if getBits v 3 2 = 3 then s.fld (F.DMA_CTL_CLS c.val) else getBits v 3 2
  let s := s.setReg (R.DMA_CTL c.val) (putBits (v &&& 0x3FFF) 3 2 cls)
  if bit v 0 then
    let s := s.setFld (F.DMA_STAT_ERR c.val) 0
    if bit v 13 || s.fldB (F.DMA_STAT_BUSY c.val) then s else dmaBegin c s
  else dmaIdle c s

/-- Has source TSRC risen in this LCLK cycle, and not yet triggered the channel? Whether INT enables it does not matter. -/
def dmaEdge (c : Fin 8) (s : State) : Bool :=
  s.intc.edges.getLsbD (s.fld (F.DMA_CTL_TSRC c.val)) && !s.intc.taken.getLsbD c.val

/-- DMA_TRIGGER: a rising edge of TSRC starts a transfer of an enabled channel with TEN = 1, or is lost (R477). -/
def dmaTrigger (c : Fin 8) (s : State) : State :=
  if s.fldB (F.DMA_CTL_EN c.val) && s.fldB (F.DMA_CTL_TEN c.val) && dmaEdge c s then
    let s := { s with intc := { s.intc with taken := s.intc.taken ||| BitVec.twoPow 8 c.val } }
    if s.fldB (F.DMA_STAT_BUSY c.val) then s.incFld F.DMA_LOST_CNT else dmaBegin c s
  else s

def execDmaTrigger (c : Fin 8) (s : State) : Host.Outcome State Fault Refusal := .next (whenClocked (dmaTrigger c) s)

end Sys2Proof.Machine
end

