-- ==== Sys2Proof/Machine/Flags.lean ====
section
/-! DEFINITION. The condition and sticky flags of FLAGS (c1) and how each class of instruction sets them (R53, R55,
the flag codes before R98). -/

namespace Sys2Proof.Machine

/-- What an instruction does to FLAGS: a new value for each condition flag it writes, and the sticky flags it hoists. -/
structure FlagUpd where
  z : Option Bool := none
  n : Option Bool := none
  c : Option Bool := none
  v : Option Bool := none
  ov : Bool := false
  dz : Bool := false
deriving DecidableEq, Repr

/-- Bit positions of FLAGS (R57). -/
def flagZ : Nat := 0
def flagN : Nat := 1
def flagC : Nat := 2
def flagV : Nat := 3
def flagOV : Nat := 4
def flagDZ : Nat := 5

def setFlag (f : Word) (i : Nat) : Option Bool → Word
  | none => f
  | some b => putBits f i 1 (b2n b)

/-- FLAGS after an update: the sticky bits only rise (R49, R53). -/
def FlagUpd.apply (u : FlagUpd) (f : Word) : Word :=
  let f1 := setFlag (setFlag (setFlag (setFlag f flagZ u.z) flagN u.n) flagC u.c) flagV u.v
  let f2 := if u.ov then putBits f1 flagOV 1 1 else f1
  if u.dz then putBits f2 flagDZ 1 1 else f2

/-- Only the sticky flags of an update: what remains of it when the instruction takes trap DZ or OVF (R53). -/
def FlagUpd.sticky (u : FlagUpd) : FlagUpd := { ov := u.ov, dz := u.dz }

def isZero (x : Word) : Bool := decide (x = 0)
def isNeg (x : Word) : Bool := x.msb

/-- ZN: Z and N from the result (before R98). -/
def flagsZN (r : Word) : FlagUpd := { z := some (isZero r), n := some (isNeg r) }

/-- ZN with V set to a condition of the instruction, OV not hoisted. -/
def flagsZNwithV (r : Word) (v : Bool) : FlagUpd := { z := some (isZero r), n := some (isNeg r), v := some v }

/-- ZNV: V says whether the instruction saturates, and OV is hoisted when it does. -/
def flagsZNV (r : Word) (sat : Bool) : FlagUpd :=
  { z := some (isZero r), n := some (isNeg r), v := some sat, ov := sat }

/-- Carry out of bit 35 of a sum (R55). -/
def carryAdd (a b : Word) : Bool := decide (2 ^ 36 ≤ a.toNat + b.toNat)

/-- NOT borrow of a difference (R55). -/
def carrySub (a b : Word) : Bool := decide (b.toNat ≤ a.toNat)

/-- ZNCV of a wrapping addition: V is signed overflow (R55). -/
def flagsAdd (a b : Word) : FlagUpd :=
  let r := a + b
  { z := some (isZero r), n := some (isNeg r), c := some (carryAdd a b), v := some (satur (a.toInt + b.toInt)) }

/-- ZNCV of a wrapping subtraction (R55). -/
def flagsSub (a b : Word) : FlagUpd :=
  let r := a - b
  { z := some (isZero r), n := some (isNeg r), c := some (carrySub a b), v := some (satur (a.toInt - b.toInt)) }

/-- ZNCV of a saturating form: Z and N from the saturated result, C as the wrapping form, V and OV on saturation. -/
def flagsSat (r : Word) (c sat : Bool) : FlagUpd :=
  { z := some (isZero r), n := some (isNeg r), c := some c, v := some sat, ov := sat }

/-- The condition of B.cond on FLAGS (R106); none for the undefined code Fh. -/
def condHolds (f : Word) (cond : BitVec 4) : Option Bool :=
  let z := bit f flagZ
  let n := bit f flagN
  let c := bit f flagC
  let v := bit f flagV
  match cond.toNat with
  | 0x0 => some z
  | 0x1 => some (!z)
  | 0x2 => some (n != v)
  | 0x3 => some (n == v)
  | 0x4 => some (!z && (n == v))
  | 0x5 => some (z || (n != v))
  | 0x6 => some (!c)
  | 0x7 => some c
  | 0x8 => some (c && !z)
  | 0x9 => some (!c || z)
  | 0xA => some n
  | 0xB => some (!n)
  | 0xC => some v
  | 0xD => some (!v)
  | 0xE => some true
  | _ => none

end Sys2Proof.Machine
end

