-- ==== Sys2Proof/Machine/Operands.lean ====
section
/-! DEFINITION. The operand forms of the Moagar-36: immediates (R92, R99), shift amounts (R54), addresses (R71),
register pairs (R47) and octets of a pair (R48, R102). -/

namespace Sys2Proof.Machine

/-- An arithmetic immediate: IMM20 sign-extended (R99). -/
def immArith (i : BitVec 20) : Word := i.signExtend 36

/-- A logical immediate: IMM20 zero-extended (R99). -/
def immLogic (i : BitVec 20) : Word := i.setWidth 36

/-- A shift amount taken from a register: bits [7:0] (R54). -/
def shiftAmount (x : Word) : Nat := getBits x 0 8

/-- An address computed in 36-bit wrapping arithmetic (R71). -/
def eaOf (base : Word) (off : Word) : Word := base + off

/-- Does an address lie in the 24-bit space (R71)? -/
def addrOk (a : Word) : Bool := decide (a.toNat < 2 ^ 24)

/-- TVAL of trap ADDR: bits [23:0] of the computed address (R88). -/
def addrLow (a : Word) : Word := BitVec.ofNat 36 (a.toNat % 2 ^ 24)

/-- Is rd:rd+1 a valid pair: even and not g0 (R47)? -/
def pairOk (r : Nat) : Bool := decide (r % 2 = 0) && decide (r ≠ 0)

/-- Number of octets that SZ names (R102); none for 11b. -/
def octetCount (sz : BitVec 2) : Option Nat :=
  match sz.toNat with
  | 0 => some 1
  | 1 => some 2
  | 2 => some 4
  | _ => none

/-- Lowest bit of the octets J .. J + n - 1 in the 72 bits of a pair (R48). -/
def octetLo (j n : Nat) : Nat := 72 - 8 * (j + n)

/-- The octets J .. J + n - 1 of a pair, octet J most significant (R102). -/
def octetsOf (p j n : Nat) : Nat := (p >>> octetLo j n) % 2 ^ (8 * n)

/-- The pair with those octets replaced by the low 8n bits of v (R102). -/
def octetsPut (p j n v : Nat) : Nat :=
  let lo := octetLo j n
  (p / 2 ^ (lo + 8 * n)) * 2 ^ (lo + 8 * n) + (v % 2 ^ (8 * n)) * 2 ^ lo + p % 2 ^ lo

/-- Octet j (0 to 8) of the two words w, w + 1 (R48). -/
def octet (w0 w1 : Word) (j : Nat) : Nat := octetsOf (pairNat w0 w1) j 1

end Sys2Proof.Machine
end

