-- ==== Sys2Proof/Machine/MoagarAlu.lean ====
section
/-! DEFINITION. Results and flags of the register and immediate instructions, one function per instruction
(R49 to R55, R98 to R102). -/

namespace Sys2Proof.Machine

open Sys2Proof.Moagar

/-- What an arithmetic instruction gives: its result and its effect on FLAGS. -/
structure AluOut where
  res : Word
  fl : FlagUpd
deriving DecidableEq, Repr

def aluAdd (a b : Word) : AluOut := ⟨a + b, flagsAdd a b⟩

/-- Saturating result of an exact integer, with the carry of the wrapping form (R49, R55). -/
def aluSat (exact : Int) (c : Bool) : AluOut :=
  let r := wrap36 (sat36 exact)
  ⟨r, flagsSat r c (satur exact)⟩

def aluAdds (a b : Word) : AluOut := aluSat (a.toInt + b.toInt) (carryAdd a b)
def aluSub (a b : Word) : AluOut := ⟨a - b, flagsSub a b⟩
def aluSubs (a b : Word) : AluOut := aluSat (a.toInt - b.toInt) (carrySub a b)
def aluNeg (a : Word) : AluOut := aluSub 0 a
def aluNegs (a : Word) : AluOut := aluSubs 0 a

/-- ABS: 8_0000_0000h gives itself with V = 1 (R98). -/
def aluAbs (a : Word) : AluOut :=
  let r := if a.msb then 0 - a else a
  ⟨r, flagsZNwithV r (decide (a.toInt = i36Min))⟩

/-- Saturated result with flags ZNV. -/
def aluZNV (exact : Int) : AluOut :=
  let r := wrap36 (sat36 exact)
  ⟨r, flagsZNV r (satur exact)⟩

def aluAbss (a : Word) : AluOut := aluZNV (if a.msb then -a.toInt else a.toInt)

def aluZN (r : Word) : AluOut := ⟨r, flagsZN r⟩

def aluAnd (a b : Word) : AluOut := aluZN (a &&& b)
def aluOr (a b : Word) : AluOut := aluZN (a ||| b)
def aluXor (a b : Word) : AluOut := aluZN (a ^^^ b)
def aluAndn (a b : Word) : AluOut := aluZN (a &&& ~~~b)

/-- Leading zero bits of the low n bits. -/
def clzFrom (x : Nat) : Nat → Nat
  | 0 => 0
  | n + 1 => if x / 2 ^ n % 2 = 1 then 0 else 1 + clzFrom x n

def aluClz (a : Word) : AluOut := aluZN (BitVec.ofNat 36 (clzFrom a.toNat 36))

/-- The shifts of R54 by an amount n of 0 to 255. -/
def shlBy (x : Word) (n : Nat) : Word := if n < 36 then x <<< n else 0
def shrBy (x : Word) (n : Nat) : Word := if n < 36 then x >>> n else 0
def sarBy (x : Word) (n : Nat) : Word := if n < 36 then wrap36 (x.toInt / 2 ^ n) else if x.msb then -1 else 0
def sarrBy (x : Word) (n : Nat) : Word := if n < 36 then wrap36 (rnd x.toInt n) else 0
def rotBy (x : Word) (n : Nat) : Word := x.rotateLeft (n % 36)

def aluShl (a : Word) (n : Nat) : AluOut := aluZN (shlBy a n)
def aluShr (a : Word) (n : Nat) : AluOut := aluZN (shrBy a n)
def aluSar (a : Word) (n : Nat) : AluOut := aluZN (sarBy a n)
def aluSarr (a : Word) (n : Nat) : AluOut := aluZN (sarrBy a n)
def aluShls (a : Word) (n : Nat) : AluOut := aluZNV (a.toInt * 2 ^ n)
def aluRot (a : Word) (n : Nat) : AluOut := aluZN (rotBy a n)

def minI (a b : Word) : Word := if a.toInt ≤ b.toInt then a else b
def maxI (a b : Word) : Word := if a.toInt ≤ b.toInt then b else a
def minU (a b : Word) : Word := if a.toNat ≤ b.toNat then a else b
def maxU (a b : Word) : Word := if a.toNat ≤ b.toNat then b else a

def aluMin (a b : Word) : AluOut := aluZN (minI a b)
def aluMax (a b : Word) : AluOut := aluZN (maxI a b)
def aluMinu (a b : Word) : AluOut := aluZN (minU a b)
def aluMaxu (a b : Word) : AluOut := aluZN (maxU a b)

/-- CLAMP: max(rb, min(ra, rc)), with V = 1 when the result differs from ra (R98). -/
def aluClamp (a b c : Word) : AluOut :=
  let r := maxI b (minI a c)
  ⟨r, flagsZNwithV r (decide (r ≠ a))⟩

/-- The median of three (R98, R135). -/
def mid3 (a b c : Word) : Word := maxI (minI a b) (minI (maxI a b) c)
/-- The rounded mean of two, exact on 37 bits (R98). -/
def mean2 (a b : Word) : Word := wrap36 ((a.toInt + b.toInt + 1) / 2)
/-- The bitwise majority (R98). -/
def maj3 (a b c : Word) : Word := (a &&& b) ||| (b &&& c) ||| (a &&& c)

def aluMid3 (a b c : Word) : AluOut := aluZN (mid3 a b c)
def aluMean2 (a b : Word) : AluOut := aluZN (mean2 a b)
def aluMaj3 (a b c : Word) : AluOut := aluZN (maj3 a b c)

/-- The result and flags of an OP 00h function (R98). -/
def aluR (op : ROp) (a b c : Word) : AluOut :=
  match op with
  | .add => aluAdd a b
  | .adds => aluAdds a b
  | .sub => aluSub a b
  | .subs => aluSubs a b
  | .cmp => aluSub a b
  | .neg => aluNeg a
  | .negs => aluNegs a
  | .abs => aluAbs a
  | .abss => aluAbss a
  | .and => aluAnd a b
  | .or => aluOr a b
  | .xor => aluXor a b
  | .andn => aluAndn a b
  | .clz => aluClz a
  | .shl => aluShl a (shiftAmount b)
  | .shr => aluShr a (shiftAmount b)
  | .sar => aluSar a (shiftAmount b)
  | .sarr => aluSarr a (shiftAmount b)
  | .shls => aluShls a (shiftAmount b)
  | .rot => aluRot a (shiftAmount b)
  | .min => aluMin a b
  | .max => aluMax a b
  | .minu => aluMinu a b
  | .maxu => aluMaxu a b
  | .clamp => aluClamp a b c
  | .mid3 => aluMid3 a b c
  | .mean2 => aluMean2 a b
  | .maj3 => aluMaj3 a b c

/-- The result and flags of an immediate arithmetic or logic instruction (R99). -/
def aluI (op : IOp) (a : Word) (imm : BitVec 20) : AluOut :=
  match op with
  | .addi => aluAdd a (immArith imm)
  | .addis => aluAdds a (immArith imm)
  | .andi => aluAnd a (immLogic imm)
  | .ori => aluOr a (immLogic imm)
  | .xori => aluXor a (immLogic imm)
  | .cmpi => aluSub a (immArith imm)

/-- SHI: the shift of a kind by n (R99); none for an undefined kind or n above 35. -/
def aluShi (a : Word) (kind : BitVec 3) (n : BitVec 6) : Option AluOut :=
  if 35 < n.toNat then none
  else match kind.toNat with
    | 0 => some (aluShl a n.toNat)
    | 1 => some (aluShr a n.toNat)
    | 2 => some (aluSar a n.toNat)
    | 3 => some (aluSarr a n.toNat)
    | 4 => some (aluShls a n.toNat)
    | 5 => some (aluRot a n.toNat)
    | _ => none

/-- LI: IMM25 sign-extended; LHI: IMM18 × 2^18 (R99). -/
def liOf (imm : BitVec 25) : Word := imm.signExtend 36
def lhiOf (imm : BitVec 18) : Word := BitVec.ofNat 36 (imm.toNat * 2 ^ 18)

/-- The S36 product before narrowing: floor((p + 2^31) / 2^32) (R50). -/
def mulqExact (a b : Word) : Int := rnd (a.toInt * b.toInt) 32

/-- The S36 product, rounded and saturated (R50). -/
def mulq (a b : Word) : Word := wrap36 (sat36 (mulqExact a b))

/-- Single-word multiplies (R100). -/
def aluMul (a b : Word) : AluOut := aluZN (wrap36 (a.toInt * b.toInt))
def aluMuls (a b : Word) : AluOut := aluZNV (a.toInt * b.toInt)
def aluMulq (a b : Word) : AluOut := aluZNV (mulqExact a b)
/-- MULQW: V = 1 when the result differs from that of MULQ (R100). -/
def aluMulqw (a b : Word) : AluOut :=
  let r := wrap36 (mulqExact a b)
  ⟨r, flagsZNwithV r (decide (r ≠ mulq a b))⟩
/-- MADQ rounds once, after the addition (R100, R101). -/
def aluMadq (a b c : Word) : AluOut := aluZNV (rnd (a.toInt * b.toInt + c.toInt * 2 ^ 32) 32)

/-- A pair result: high word, low word, flags of MULW (R100). -/
structure PairOut where
  hi : Word
  lo : Word
  fl : FlagUpd
deriving DecidableEq, Repr

def pairOf (p : DWord) : PairOut :=
  ⟨BitVec.ofNat 36 (p.toNat / 2 ^ 36), BitVec.ofNat 36 p.toNat, { z := some (decide (p = 0)), n := some p.msb }⟩

def aluMulw (a b : Word) : PairOut := pairOf (BitVec.ofInt 72 (a.toInt * b.toInt))
def aluMulwu (a b : Word) : PairOut := pairOf (BitVec.ofNat 72 (a.toNat * b.toNat))

/-- Quotient, remainder and flags of a division (R52, R100). -/
structure DivOut where
  q : Word
  r : Word
  fl : FlagUpd
deriving DecidableEq, Repr

/-- ZN from the quotient, V = 1 exactly when OV is hoisted (R100). -/
def divOut (q r : Word) (ov dz : Bool) : DivOut :=
  ⟨q, r, { z := some (isZero q), n := some (isNeg q), v := some ov, ov := ov, dz := dz }⟩

/-- The quotient of a signed division by zero: the limit on the dividend's side (R52). -/
def divZeroQuot (a : Word) : Word := if a.msb then wrap36 i36Min else wrap36 i36Max

def aluDiv (a b : Word) : DivOut :=
  if b = 0 then divOut (divZeroQuot a) a false true
  else
    let q := truncDiv a.toInt b.toInt
    if satur q then divOut (wrap36 i36Max) 0 true false
    else divOut (wrap36 q) (wrap36 (a.toInt - q * b.toInt)) false false

def aluDivu (a b : Word) : DivOut :=
  if b = 0 then divOut (-1) a false true
  else divOut (BitVec.ofNat 36 (a.toNat / b.toNat)) (BitVec.ofNat 36 (a.toNat % b.toNat)) false false

def aluDivq (a b : Word) : DivOut :=
  if b = 0 then divOut (divZeroQuot a) a false true
  else
    let n := a.toInt * 2 ^ 32
    let q := truncDiv n b.toInt
    if satur q then divOut (wrap36 (sat36 q)) 0 true false
    else divOut (wrap36 q) (wrap36 (n - q * b.toInt)) false false

/-- The division an OP 01h function names (R100). -/
def aluD (op : DivOp) (a b : Word) : DivOut :=
  match op with
  | .div => aluDiv a b
  | .divu => aluDivu a b
  | .divq => aluDivq a b

/-- CVTQI: floor((ra + 2^31) / 2^32); CVTIQ: ra × 2^32, saturated (R51, R100). -/
def aluCvtqi (a : Word) : AluOut := aluZN (wrap36 (rnd a.toInt 32))
def aluCvtiq (a : Word) : AluOut := aluZNV (a.toInt * 2 ^ 32)

def aluC (op : CvtOp) (a : Word) : AluOut :=
  match op with
  | .cvtqi => aluCvtqi a
  | .cvtiq => aluCvtiq a

/-- OX: the octets, zero- or sign-extended (R102); none where J and SZ are undefined together. -/
def oxOf (hi lo : Word) (j : BitVec 4) (sz : BitVec 2) (sx : Bool) : Option Word :=
  match octetCount sz with
  | none => none
  | some n =>
    if 9 < j.toNat + n then none
    else
      let x := octetsOf (pairNat hi lo) j.toNat n
      some (if sx then wrap36 (signedOf (8 * n) x) else BitVec.ofNat 36 x)

/-- OI: the pair with the octets replaced by the low bits of rb (R102). -/
def oiOf (hi lo v : Word) (j : BitVec 4) (sz : BitVec 2) : Option (Word × Word) :=
  match octetCount sz with
  | none => none
  | some n =>
    if 9 < j.toNat + n then none
    else
      let p := octetsPut (pairNat hi lo) j.toNat n v.toNat
      some (BitVec.ofNat 36 (p / 2 ^ 36), BitVec.ofNat 36 p)

end Sys2Proof.Machine
end

