-- ==== Sys2Proof/Machine/Trig.lean ====
section
/-! DEFINITION. The rotator's sine and cosine, and the exact square root (R308, R312). -/

namespace Sys2Proof.Machine

/-- floor(2π × 2^160). -/
def twoPi160 : Nat := 0x6487ed5110b4611a62633145c06e0e68948127044

/-- t − t x²/((n+1)(n+2)) + …: the sine series from its term t of odd order n, in units of 2^-128. -/
def sinSeries : Nat → Nat → Nat → Nat → Nat
  | 0, _, _, _ => 0
  | fuel + 1, n, t, x2 => t - sinSeries fuel (n + 2) (t * x2 / 2 ^ 128 / ((n + 1) * (n + 2))) x2

/-- sin(2π r ÷ 2^24) for 0 ≤ r ≤ 2^22 in units of 2^-32, rounded to nearest. -/
def sinQuarter (r : Nat) : Nat :=
  let x := twoPi160 * r / 2 ^ 56
  (sinSeries 24 1 x (x * x / 2 ^ 128) + 2 ^ 95) / 2 ^ 96

/-- SIN of an angle word (R308). -/
def sinWord (ang : Word) : Word :=
  let k := ang.toNat / 2 ^ 12
  let r := k % 2 ^ 22
  let v := if k / 2 ^ 22 % 2 = 0 then sinQuarter r else sinQuarter (2 ^ 22 - r)
  if k < 2 ^ 23 then BitVec.ofNat 36 v else 0 - BitVec.ofNat 36 v

def cosWord (ang : Word) : Word := sinWord (ang + 0x400000000)

/-- floor(√x) for x below 4^(n+1), from the high bit down. -/
def isqrtBits : Nat → Nat → Nat → Nat
  | 0, x, r => if (r + 1) * (r + 1) ≤ x then r + 1 else r
  | n + 1, x, r => isqrtBits n x (if (r + 2 ^ (n + 1)) * (r + 2 ^ (n + 1)) ≤ x then r + 2 ^ (n + 1) else r)

/-- floor(√x) of a number below 2^72. -/
def isqrt72 (x : Nat) : Nat := isqrtBits 35 x 0

end Sys2Proof.Machine
end

