-- ==== Sys2Proof/Machine/FceMath.lean ====
section
/-! DEFINITION. The arithmetic of the FCE pipeline: image fields, angles, transform, region, regulators, limits,
modulation (R304 to R314). -/

namespace Sys2Proof.Machine

/-- 1.0 as an S36 value. -/
def sOne : Word := 0x100000000

def addS (a b : Word) : Word := wrap36 (sat36 (a.toInt + b.toInt))
def subS (a b : Word) : Word := wrap36 (sat36 (a.toInt - b.toInt))
def absS (a : Word) : Word := (aluAbss a).res
def negS (a : Word) : Word := (aluNegs a).res

/-- CLAMP of x to [lo, hi]: lo where the bounds cross. -/
def clampS (x lo hi : Word) : Word := maxI lo (minI x hi)

/-! Descriptors (R305) -/

/-- Word i of a descriptor or image. -/
def wAt (l : List Word) (i : Nat) : Word := l.getD i 0

def dType (d : List Word) : Nat := getBits (wAt d 0) 0 3
def dSched (d : List Word) : Bool := bit (wAt d 0) 3
def dGset (d : List Word) : Nat := getBits (wAt d 0) 4 4
def dLdal (d : List Word) : Nat := getBits (wAt d 0) 8 2
def dSpden (d : List Word) : Bool := bit (wAt d 0) 10
def dSvm (d : List Word) : Bool := bit (wAt d 0) 11
def dRef (d : List Word) (i : Nat) : Nat := getBits (wAt d 0) (12 + 4 * i) 4
def dAdv (d : List Word) : Nat := getBits (wAt d 1) 0 18
def dSpda (d : List Word) : Nat := getBits (wAt d 2) 0 24
def dPosa (d : List Word) : Nat := getBits (wAt d 3) 0 24
def dImax (d : List Word) : Word := wAt d 4
def dVlim (d : List Word) : Word := wAt d 5
def dKe (d : List Word) : Word := wAt d 6
def dOlim (d : List Word) (k : Nat) : Word := wAt d (8 + 2 * k)
def dIlim (d : List Word) (k : Nat) : Word := wAt d (9 + 2 * k)
def dSbp (d : List Word) (j : Nat) : Word := wAt d (15 + j)
def dCbp (d : List Word) (j : Nat) : Word := wAt d (22 + j)
def dShys (d : List Word) : Word := wAt d 30
def dChys (d : List Word) : Word := wAt d 31

def descriptor (img : List Word) (i : Nat) : List Word := (img.drop (32 * i)).take 32
def gainKp (img : List Word) (g k : Nat) : Word := wAt img (0xC0 + 8 * g + 2 * k)
def gainKi (img : List Word) (g k : Nat) : Word := wAt img (0xC1 + 8 * g + 2 * k)

/-- The words of the committed set that a TYPE uses. -/
def refsUsed (type : Nat) : List Nat := if type = 0 then [] else if type = 5 then [0, 1, 2] else [0, 1]

def negative (x : Word) : Bool := x.msb
def ascending (l : List Word) : Bool := (l.zip (l.drop 1)).all fun p => decide (p.1.toInt < p.2.toInt)
def highZero (x : Word) (lo : Nat) : Bool := decide (x.toNat / 2 ^ lo = 0)
def inBanks0to14 (a : Nat) : Bool := decide (a < 0xF0000)

/-- The check of one descriptor (R304), with NOUT. -/
def descriptorOk (nout : Nat) (d : List Word) : Bool :=
  decide (dType d ≤ 5) && highZero (wAt d 0) 24 && highZero (wAt d 1) 18 && highZero (wAt d 2) 24 && highZero (wAt d 3) 24
    && decide (wAt d 7 = 0)
    && (refsUsed (dType d)).all (fun i => decide (dRef d i < nout))
    && (!dSpden d || inBanks0to14 (dSpda d)) && (dType d != 4 || inBanks0to14 (dPosa d))
    && (List.range 4).all (fun k => !negative (dOlim d k) && !negative (dIlim d k))
    && !negative (dImax d) && !negative (dKe d) && !negative (dShys d) && !negative (dChys d)
    && decide (0 < (dVlim d).toInt) && decide ((dVlim d).toInt ≤ sOne.toInt)
    && ascending ((List.range 7).map fun j => dSbp d (j + 1)) && ascending ((List.range 7).map fun j => dCbp d (j + 1))

/-- The check of an image (R304), with NOUT and the index of the mode word. -/
def imageOk (nout midx : Nat) (img : List Word) : Bool :=
  decide (img.length = 322) && highZero (wAt img 0x140) 8 && decide (getBits (wAt img 0x140) 4 4 = 1)
    && decide (wAt img 0x141 = 0) && decide (midx < nout)
    && (List.range 4).all (fun i => descriptorOk nout (descriptor img i))
    && (List.range 64).all (fun i => highZero (wAt img (0x80 + i)) 4)

/-! Angles and transform (R307, R308) -/

/-- adv(Ω, Δt) = floor(Ω × 16 × Δt ÷ 10^6 + ½) modulo 2^36. -/
def advance (omega : Word) (dt : Int) : Word := wrap36 ((omega.toInt * 16 * dt * 2 + 1000000) / 2000000)

/-- floor((x + 2^31) ÷ 2^32), saturated. -/
def rndS (x : Int) : Word := wrap36 (sat36 (rnd x 32))

/-- id and iq. -/
def park (iu iv iw c s : Word) : Word × Word :=
  let ib := mulq (subS iv iw) 0x093CD3A2D
  (rndS (iu.toInt * c.toInt + ib.toInt * s.toInt), rndS (ib.toInt * c.toInt - iu.toInt * s.toInt))

/-! Region (R309) -/

/-- Breakpoints that are at most x, each lowered by h. -/
def countBelow (bp : List Word) (h x : Word) : Nat := (bp.filter fun b => decide (b.toInt - h.toInt ≤ x.toInt)).length

def regionStep (fresh : Bool) (prev : Nat) (bp : List Word) (h x : Word) : Nat :=
  let up := countBelow bp 0 x
  let dn := countBelow bp h x
  if fresh then up else if prev < up then up else if dn < prev then dn else prev

/-! Regulators (R311, R318) -/

/-- One regulator's step: proportional term, integrator before and after, output. -/
structure RegStep where
  p : Word
  old : Word
  new : Word
  y : Word
deriving DecidableEq, Repr

/-- A step on error e. -/
def regulate (kp ki e i ilim lo hi : Word) : RegStep :=
  let p := mulq kp e
  let i1 := clampS (addS i (mulq ki e)) (0 - ilim) ilim
  let u1 := addS p i1
  let stop := (decide (hi.toInt < u1.toInt) && decide (i.toInt < i1.toInt))
    || (decide (u1.toInt < lo.toInt) && decide (i1.toInt < i.toInt))
  let i2 := if stop then i else i1
  ⟨p, i, i2, clampS (addS p i2) lo hi⟩

/-- The step of a hand-over: the integrator is preloaded for the target y, with no integration. -/
def preload (kp e target ilim lo hi : Word) : RegStep :=
  let p := mulq kp e
  let i := clampS (subS target p) (0 - ilim) ilim
  ⟨p, i, i, clampS (addS p i) lo hi⟩

/-- The voltage limit [lo, hi] on a regulator's output with the blend of a hand-over added (R312, R319): the value, and
the integrator, which keeps its old value when it moved toward the excess. -/
def limitVolt (r : RegStep) (olim blend lo hi : Word) : Word × Word :=
  let v := addS r.y blend
  let stop := (decide (hi.toInt < v.toInt) && decide (r.old.toInt < r.new.toInt))
    || (decide (v.toInt < lo.toInt) && decide (r.new.toInt < r.old.toInt))
  if stop then (clampS (addS (clampS (addS r.p r.old) (0 - olim) olim) blend) lo hi, r.old)
  else (clampS v lo hi, r.new)

/-- Q = floor(√(Vmax² − vd²)) on the codes. -/
def quadLimit (vmax vd : Word) : Word := BitVec.ofNat 36 (isqrt72 (vmax.toInt ^ 2 - vd.toInt ^ 2).toNat)

/-! Modulation (R313, R314) -/

/-- The three duties of (vd, vq) at an angle. -/
def modulate (svm : Bool) (vd vq c s vbus : Word) : List Word :=
  let va := rndS (vd.toInt * c.toInt - vq.toInt * s.toInt)
  let vbeta := rndS (vd.toInt * s.toInt + vq.toInt * c.toInt)
  let k : Int := 0x0DDB3D742
  let vb := rndS (vbeta.toInt * k - va.toInt * 2 ^ 31)
  let vc := rndS (-(vbeta.toInt * k) - va.toInt * 2 ^ 31)
  let vo := if svm then negS (mean2 (maxI va (maxI vb vc)) (minI va (minI vb vc))) else 0
  [va, vb, vc].map fun v =>
    let d : Int := 2 ^ 31 + (aluDivq (if svm then addS v vo else v) vbus).q.toInt
    wrap36 (if d < 0 then 0 else if 2 ^ 32 < d then 2 ^ 32 else d)

/-- A duty clamped to [0, 1.0]. -/
def clampDuty (d : Word) : Word := clampS d 0 sOne

/-- The compare of a duty. -/
def compareOf (aper : Nat) (d : Word) : Nat := Nat.min ((aper * d.toNat + 2 ^ 31) / 2 ^ 32) (aper - 1)

/-- f_k = floor((HOF − k) × 2^32 ÷ HOF) (R319). -/
def hoFactor (hof k : Nat) : Word := BitVec.ofNat 36 ((hof - k) * 2 ^ 32 / hof)

end Sys2Proof.Machine
end

