-- ==== Sys2Proof/Machine/FceCtrl.lean ====
section
/-! DEFINITION. The Field Control Engine's block: enable, image load, ring, frame start (R303, R314, R319, R323). -/

namespace Sys2Proof.Machine

def activeCopy (n : Fin 2) (s : State) : Fin 2 := Fin.ofNat 2 (s.fld (F.FCE_STAT_IMG n.val))
def activeImage (n : Fin 2) (s : State) : List Word := s.fce[n].img[activeCopy n s]

/-- The copies change places. -/
def swapImage (n : Fin 2) (s : State) : State :=
  let s := s.setFld (F.FCE_STAT_IMG n.val) (1 - s.fld (F.FCE_STAT_IMG n.val))
  pendSrc (fceSrc n 5) (setFce n (fun h => { h with ok := true, swapDue := false }) s)

/-- LOADALL for a descriptor's code (R314): at once, or when the other engine has written its compares of this frame. -/
def fceLoadAll (n : Fin 2) (s : State) : State :=
  if 2 ≤ s.fld (F.FCE_CFG_CLS n.val) then
    pwmLoadWrite (BitVec.ofNat 36 (1 + 2 * s.fld F.PWM_LOAD_BANKS)) s
  else s

/-- EN is cleared: a run is abandoned, with no LOADALL, and the integrators are cleared (R322, R323). -/
def fceDisable (n : Fin 2) (s : State) : State :=
  let i := n.val
  let s := (s.setFld (F.FCE_CTRL_EN i) 0).setFld (F.FCE_STAT_PHASE i) 0
  let s := (s.setFld (F.FCE_STAT_HO i) 0).setFld (F.FCE_STAT_HOK i) 0
  let s := forN 4 (fun k s => s.setReg (R.FCE_INTG i k) 0) (s.setFld (F.FCE_STAT_SAFE i) 0)
  let s := setFce n (fun h => { h with
    run := none, due := false, latch := false, fresh := true, last := none, ho := none, wrote := false, skipped := false
    loadWait := false }) s
  -- an engine that waited for this one's compares goes on (R314)
  if s.fce[1 - n].loadWait then fceLoadAll (1 - n) (setFce (1 - n) (fun h => { h with loadWait := false }) s) else s

/-- A write of FCEn_CTRL. -/
def fceCtrlWrite (n : Fin 2) (v : Word) (s : State) : State :=
  let i := n.val
  let s := (s.setFldB (F.FCE_CTRL_TRIG i) (bit v 1)).setFldB (F.FCE_CTRL_RGCL i) (bit v 2)
  if bit v 0 then
    if s.fldB (F.FCE_CTRL_EN i) || !s.fce[n].ok then s
    else (s.setFld (F.FCE_CTRL_EN i) 1).setFld (F.FCE_STAT_PHASE i) 1
  else if s.fldB (F.FCE_CTRL_EN i) then fceDisable n s else s

/-- A write of FCEn_CMD: LOAD begins unless one is in progress. -/
def fceCmd (n : Fin 2) (v : Word) (s : State) : State :=
  if bit v 0 && !s.fldB (F.FCE_STAT_LOADING n.val) then
    setFce n (fun h => { h with swapDue := false }) (s.setFld (F.FCE_STAT_LOADING n.val) 1)
  else s

/-- May offsets 003h and 005h to 008h be written (R323)? -/
def fceOpen (n : Fin 2) (s : State) : Bool := !s.fldB (F.FCE_CTRL_EN n.val) || !s.fldB (F.FCE_STAT_LOADING n.val)

/-- A write of FCEn_RCFG: REN is refused for a ring size other than 2 to 10; the next record goes to slot 0. -/
def fceRcfgWrite (n : Fin 2) (v : Word) (s : State) : State :=
  if fceOpen n s then
    let i := n.val
    let z := getBits v 24 4
    let s := (s.setFld (F.FCE_RCFG_RBASE i) (getBits v 0 24)).setFld (F.FCE_RCFG_RSZ i) z
    setFce n (fun h => { h with recs := 0 }) (s.setFldB (F.FCE_RCFG_REN i) (bit v 28 && decide (2 ≤ z) && decide (z ≤ 10)))
  else s

/-- A hand-over that has run its HOF frames ends. -/
def endHandover (n : Fin 2) (s : State) : State :=
  let s := (s.setFld (F.FCE_STAT_HO n.val) 0).setFld (F.FCE_STAT_HOK n.val) 0
  pendSrc (fceSrc n 4) (setFce n (fun h => { h with ho := none }) s)

/-- A frame start for one engine, before its acquire cycle: a swap that is due, its trigger, and the frame of a hand-over (R299,
R303, R319). -/
def fceFrame (n : Fin 2) (s : State) : State :=
  let s := setFce n (fun h => { h with wrote := false, skipped := false, loadWait := false }) s
  let s := triggerAtFrame n (if s.fce[n].swapDue then swapImage n s else s)
  match s.fce[n].ho with
  | none => s
  | some h =>
    let hof := s.fld (F.FCE_HOCFG_HOF n.val)
    if hof ≤ h.k + 1 then endHandover n s
    else setFce n (fun f => { f with ho := some { h with k := h.k + 1 } }) (s.setFld (F.FCE_STAT_HOK n.val) (hof - (h.k + 1)))

def fceFrameStart (s : State) : State := fceFrame 1 (fceFrame 0 s)

end Sys2Proof.Machine
end

