-- ==== Sys2Proof/Machine/Hal.lean ====
section
/-! DEFINITION. Halyard, SAFE, half-mast and the fault log (R167 to R191). -/

namespace Sys2Proof.Machine

/-- The other lane of a contention: the lowest lane other than this one observed asserted. -/
def otherAsserted (s : State) : Option (Fin 3) :=
  [(0 : Fin 3), 1, 2].find? fun x => decide (x ≠ s.lane) && maskHas s.obs x.val

/-- In a contention the lower-ranked lane releases and clears its request (R179). -/
def yieldClaim (s : State) : State :=
  match otherAsserted s with
  | some x =>
    if x < s.lane then
      dropRequest { s with hal := { s.hal with contCur := some (s.fld F.XLA_MEMB_CUR), contOther := some x } }
    else s
  | none => s

/-- A line other than the own one is observed to rise under the own claim (R179): HALC and its count when the contention
begins with it; the lower-ranked lane yields. -/
def contention (begins : Bool) (s : State) : State :=
  if s.lstate = lsVoting then
    yieldClaim (if begins then pendSrc 32 ((hoistFlag 17 s).incFld F.HAL_CCNT_CNT) else s)
  else s

/-- A fall of another lane's line marks that lane as fallen (R178), unless it ends a contention. -/
def markFallen (x : Fin 3) (s : State) : State :=
  let recent := match s.hal.twoAsserted with
    | some t => decide (s.ltime.toNat ≤ t.toNat + 1000)
    | none => false
  if x ≠ s.lane ∧ s.lstate = lsVoting ∧ s.fldB F.HAL_CTRL_AUTO ∧ maskHas (s.fld F.XLA_MEMB_CUR) x.val ∧ !s.fldB F.HAL_STAT_CLAIM ∧ !recent then
    let s := s.setFld F.HAL_STAT_FALLEN (s.fld F.HAL_STAT_FALLEN ||| 2 ^ x.val)
    if highestEntitled s && contentionOver s then s.setFld F.HAL_STAT_REQ 1 else s
  else s

/-- After a contention with a lane that is not a member, the request returns when that lane's line is released (R179). -/
def contentionOtherReleased (x : Fin 3) (s : State) : State :=
  if s.hal.contOther = some x ∧ !maskHas (s.fld F.XLA_MEMB_CUR) x.val ∧ s.lstate = lsVoting then
    { s with hal := { s.hal with contCur := none, contOther := none } }.setFld F.HAL_STAT_REQ 1
  else s

/-- Two or more lines observed asserted at once: the time is kept for R178. -/
def noteTwoAsserted (s : State) : State :=
  if 2 ≤ popNat 3 s.obs then { s with hal := { s.hal with twoAsserted := some s.ltime } } else s

/-- A deglitched change of line x at the controller die (R176 to R182). -/
def lineAtController (x : Fin 3) (level : Bool) (s : State) : State :=
  let was := maskHas s.obs x.val
  if was = level then s
  else
    let s := noteTwoAsserted s
    let s := s.setFld F.HAL_STAT_OBS (if level then s.obs + 2 ^ x.val else s.obs - 2 ^ x.val)
    let s := noteTwoAsserted s
    let contBefore := s.fldB F.HAL_STAT_CONT
    let s := noteOwnLine (updateCont s)
    if level then
      let s := s.setFld F.HAL_STAT_QUIET 0
      let s := if s.hal.isoLeft.isSome ∧ x ≠ s.lane then { s with hal := { s.hal with isoClaimSeen := true } } else s
      updateEnsign (if contentionNow s && decide (x ≠ s.lane) then contention (!contBefore) s else s)
    else
      let s := if s.obs = 0 then { s with hal := { s.hal with quietAt := s.dlk.dtime } } else s
      updateEnsign (contentionOtherReleased x (markFallen x s))

/-- A deglitched change of line x at the gate-drive die: the arming time begins when the condition of the shared-output
gates begins to hold, and they close as soon as it ceases (R176, R177). What the die observes reaches HAL_STAT by its
status packets (R17, R189). -/
def lineAtDie (x : Fin 3) (level : Bool) (s : State) : State :=
  if !s.die.powered ∨ maskHas s.die.gobs x.val = level then s
  else
    let s := { s with die := { s.die with
      gobs := if level then s.die.gobs + 2 ^ x.val else s.die.gobs - 2 ^ x.val } }
    let on := sharedCondition s
    let s := { s with die := { s.die with
      armAt := if on then some s.die.dtime else none, shen := s.die.shen && on } }
    markOutputs (markDie (1, dieHalyard) s)

/-- HALYARD_CHANGE: line x takes a level, observed at the controller die and at the gate-drive die or at one of them when
the line's path to the other is faulty (R176). -/
def halyardChange (x : Fin 3) (level atCtrl atDie : Bool) (s : State) : State :=
  let s := if atCtrl && clocked s then lineAtController x level s else s
  if atDie then lineAtDie x level s else s

def execHalyardChange (x : Fin 3) (level atCtrl atDie : Bool) (s : State) : Host.Outcome State Fault Refusal :=
  .next (halyardChange x level atCtrl atDie s)

/-- QUIET_TIME_ELAPSED: 20 µs with all three lines observed released (R176, R178). -/
def quietElapsed (s : State) : State :=
  if s.obs = 0 ∧ passed s s.hal.quietAt 20000 then tryClaim (s.setFld F.HAL_STAT_QUIET 1) else s

def execQuietTimeElapsed (s : State) : Host.Outcome State Fault Refusal := .next (whenClocked quietElapsed s)

/-- Have 1.00 µs passed at the die with only the own line observed asserted (R176, R177)? -/
def armed (s : State) : Bool :=
  match s.die.armAt with
  | some t => sharedCondition s && decide (t.toNat + 1000 ≤ s.die.dtime.toNat)
  | none => false

/-- SHARED_GATE_ARM: the arming time has run (R177). -/
def sharedGateArm (s : State) : State :=
  if armed s then markOutputs (markDie (1, dieHalyard) { s with die := { s.die with shen := true } }) else s

def execSharedGateArm (s : State) : Host.Outcome State Fault Refusal := .next (sharedGateArm s)

/-- HALYARD_STUCK: the own line has differed from its driven level for 1.00 µs (R181). -/
def halyardStuck (s : State) : State :=
  match s.hal.diffAt with
  | some t => if passed s t 1000 then hoistFlag 18 s else s
  | none => s

def execHalyardStuck (s : State) : Host.Outcome State Fault Refusal := .next (whenClocked halyardStuck s)

/-- A write of HAL_CMD (R189): RELEASE wins over CLAIM, both act with AUTO = 0 only; SAFE is SAFE cause 4. -/
def halCmd (v : Word) (s : State) : State :=
  let s := if bit v 2 then safeCause 4 s else s
  if s.fldB F.HAL_CTRL_AUTO then s
  else if bit v 1 then dropRequest s
  else if bit v 0 ∧ s.lstate = lsVoting then tryClaim (s.setFld F.HAL_STAT_REQ 1)
  else s

/-- LIMP_WARNING: 10 s before the limp time expires, or at once with LIMPT of 10 or less, in HALF-MAST (R171). -/
def limpWarning (s : State) : State :=
  if s.hal.inHalfMast ∧ !s.hal.limpWarned ∧ s.fld F.HAL_HMCFG_LIMPT * 1000 ≤ s.fld F.HAL_LIMP_MS + 10000 then
    pendSrc 39 { s with hal := { s.hal with limpWarned := true } }
  else s

def execLimpWarning (s : State) : Host.Outcome State Fault Refusal := .next (limpWarning s)

/-- Has the limp timer reached LIMPT seconds (R171)? -/
def limpReached (s : State) : Bool := decide (s.fld F.HAL_HMCFG_LIMPT * 1000 ≤ s.fld F.HAL_LIMP_MS)

/-- LIMP_EXPIRY: the limp timer has reached LIMPT in HALF-MAST: LIMP, and SAFE cause 2 (R171). -/
def limpExpiry (s : State) : State :=
  if s.hal.inHalfMast ∧ limpReached s then hoistFlag 20 (safeCause 2 s) else s

def execLimpExpiry (s : State) : Host.Outcome State Fault Refusal := .next (limpExpiry s)

/-- The limp timer over an advance of LTIME by dt ns (R171): whole milliseconds while in HALF-MAST. -/
def limpAdvance (dt : Nat) (s : State) : State :=
  if s.hal.inHalfMast then
    let ns := s.hal.limpNs + dt
    { s with hal := { s.hal with limpNs := ns % 1000000 } }.incFld F.HAL_LIMP_MS (ns / 1000000)
  else s

/-- Enter SAFE at a frame start when a cause is due (R167, R168): the safe action of each bank, SAFEF, the redundancy
state and the safe values of the outputs. -/
def enterSafe (s : State) : State :=
  if s.hal.safe ∨ s.hal.safeDue = 0 then s
  else
    let c := s.hal.safeDue
    let rel := fun (n : Nat) => (if n = 0 then s.fld F.HAL_SAFECFG_SB0 else s.fld F.HAL_SAFECFG_SB1) = 3
    let s := { s with hal := { s.hal with
      safe := true, safeHm := s.hal.inHalfMast, inHalfMast := false, relt := #v[decide (rel 0), decide (rel 1)]
      safeAt := s.dlk.dtime } }
    let s := s.setFld F.HAL_RSTAT_HALFMAST 0
    let s := laneTrips (s.setFld F.HAL_RSTAT_SAFECAUSE c)
    sioEval (hoistFlag 21 (setRedundancy rsSafe s))

/-- RELEASE_TIME_EXPIRY of bank n: RELT ms after a release began in SAFE, all gates of the bank off (R168). -/
def releaseTimeExpiry (n : Fin 2) (s : State) : State :=
  if s.hal.safe && s.hal.relt[n] && passed s s.hal.safeAt (1000000 * s.fld F.HAL_SAFECFG_RELT) then
    let s := { s with hal := { s.hal with relt := s.hal.relt.set n.val false } }
    (s.setFld (F.PWM_TRIP_SAFET n.val) 1).setFld (F.PWM_TRIP_SAFESH n.val) 0
  else s

def execReleaseTimeExpiry (n : Fin 2) (s : State) : Host.Outcome State Fault Refusal := .next (releaseTimeExpiry n s)

/-! Fault log -/

/-- Is a log of size code z at a base a legal one: sizes 8 to 12, base a multiple of 4000h, wholly in the fault-log area or
in the application data (R187, R191)? -/
def logRangeOk (base z : Nat) : Bool :=
  let last := base + 4 * 2 ^ z + 3
  decide (8 ≤ z) && decide (z ≤ 12) && decide (base % 0x4000 = 0) &&
    ((decide (0x3F0000 ≤ base) && decide (last ≤ 0x3FBFFF)) || (decide (0x308000 ≤ base) && decide (last ≤ 0x3EFFFF)))

/-- The head of the log, read from the word at BASE when EN is set (R191). -/
def logHead (s : State) : State := s.setReg R.FLT_LOGHEAD (s.word (s.fld F.FLT_LOGBASE_BASE))

/-- A write of FLT_LOGCFG outside SEALED (R187, R191): a SIZE that is not 8 to 12 is refused, and with EN = 1 the whole
write is, for an illegal log; setting EN reads the head. -/
def logCfgWrite (v : Word) (s : State) : State :=
  let z := getBits v 1 4
  let sized := if 8 ≤ z ∧ z ≤ 12 then s.setFld F.FLT_LOGCFG_SIZE z else s
  if bit v 0 then
    if logRangeOk (s.fld F.FLT_LOGBASE_BASE) z then
      if s.fldB F.FLT_LOGCFG_EN then sized else logHead (sized.setFld F.FLT_LOGCFG_EN 1)
    else s
  else sized.setFld F.FLT_LOGCFG_EN 0

/-- FAULT_LOG_WRITE: the oldest queued entry goes to its place in the ring, then the sequence word (R187, R188). While a
rewritten BASE takes the log out of its region, nothing is written (R187). -/
def faultLogWrite (s : State) : State :=
  match s.logQ with
  | [] => s
  | e :: r =>
    if !logRangeOk (s.fld F.FLT_LOGBASE_BASE) (s.fld F.FLT_LOGCFG_SIZE) then s
    else
      let seq := s.reg R.FLT_LOGHEAD
      let base := s.fld F.FLT_LOGBASE_BASE
      let a := base + 4 + 4 * (seq.toNat % 2 ^ s.fld F.FLT_LOGCFG_SIZE)
      let s := { s with logQ := r }.setWords a [seq, e.w1, e.w2, e.w3]
      (s.setWord base (seq + 1)).setReg R.FLT_LOGHEAD (seq + 1)

def execFaultLogWrite (s : State) : Host.Outcome State Fault Refusal := .next (faultLogWrite s)

end Sys2Proof.Machine
end

