-- ==== Sys2Proof/Machine/Isn.lean ====
section
/-! DEFINITION. Current-sense decimation (R246, R287, R290 to R294). -/

namespace Sys2Proof.Machine

/-! The bitstream (R246, R294) -/

/-- Bits of an octet, newest first: the oldest is bit 7. -/
def octetBits (o : BitVec 8) : List (Option Bool) := (List.range 8).map fun i => some (o.getLsbD i)

/-- Eight bits enter the history of every channel; at most 256 are kept. -/
def pushBits (os : Option (List (BitVec 8))) (h : IsnHidden) : IsnHidden :=
  { h with bits := Vector.ofFn fun c : Fin 7 =>
      let new := match os with
        | some l => octetBits (l.getD c.val 0)
        | none => List.replicate 8 none
      (new ++ h.bits[c]).take 256 }

/-- ISN_RAWc after k more slots: the latest 32 bits, oldest in bit 31, a missing bit as 0, and the slot count (R294). -/
def updateRaw (k : Nat) (c : Fin 7) (s : State) : State :=
  let v := (s.isn.bits[c].take 32).foldr (fun b a => 2 * a + b2n (b.getD false)) 0
  (s.setFld (F.ISN_RAW_BITS c.val) v).setFld (F.ISN_RAW_SLOT c.val) (s.fld (F.ISN_RAW_SLOT c.val) + k)

def channels : List (Fin 7) := [0, 1, 2, 3, 4, 5, 6]

/-- Slots lost before the packet of SEQ q whose newest bit has its edge at t: by SEQ, and by time over an outage (R246,
R292). -/
def lostSlots (q : Nat) (t : DWord) (s : State) : Nat :=
  match s.isn.nextSeq with
  | some e => Nat.max ((q + 256 - e) % 256) ((t.toNat - s.isn.newest.toNat - 200) / 400)
  | none => 0

/-- BITSTREAM: the slot's modulator bits reach ISN, 0.53 µs after the edge of their first bit; a packet that is lost or
discarded leaves its bits missing. -/
def bitstream (crcOk : Bool) (s : State) : State :=
  match s.dlk.upBits with
  | none => s
  | some (q, os) =>
    let s := sendUp (bitPkt q os) (setDlk (fun d => { d with upBits := none }) s)
    let t := s.ltime - 180
    let lost := lostSlots q t s
    let h := (List.range (Nat.min lost 32)).foldl (fun h _ => pushBits none h) s.isn
    let h := { pushBits (if crcOk then some os else none) h with newest := t, nextSeq := some ((q + 1) % 256) }
    let s := channels.foldl (fun s c => updateRaw (lost + 1) c s) { s with isn := h }
    if crcOk then s else crcError s

def execBitstream (crcOk : Bool) (s : State) : Host.Outcome State Fault Refusal := .next (whenClocked (bitstream crcOk) s)

/-! The sinc3 window (R290) -/

/-- N and log2 N of an OSR code. -/
def osrLog (code : Nat) : Nat := 3 + code

/-- Coefficient j of (1 + z + ... + z^(N−1))^3. -/
def sinc3 (n j : Nat) : Nat :=
  let tri := fun (k : Nat) => (k + 1) * (k + 2) / 2
  let j := if 2 * j ≤ 3 * n - 3 then j else 3 * n - 3 - j
  if j < n then tri j else tri j - 3 * tri (j - n)

/-- The weighted sum of a window, newest bit first; none when a bit is missing. -/
def sinc3Sum (n : Nat) (l : List (Option Bool)) : Option Nat :=
  if l.length = 3 * n - 2 ∧ l.all (·.isSome) then
    some ((l.foldl (fun (a : Nat × Nat) b => (a.1 + 1, a.2 + (if b = some true then sinc3 n a.1 else 0))) (0, 0)).2)
  else none

/-- X = 2R − N³ of channel c for the window that ends `late` bits before the newest one. -/
def channelX (c : Fin 7) (k late : Nat) (s : State) : Option Int :=
  let n := 2 ^ k
  (sinc3Sum n ((s.isn.bits[c].drop late).take (3 * n - 2))).map fun r => 2 * (r : Int) - (n : Int) ^ 3

/-- The current of a channel: MULQ(d, GAIN) + OFFS (R290). -/
def channelCurrent (c : Fin 7) (k : Nat) (x : Int) (s : State) : Word :=
  let d := wrap36 (x * 2 ^ (32 - 3 * k))
  wrap36 (sat36 ((mulq d (s.reg (R.ISN_GAIN c.val))).toInt + (s.reg (R.ISN_OFFS c.val)).toInt))

def overloaded (k : Nat) (x : Int) : Bool := decide (15 * 2 ^ (3 * k) < 16 * x.natAbs)

/-- LTIME of the centre of the window (R291). -/
def windowTs (k late : Nat) (s : State) : Word :=
  BitVec.ofNat 36 (s.isn.newest - BitVec.ofNat 72 (50 * late + 25 * (3 * 2 ^ k - 3))).toNat

/-! Samples of a bank (R291, R292) -/

/-- LTIME of the anchor: the period start plus 2 × SPT ns, plus 160 ns, plus the bank's trim (R291). -/
def anchorOf (n : Fin 2) (o : OwedSample) (s : State) : Nat :=
  o.start.toNat + 2 * o.spt + 160 + (if n = 0 then s.fld F.DLK_TRIM_TB0 else s.fld F.DLK_TRIM_TB1)

/-- How many received bits have their edge after the anchor; none when the last bit at or before it has not been received. -/
def bitsAfter (anchor : Nat) (s : State) : Option Nat :=
  let t := s.isn.newest.toNat
  if t + 50 ≤ anchor then none else some ((t - anchor + 49) / 50)

/-- Can the sample at an anchor be formed: its last bit has been received, or can arrive no more (R293)? -/
def sampleDue (anchor : Nat) (s : State) : Bool :=
  (bitsAfter anchor s).isSome || decide (anchor + 550 ≤ s.ltime.toNat)

/-- Does the low-side rule hold for phase i (R292)? -/
def lowSideValid (n : Fin 2) (i : Fin 3) (o : OwedSample) (s : State) : Bool :=
  let k := osrLog (s.fld (F.ISN_CFG_OSR n.val))
  decide (75 * 2 ^ k + s.fld (F.ISN_CFG_SETL n.val) < o.low[i])

/-- What one phase brings to a sample: whether its window is complete, whether it is valid, its current and overload. -/
structure PhaseSample where
  complete : Bool
  valid : Bool
  i : Word
  ovld : Bool
deriving DecidableEq, Repr

def phaseSample (n : Fin 2) (p : Fin 3) (late : Option Nat) (o : OwedSample) (s : State) : PhaseSample :=
  let k := osrLog (s.fld (F.ISN_CFG_OSR n.val))
  let c : Fin 7 := ⟨3 * n.val + p.val, by omega⟩
  match late.bind fun l => channelX c k l s with
  | none => ⟨false, false, 0, false⟩
  | some x =>
    ⟨true, s.fldB (F.ISN_CFG_SHMODE n.val) || lowSideValid n p o s, channelCurrent c k x s, overloaded k x⟩

/-- Channels whose window lacks a bit are counted (R292). -/
def noteMissing (m : Nat) (s : State) : State := if m = 0 then s else pendSrc 125 (s.incFld F.ISN_MISS_CNT m)

/-- The third current: ADDS, then NEGS (R292). -/
def reconstruct (a b : Word) : Word := (aluNegs (aluAdds a b).res).res

/-- |I| of R287: the largest saturated magnitude. -/
def maxAbs (l : List Word) : Int := l.foldl (fun m w => max m (aluAbss w).res.toInt) 0

/-- A stale sample (R292). -/
def staleSample (n : Fin 2) (s : State) : State :=
  let s := (s.setFld (F.ISN_QUAL_STALE n.val) 1).incFld (F.ISN_QUAL_AGE n.val)
  pendSrc 123 (s.incFld F.ISN_STALE_CNT)

/-- An updated sample of bank n. -/
def freshSample (n : Fin 2) (late : Nat) (o : OwedSample) (ps : Vector PhaseSample 3) (s : State) : State :=
  let k := osrLog (s.fld (F.ISN_CFG_OSR n.val))
  let v := fun (i : Fin 3) => ps[i].valid
  let all := v 0 && v 1 && v 2
  let iu := if v 0 then ps[(0 : Fin 3)].i else reconstruct ps[(1 : Fin 3)].i ps[(2 : Fin 3)].i
  let iv := if v 1 then ps[(1 : Fin 3)].i else reconstruct ps[(0 : Fin 3)].i ps[(2 : Fin 3)].i
  let iw := if v 2 then ps[(2 : Fin 3)].i else reconstruct ps[(0 : Fin 3)].i ps[(1 : Fin 3)].i
  let mask := fun (f : Fin 3 → Bool) => b2n (f 0) + 2 * b2n (f 1) + 4 * b2n (f 2)
  let ov := mask fun i => ps[i].ovld
  let q := mask v + 8 * b2n (!all) + 2 ^ 13 * ov + 2 ^ 16 * b2n (o.trip != 0)
  let s := ((s.setReg (R.ISN_IU n.val) iu).setReg (R.ISN_IV n.val) iv).setReg (R.ISN_IW n.val) iw
  let s := (s.setReg (R.ISN_TS n.val) (windowTs k late s)).setReg (R.ISN_QUAL n.val) (BitVec.ofNat 36 q)
  let s := if all then s else s.incFld F.ISN_REC_CNT
  let s := if ov = 0 then s else pendSrc 124 s
  let s := if maxAbs [iu, iv, iw] ≤ (s.reg (R.COM_LOCKI n.val)).toInt then lockRestart n s else s
  triggerAtSample n (pendSrc (120 + n.val) s)

/-- The bus channel, anchored to the bank that ISN_CTRL.BUSB names. -/
def busSample (n : Fin 2) (late : Option Nat) (o : OwedSample) (s : State) : State :=
  if s.fldB F.ISN_CTRL_ENB && decide (s.fld F.ISN_CTRL_BUSB = n.val) then
    let k := osrLog (s.fld (F.ISN_CFG_OSR n.val))
    match late.bind fun l => channelX 6 k l s with
    | none => noteMissing 1 ((s.setFld F.ISN_QUALB_STALE 1).incFld F.ISN_QUALB_AGE)
    | some x =>
      let ov := overloaded k x
      let q := 1 + 2 ^ 13 * b2n ov + 2 ^ 16 * b2n (o.trip != 0)
      let s := (s.setReg R.ISN_IBUS (channelCurrent 6 k x s)).setReg R.ISN_TSB (windowTs k (late.getD 0) s)
      let s := s.setReg R.ISN_QUALB (BitVec.ofNat 36 q)
      pendSrc 122 (if ov then pendSrc 124 s else s)
  else s

/-- The sample of one period of bank n. -/
def samplePeriod (n : Fin 2) (o : OwedSample) (s : State) : State :=
  let en := if n = 0 then s.fldB F.ISN_CTRL_EN0 else s.fldB F.ISN_CTRL_EN1
  let late := bitsAfter (anchorOf n o s) s
  let s :=
    if en then
      let ps := Vector.ofFn fun i : Fin 3 => phaseSample n i late o s
      let s := noteMissing (ps.toList.filter fun p => !p.complete).length s
      if 2 ≤ (ps.toList.filter fun p => p.valid).length then freshSample n (late.getD 0) o ps s else staleSample n s
    else s
  busSample n late o s

/-- ISN_SAMPLE of bank n, once per period when the bits of its window are in: the sample that the ended period owes first
(R291). -/
def isnSample (n : Fin 2) (s : State) : State :=
  if !s.fldB (F.PWM_CTRL_EN n.val) then s
  else match s.isn.owed[n] with
  | some o =>
    if sampleDue (anchorOf n o s) s then
      samplePeriod n o { s with isn := { s.isn with owed := s.isn.owed.set n.val none } }
    else s
  | none =>
    let o := sampleNow n s
    if !s.isn.sampled[n] && sampleDue (anchorOf n o s) s then
      samplePeriod n o { s with isn := { s.isn with sampled := s.isn.sampled.set n.val true } }
    else s

def execIsnSample (n : Fin 2) (s : State) : Host.Outcome State Fault Refusal := .next (whenClocked (isnSample n) s)

end Sys2Proof.Machine
end

