-- ==== Sys2Proof/Machine/Crypto.lean ====
section
/-! DEFINITION. SHA-256 (FIPS 180-4) and ECDSA P-256 verification (FIPS 186-5), which R510 and R528 name. PRESUMED: the
algorithms are those of the outside standards. -/

namespace Sys2Proof.Machine

/-! SHA-256 -/

/-- Bits lo to lo + n - 1 of a number. -/
def field (lo n x : Nat) : Nat := x / 2 ^ lo % 2 ^ n

/-- The round constants: sixteen to a number, the first round's in its top 32 bits. -/
def shaRow : Nat → Nat
  | 0 =>
    0x428a2f9871374491b5c0fbcfe9b5dba53956c25b59f111f1923f82a4ab1c5ed5 * 2 ^ 256
      + 0xd807aa9812835b01243185be550c7dc372be5d7480deb1fe9bdc06a7c19bf174
  | 1 =>
    0xe49b69c1efbe47860fc19dc6240ca1cc2de92c6f4a7484aa5cb0a9dc76f988da * 2 ^ 256
      + 0x983e5152a831c66db00327c8bf597fc7c6e00bf3d5a7914706ca635114292967
  | 2 =>
    0x27b70a852e1b21384d2c6dfc53380d13650a7354766a0abb81c2c92e92722c85 * 2 ^ 256
      + 0xa2bfe8a1a81a664bc24b8b70c76c51a3d192e819d6990624f40e3585106aa070
  | _ =>
    0x19a4c1161e376c082748774c34b0bcb5391c0cb34ed8aa4a5b9cca4f682e6ff3 * 2 ^ 256
      + 0x748f82ee78a5636f84c878148cc7020890befffaa4506cebbef9a3f7c67178f2

/-- The constant of round i. -/
def shaK (i : Nat) : Nat := field (32 * (15 - i % 16)) 32 (shaRow (i / 16))

/-- The initial digest, its first word in the top 32 bits. -/
def shaInit : Nat := 0x6a09e667bb67ae853c6ef372a54ff53a510e527f9b05688c1f83d9ab5be0cd19

/-- A 32-bit word turned right by n, where 0 < n < 32. -/
def rotr32 (x n : Nat) : Nat := field n 32 (x * (2 ^ 32 + 1))

/-- The exclusive or of a word turned right by each of the amounts. -/
def turns (x : Nat) (l : List Nat) : Nat := l.foldl (fun a n => a ^^^ rotr32 x n) 0

/-- Word i of a chaining value of 256 bits (0 the most significant). -/
def shaWord (v i : Nat) : Nat := field (32 * (7 - i)) 32 v

/-- One round with message word w and constant k: the words move down one place, and two of the new ones take in the
rest. -/
def shaRound (v w k : Nat) : Nat :=
  let x := shaWord v
  let pick := (x 4 &&& x 5) ||| ((2 ^ 32 - 1 - x 4) &&& x 6)
  let most := (x 0 &&& (x 1 ||| x 2)) ||| (x 1 &&& x 2)
  let t := x 7 + turns (x 4) [6, 11, 25] + pick + k + w
  let u := turns (x 0) [2, 13, 22] + most
  (t + u) % 2 ^ 32 * 2 ^ 224 + v / 2 ^ 160 * 2 ^ 128 + (x 3 + t) % 2 ^ 32 * 2 ^ 96 + field 32 96 v

/-- The message word that follows a window of sixteen, the oldest in its top 32 bits. -/
def shaNext (win : Nat) : Nat :=
  let x := fun i => field (32 * (15 - i)) 32 win
  (x 0 + (turns (x 1) [7, 18] ^^^ (x 1 / 2 ^ 3)) + x 9 + (turns (x 14) [17, 19] ^^^ (x 14 / 2 ^ 10))) % 2 ^ 32

/-- The last n of the 64 rounds, with the window of message words moving on by one word a round. -/
def shaRounds : Nat → Nat → Nat → Nat
  | 0, _, v => v
  | n + 1, win, v =>
    shaRounds n (win % 2 ^ 480 * 2 ^ 32 + shaNext win) (shaRound v (win / 2 ^ 480) (shaK (63 - n)))

/-- The sum, word by word, of two chaining values. -/
def shaAdd (v w : Nat) : Nat :=
  (List.range 8).foldl (fun a i => a * 2 ^ 32 + (shaWord v i + shaWord w i) % 2 ^ 32) 0

/-- A block of 64 octets. -/
def shaBlock (h : Nat) (blk : List Nat) : Nat := shaAdd h (shaRounds 64 (natBE blk) h)

/-- The blocks of a message in order; the fuel bounds their number. -/
def shaBlocks : Nat → Nat → List Nat → Nat
  | 0, h, _ => h
  | n + 1, h, m => if m.isEmpty then h else shaBlocks n (shaBlock h (m.take 64)) (m.drop 64)

/-- SHA-256 of an octet string, as a number of 256 bits. -/
def sha256 (m : List Nat) : Nat :=
  let z := (119 - m.length % 64) % 64
  let p := m ++ [0x80] ++ List.replicate z 0 ++ octetsBE 8 (8 * m.length)
  shaBlocks (p.length / 64) shaInit p

/-- SHA-256 over words packed under R48. -/
def shaOfWords (l : List Word) : Nat := sha256 (packWords l)

/-- Eight words that hold 32 bits each, most significant word first (R524). -/
def natOfWords (l : List Word) : Nat := l.foldl (fun a w => a * 2 ^ 32 + w.toNat % 2 ^ 32) 0

def wordsOfNat : Nat → Nat → List Word
  | 0, _ => []
  | n + 1, x => BitVec.ofNat 36 (x / 2 ^ (32 * n) % 2 ^ 32) :: wordsOfNat n x

/-! ECDSA P-256 -/

def p256p : Nat := 0xffffffff00000001000000000000000000000000ffffffffffffffffffffffff
def p256n : Nat := 0xffffffff00000000ffffffffffffffffbce6faada7179e84f3b9cac2fc632551
def p256b : Nat := 0x5ac635d8aa3a93e7b3ebbd55769886bc651d06b0cc53b0f63bce3c3e27d2604b
def p256gx : Nat := 0x6b17d1f2e12c4247f8bce6e563a440f277037d812deb33a0f4a13945d898c296
def p256gy : Nat := 0x4fe342e2fe1a7f9b8ee7eb4a7c0f9e162bce33576b315ececbb6406837bf51f5

/-- a^e mod m over the low n bits of e. -/
def powMod (m : Nat) : Nat → Nat → Nat → Nat
  | 0, _, _ => 1 % m
  | n + 1, a, e => (if e % 2 = 1 then a else 1) * powMod m n (a * a % m) (e / 2) % m

/-- The inverse modulo a prime below 2^256. -/
def invMod (m a : Nat) : Nat := powMod m 256 (a % m) (m - 2)

/-- A point of the curve; none is the point at infinity. -/
abbrev EcPoint := Option (Nat × Nat)

def ecAdd (a b : EcPoint) : EcPoint :=
  match a, b with
  | none, q => q
  | p, none => p
  | some (x1, y1), some (x2, y2) =>
    let p := p256p
    if x1 = x2 ∧ (y1 + y2) % p = 0 then none
    else
      let l :=
        if x1 = x2 then (3 * x1 * x1 + (p - 3)) * invMod p (2 * y1) % p
        else (y2 + (p - y1)) * invMod p (x2 + (p - x1)) % p
      let x3 := (l * l + (p - x1) + (p - x2)) % p
      some (x3, (l * (x1 + (p - x3)) + (p - y1)) % p)

/-- k times a point, over the low n bits of k. -/
def ecMul : Nat → Nat → EcPoint → EcPoint
  | 0, _, _ => none
  | n + 1, k, a => ecAdd (if k % 2 = 1 then a else none) (ecMul n (k / 2) (ecAdd a a))

/-- Is (x, y) on the curve? -/
def onCurve (x y : Nat) : Bool :=
  decide (x < p256p) && decide (y < p256p)
    && decide (y * y % p256p = (x * x * x + (p256p - 3) * x + p256b) % p256p)

/-- Does the signature (r, s) over a message digest verify under the public key (x, y)? -/
def ecdsaOk (x y r s digest : Nat) : Bool :=
  if onCurve x y ∧ 0 < r ∧ r < p256n ∧ 0 < s ∧ s < p256n then
    let w := invMod p256n s
    match ecAdd (ecMul 256 (digest * w % p256n) (some (p256gx, p256gy))) (ecMul 256 (r * w % p256n) (some (x, y))) with
    | some (x1, _) => decide (x1 % p256n = r)
    | none => false
  else false

end Sys2Proof.Machine
end

