-- ==== Sys2Proof/Machine/Memc.lean ====
section
/-! DEFINITION. The memory controller: the sealed bank and its wipe, error correction and its write-back, the MRAM write
queue and scrub, and the march test engine (R456 to R476, R479). -/

namespace Sys2Proof.Machine

/-! Places -/

def inSram (a : Nat) : Bool := decide (a < 0x100000)
def inMram (a : Nat) : Bool := decide (0x200000 ≤ a) && decide (a < 0x400000)
def inAom (a : Nat) : Bool := decide (0x400000 ≤ a) && decide (a < 0x401000)

/-- The SRAM bank of an address (R456). -/
def bankOf (a : Nat) : Nat := a / 0x10000

/-- Every word of a bank at 0 with valid check bits (R461, R471). -/
def clearBank (b : Nat) (s : State) : State :=
  let out := fun (a : Nat) => !(inSram a && decide (bankOf a = b))
  { s with
    mem := s.mem.filter fun c => out c.1
    memc := { s.memc with upsets := s.memc.upsets.filter fun u => out u.1, wb := s.memc.wb.filter fun w => out w.1 } }

/-- Have n ns of DTIME passed since t? -/
def elapsed (s : State) (t : DWord) (n : Nat) : Bool := decide (t.toNat + n ≤ s.dlk.dtime.toNat)

def poisoned (s : State) (b : Nat) : Bool := bit (s.reg R.MEMC_POISON) b
def setPoison (b : Nat) (p : Bool) (s : State) : State :=
  s.setReg R.MEMC_POISON (putBits (s.reg R.MEMC_POISON) b 1 (b2n p))

/-! The wipe of the sealed bank (R461) -/

/-- A wipe starts, or starts again at the first word (R479); a march of bank 15 ends there. -/
def startWipe (s : State) : State :=
  let s := (clearBank 15 (s.setFld F.MEMC_STAT_WIPE 1)).incFld F.MEMC_WIPECNT_CNT
  let s := { s with memc := { s.memc with wipeAt := s.dlk.dtime } }
  match s.memc.march with
  | some m =>
    if maskHas m.banks 15 then
      { s with memc := { s.memc with march := some { m with banks := m.banks - 2 ^ 15, cut := true } } }
    else s
  | none => s

/-- A wipe ends (R461, R159). -/
def wipeComplete (s : State) : State :=
  if s.fldB F.MEMC_STAT_WIPE then (s.setFld F.MEMC_STAT_WIPE 0).setFld F.XLA_KEYSTAT_LOADED 0 else s

/-- WIPE_COMPLETE, due after 65,536 words at 4 an LCLK cycle. -/
def wipeDone (s : State) : State := if elapsed s s.memc.wipeAt 32768 then wipeComplete s else s

def execWipeComplete (s : State) : Host.Outcome State Fault Refusal := .next (wipeDone s)

/-- TAMPER_EVENT of detector i (R461): its bit, TAMP, and a wipe, which waits for the wake in DEEP. The detectors do not run
in OFF. -/
def tamperEvent (i : Fin 4) (s : State) : State :=
  if s.pwr.pstate = .off then s
  else
    let s := hoistFlag 115 (s.setReg R.MEMC_TAMP (putBits (s.reg R.MEMC_TAMP) i.val 1 1))
    if s.pwr.pstate = .deep then s.setFld F.MEMC_STAT_TPEND 1 else startWipe s

def execTamperEvent (i : Fin 4) (s : State) : Host.Outcome State Fault Refusal := .next (tamperEvent i s)

/-! Error correction (R459, R462) -/

def upsetAt (s : State) (a : Nat) : Option Upset := (s.memc.upsets.find? fun u => u.1 == a).map (·.2)

/-- A word of a memory is found upset in a given way. -/
def setUpset (a : Nat) (u : Upset) (s : State) : State :=
  { s with memc := { s.memc with upsets := (a, u) :: s.memc.upsets.filter fun v => v.1 != a } }

/-- The upset word corrected in the array. -/
def dropUpset (a : Nat) (s : State) : State :=
  { s with memc := { s.memc with
      upsets := s.memc.upsets.filter fun u => u.1 != a
      wb := s.memc.wb.filter fun w => w.1 != a } }

/-- A corrected read: ECCC, the count, the record, and the write-back under WBEN. -/
def corrected (a b : Nat) (s : State) : State :=
  let s := hoistFlag 108 s
  let s := if inMram a then s.incFld F.MEMC_ECCCNT_MRAM else s.incFld F.MEMC_ECCCNT_SRAM
  let s := s.setReg R.MEMC_ECCADDR (BitVec.ofNat 36 (a + b * 2 ^ 24 + 2 ^ 30))
  if s.fldB F.MEMC_CTRL_WBEN then
    { s with memc := { s.memc with wb := (a, s.dlk.dtime) :: s.memc.wb.filter fun w => w.1 != a } }
  else s

/-- A read that cannot be corrected: ECCU, the record, source 249. -/
def uncorrected (a : Nat) (s : State) : State :=
  pendSrc 249 ((hoistFlag 109 s).setReg R.MEMC_UEADDR (BitVec.ofNat 36 (a + 2 ^ 24)))

/-- The outcome of reading a stored word through its code: is the data good? -/
def eccRead (a : Nat) (s : State) : State × Bool :=
  match upsetAt s a with
  | none => (s, true)
  | some (.oneBit b) => (corrected a b s, true)
  | some (.twoBits b) => if inMram a then (corrected a b s, true) else (uncorrected a s, false)
  | some .uncorrectable => (uncorrected a s, false)

/-- ECC_WRITE_BACK: a pending corrected word is written back in a free cycle of the bank, or dropped when none has arrived
within 64 LCLK cycles of the read (R459). -/
def eccWriteBack (a : Nat) (s : State) : State :=
  match s.memc.wb.find? fun w => w.1 == a with
  | none => s
  | some w =>
    if elapsed s w.2 129 then { s with memc := { s.memc with wb := s.memc.wb.filter fun x => x.1 != a } } else dropUpset a s

def execEccWriteBack (a : Nat) (s : State) : Host.Outcome State Fault Refusal := .next (eccWriteBack a s)

/-! The MRAM write queue (R463) -/

/-- The oldest queued word reaches the array. -/
def mramWriteComplete (s : State) : State :=
  match s.memc.mq with
  | [] => s
  | w :: r => { s with memc := { s.memc with mq := r, mqAt := s.dlk.dtime } }.setWord w.addr w.val

/-- MRAM_WRITE_COMPLETE, due 60 ns after the word's write began (R463). -/
def mramWritten (s : State) : State := if elapsed s s.memc.mqAt 60 then mramWriteComplete s else s

def execMramWriteComplete (s : State) : Host.Outcome State Fault Refusal := .next (mramWritten s)

/-- Every queued word reaches the array. -/
def drainMram (s : State) : State := forN s.memc.mq.length (fun _ s => mramWriteComplete s) s

/-! Tags (R66, R67) -/

/-- A source's first tag and the number of its tags: the shares stand in the order of the source codes. -/
def tagShare (src : Nat) : Nat × Nat :=
  if src < 4 then (16 * src, 16)
  else if src < 7 then (64 + 8 * (src - 4), 8)
  else if src < 9 then (88 + 16 * (src - 7), 16)
  else if src = 9 then (120, 8)
  else (0, 0)

/-- Tags of transactions that have had no response: writes in the MRAM queue, and store errors on their way (R76, R463). -/
def tagsOut (s : State) : List (BitVec 7) :=
  s.memc.mq.filterMap (·.tag) ++ (s.cores.toList.map fun c => c.stErr.map (·.tag)).flatten ++ s.sdp.stErr.map (·.tag)

/-- The lowest tag of a source that is not in flight. -/
def freeTag (src : Nat) (s : State) : Option (BitVec 7) :=
  let p := tagShare src
  ((List.range p.2).map fun i => BitVec.ofNat 7 (p.1 + i)).find? fun t => !(tagsOut s).contains t

/-- A source whose tags are all in flight waits until a queued write of the MRAM frees one. -/
def awaitTag (src : Nat) : Nat → State → State
  | 0, s => s
  | n + 1, s => if (tagShare src).2 = 0 ∨ (freeTag src s).isSome then s else awaitTag src n (mramWriteComplete s)

/-- Writes of a source that wait in the MRAM queue for their response (R73, R463). -/
def queuedOf (src : Nat) (s : State) : Nat := (s.memc.mq.filter fun w => w.src == src && w.tag.isSome).length

/-- Abandon a source's queued writes: the responses are discarded and the tags are free (R198). DESIGN CHOICE: the words still
reach the array. -/
def abandon (src : Nat) (s : State) : State :=
  { s with memc := { s.memc with mq := s.memc.mq.map fun w => if w.src = src then { w with tag := none } else w } }

/-- A write enters the queue under a tag of its source; a full queue stalls it until the oldest word is in the array. -/
def mramEnqueue (src a : Nat) (v : Word) (s : State) : State :=
  let s := awaitTag src 16 (if s.memc.mq.length < 16 then s else mramWriteComplete s)
  { s with memc := { s.memc with
      mq := s.memc.mq ++ [⟨src, freeTag src s, a, v⟩]
      mqAt := if s.memc.mq.isEmpty then s.dlk.dtime else s.memc.mqAt } }

/-- The queued value of an address: the youngest write to it. -/
def queued (s : State) (a : Nat) : Option Word := (s.memc.mq.reverse.find? fun w => w.addr == a).map (·.val)

/-- Writes to the array until none to a word of the block [a, a + n) is queued. -/
def drainBlock (a n : Nat) : Nat → State → State
  | 0, s => s
  | k + 1, s =>
    if s.memc.mq.any fun w => decide (a ≤ w.addr) && decide (w.addr < a + n) then drainBlock a n k (mramWriteComplete s)
    else s

/-! The scrub (R465) -/

/-- One word of a scrub block. -/
def scrubWord (a : Nat) (s : State) : State :=
  match upsetAt s a with
  | none => s
  | some .uncorrectable =>
    let s := (hoistFlag 111 s).setReg R.MEMC_SCRADDR (BitVec.ofNat 36 (a + 2 ^ 24))
    pendSrc 251 (s.incFld F.MEMC_SCRCNT_UNC)
  | some _ => (dropUpset a s).incFld F.MEMC_SCRCNT_CORR

/-- A block falls due after 659.2 ms of counted time; blocks that fall due in SLEEP are read after the wake (R465, R484). -/
def scrubNs : Nat := 659200000

/-- SCRUB_BLOCK: the block at the scrub position is read once it is due, after any queued write to it; `found` are the upsets
that have arisen in its words (by offset) by then. -/
def scrubBlock (found : List (Fin 16 × Upset)) (s : State) : State :=
  if s.fldB F.MEMC_CTRL_SCREN ∧ (s.pwr.pstate = .run ∨ s.pwr.pstate = .idle) ∧ scrubNs ≤ s.memc.scrubNs then
    let s := { s with memc := { s.memc with scrubNs := s.memc.scrubNs - scrubNs } }
    let b := s.fld F.MEMC_SCRPOS_BLOCK
    let a := 0x200000 + 16 * b
    let s := drainBlock a 16 16 s
    let s := found.foldl (fun s f => setUpset (a + f.1.val) f.2 s) s
    let s := forN 16 (fun i s => scrubWord (a + i) s) s
    if b = 0x1FFFF then (s.setFld F.MEMC_SCRPOS_BLOCK 0).incFld F.MEMC_SCRPOS_PASS
    else s.setFld F.MEMC_SCRPOS_BLOCK (b + 1)
  else s

def execScrubBlock (found : List (Fin 16 × Upset)) (s : State) : Host.Outcome State Fault Refusal :=
  .next (scrubBlock found s)

/-! The march test engine (R470 to R476) -/

/-- May the destructive form run at run time (R471)? -/
def destructiveAllowed (s : State) : Bool :=
  decide (s.lcState = lcTest) || decide (s.lcState = lcDevelop) || decide (s.lcState = lcReturned)

/-- Does a destructive march hold the bank (R471)? -/
def marching (s : State) (b : Nat) : Bool :=
  match s.memc.march with
  | some m => m.form && maskHas m.banks b
  | none => false

/-- Is a START refused (R473)? -/
def marchRefused (s : State) : Bool :=
  s.memc.march.isSome || decide (s.fld F.MEMC_MCFG_BANKS = 0)
    || (s.fldB F.MEMC_MCFG_REPAIR && !s.fldB F.MEMC_MCFG_FORM)
    || (s.fldB F.MEMC_MCFG_FUSE && decide (s.lcState ≠ lcTest))
    || (s.fldB F.MEMC_MCFG_FORM && !destructiveAllowed s)

/-- A march begins with the configuration of MEMC_MCFG; records of the march before are cleared. -/
def marchBegin (s : State) : State :=
  let m : MarchRun :=
    { banks := s.fld F.MEMC_MCFG_BANKS, form := s.fldB F.MEMC_MCFG_FORM
      repair := s.fldB F.MEMC_MCFG_REPAIR, fuse := s.fldB F.MEMC_MCFG_FUSE, cut := false
      bg := s.fld F.MEMC_MCFG_BG, allbg := s.fldB F.MEMC_MCFG_ALLBG, at_ := s.dlk.dtime }
  let s := (s.setReg R.MEMC_MSTAT 1).setReg R.MEMC_MFAIL 0
  { s.setFld F.MEMC_STAT_MBUSY 1 with memc := { s.memc with march := some m } }

/-- MEMC_MCMD.START (R473). -/
def marchStart (s : State) : State := if marchRefused s then s.setFld F.MEMC_MSTAT_STATE 6 else marchBegin s

/-- The march leaves the engine with a final STATE. -/
def marchStop (st : Nat) (s : State) : State :=
  { (s.setFld F.MEMC_STAT_MBUSY 0).setFld F.MEMC_MSTAT_STATE st with memc := { s.memc with march := none } }

/-- The banks of a mask. -/
def bankList (m : Nat) : List Nat := (List.range 16).filter fun b => maskHas m b

/-- MEMC_MCMD.ABORT (R473). -/
def marchAbort (s : State) : State :=
  match s.memc.march with
  | none => s
  | some m => marchStop 5 (if m.form then (bankList m.banks).foldl (fun s b => setPoison b true s) s else s)

/-- A write of MEMC_MCMD. -/
def memcCmd (v : Word) (s : State) : State :=
  let s := if bit v 1 then marchAbort s else s
  if bit v 0 then marchStart s else s

def lowBit44 (d : BitVec 44) : Nat := ((List.range 44).find? fun i => d.getLsbD i).getD 0

/-- Count failing reads and record the first of the march (R474). -/
def recordFails (rs : List FailRead) (s : State) : State :=
  let s := s.incFld F.MEMC_MFCNT_CNT rs.length
  match rs with
  | [] => s
  | r :: _ =>
    if s.fldB F.MEMC_MFAIL_V then s
    else s.setReg R.MEMC_MFAIL (BitVec.ofNat 36
      (r.addr % 2 ^ 24 + lowBit44 r.diff * 2 ^ 24 + r.elem % 8 * 2 ^ 30 + r.bg % 4 * 2 ^ 33 + 2 ^ 35))

/-- A failing cell: row (address bits [15:7]) and bit. -/
abbrev FailCell := Nat × Nat

def cellsOfRead (r : FailRead) : List FailCell :=
  ((List.range 44).filter fun i => r.diff.getLsbD i).map fun i => (r.addr / 128 % 512, i)

/-- The distinct failing cells of a bank. -/
def cellsOf (rs : List FailRead) (b : Nat) : List FailCell :=
  (((rs.filter fun r => decide (bankOf r.addr = b)).map cellsOfRead).flatten).eraseDups

/-- Spares still free: rows of 4 and columns of 2, in number (R475, R476). -/
def freeRows (s : State) (b : Nat) : Nat := 4 - popNat 4 (s.fld (F.MEMC_REP_RF b) ||| s.fld (F.MEMC_REP_RS b))
def freeCols (s : State) (b : Nat) : Nat := 2 - popNat 2 (s.fld (F.MEMC_REP_CF b) ||| s.fld (F.MEMC_REP_CS b))

/-- Spares taken so far: rows and columns. -/
structure Spares where
  rows : List Nat
  cols : List Nat
deriving DecidableEq, Repr

def Spares.covers (p : Spares) (c : FailCell) : Bool := p.rows.contains c.1 || p.cols.contains c.2

/-- Take a spare column for bit i while one is free. -/
def takeCol (nc : Nat) (i : Nat) (p : Spares) : Spares :=
  if p.cols.length < nc then { p with cols := p.cols ++ [i] } else p

def takeRow (nr : Nat) (r : Nat) (p : Spares) : Spares :=
  if p.rows.length < nr then { p with rows := p.rows ++ [r] } else p

/-- The allocation of R475, steps 1 to 4; none when a cell stays uncovered. -/
def allocate (nr nc : Nat) (cells : List FailCell) : Option Spares :=
  let bits := (List.range 44).filter fun i => decide (4 < (cells.filter fun c => c.2 == i).length)
  let p1 := bits.foldl (fun p i => takeCol nc i p) ⟨[], []⟩
  let rows := (List.range 512).filter fun r => decide (2 < (cells.filter fun c => c.1 == r && !p1.cols.contains c.2).length)
  let p2 := rows.foldl (fun p r => takeRow nr r p) p1
  let p3 := (List.range 512).foldl (fun p r => if cells.any fun c => c.1 == r && !p.covers c then takeRow nr r p else p) p2
  let p4 := (List.range 44).foldl (fun p i => if cells.any fun c => c.2 == i && !p.covers c then takeCol nc i p else p) p3
  if cells.all p4.covers then some p4 else none

/-- The map `used` with k more of its n spares taken, lowest free ones first. -/
def takeBits (k n used : Nat) : Nat :=
  ((List.range n).foldl (fun (m : Nat × Nat) i =>
    if m.2 > 0 ∧ !maskHas (used ||| m.1) i then (m.1 + 2 ^ i, m.2 - 1) else m) (0, k)).1

/-- Apply an allocation to bank b: in soft use, or programmed into fuses (R476). -/
def applyRepair (fuse : Bool) (b : Nat) (p : Spares) (s : State) : State :=
  let nr := takeBits p.rows.length 4 (s.fld (F.MEMC_REP_RF b) ||| s.fld (F.MEMC_REP_RS b))
  let nc := takeBits p.cols.length 2 (s.fld (F.MEMC_REP_CF b) ||| s.fld (F.MEMC_REP_CS b))
  if fuse then
    (s.setFld (F.MEMC_REP_RF b) (s.fld (F.MEMC_REP_RF b) ||| nr)).setFld (F.MEMC_REP_CF b) (s.fld (F.MEMC_REP_CF b) ||| nc)
  else
    (s.setFld (F.MEMC_REP_RS b) (s.fld (F.MEMC_REP_RS b) ||| nr)).setFld (F.MEMC_REP_CS b) (s.fld (F.MEMC_REP_CS b) ||| nc)

/-- Repair one failing bank and judge its repeat march; true when it is repaired. -/
def repairBank (m : MarchRun) (reads again : List FailRead) (b : Nat) (s : State) : State × Bool :=
  let cells := cellsOf reads b
  if 64 < cells.length then (s, false)
  else match allocate (freeRows s b) (freeCols s b) cells with
    | none => (s, false)
    | some p => (applyRepair m.fuse b p s, !(again.any fun r => decide (bankOf r.addr = b)))

/-- The end of a march over its banks: repairs, the failing and the unrepairable banks. -/
def marchResults (m : MarchRun) (reads again : List FailRead) (s : State) : State × Nat × Nat :=
  (bankList m.banks).foldl (fun (acc : State × Nat × Nat) b =>
    let (s, fail, unrep) := acc
    if reads.any fun r => decide (bankOf r.addr = b) then
      if m.repair then
        let (s, ok) := repairBank m reads again b s
        (s, fail + 2 ^ b, if ok then unrep else unrep + 2 ^ b)
      else (s, fail + 2 ^ b, unrep)
    else (s, fail, unrep)) (s, 0, 0)

/-- STATE at the completion (R475, R479). -/
def marchState (m : MarchRun) (fail unrep : Nat) : Nat :=
  if m.cut then 5 else if fail = 0 then 2 else if unrep ≠ 0 ∨ !m.repair then 4 else 3

/-- The destructive form leaves a bank at 0 and dips its poison (R471). -/
def marchClears (m : MarchRun) (s : State) : State :=
  if m.form then (bankList m.banks).foldl (fun s b => setPoison b false (clearBank b s)) s else s

/-- Failing reads that the march can meet: in its banks, its backgrounds and the elements of its form (R470, R472). -/
def marchRead (m : MarchRun) (r : FailRead) : Bool :=
  maskHas m.banks (bankOf r.addr) && decide (r.diff ≠ 0) && decide (1 ≤ r.elem) && decide (r.elem ≤ if m.form then 5 else 4)
    && decide (r.bg < 4) && (!m.form || m.allbg || decide (r.bg = m.bg))

/-- Is a repeat march made: has a bank with failing reads been given spares (R475)? -/
def marchRepeats (m : MarchRun) (reads : List FailRead) (s : State) : Bool :=
  m.repair && (bankList m.banks).any fun b =>
    let cells := cellsOf reads b
    !cells.isEmpty && decide (cells.length ≤ 64) && (allocate (freeRows s b) (freeCols s b) cells).isSome

/-- The time of the march in ns: 1.310720 ms a background, and as much again for the repeat (R470, R472). -/
def marchNs (m : MarchRun) (reads : List FailRead) (s : State) : Nat :=
  1310720 * (if m.form && m.allbg then 4 else 1) * (if marchRepeats m reads s then 2 else 1)

/-- A march ends with the failing reads of its run and those of the repeat on repaired banks (R474, R475). -/
def marchComplete (reads again : List FailRead) (s : State) : State :=
  match s.memc.march with
  | none => s
  | some m =>
    let reads := reads.filter (marchRead m)
    let again := if m.repair then again.filter (marchRead m) else []
    let s := recordFails again (recordFails reads s)
    let (s, fail, unrep) := marchResults m reads again s
    let s := (s.setFld F.MEMC_MSTAT_FAILB fail).setFld F.MEMC_MSTAT_UNREP unrep
    let s := if fail = 0 then s else hoistFlag 112 s
    pendSrc 248 (marchStop (marchState m fail unrep) (marchClears m s))

/-- MARCH_COMPLETE, once the march has had its time. -/
def marchDone (reads again : List FailRead) (s : State) : State :=
  match s.memc.march with
  | none => s
  | some m => if elapsed s m.at_ (marchNs m (reads.filter (marchRead m)) s) then marchComplete reads again s else s

def execMarchComplete (reads again : List FailRead) (s : State) : Host.Outcome State Fault Refusal :=
  .next (marchDone reads again s)

end Sys2Proof.Machine
end

