-- ==== Sys2Proof/Machine/Lockstep.lean ====
section
/-! DEFINITION. Lock-step pairs: halt, self-test verdicts, restart, retirement and take-over (R192 to R217). -/

namespace Sys2Proof.Machine

/-! Pair states (R217, P0ST) -/

def psReset : Nat := 0
def psJoined : Nat := 1
def psSplit : Nat := 2
def psHalted : Nat := 3
def psTesting : Nat := 4
def psSingle : Nat := 5
def psRetired : Nat := 6
def psDebug : Nat := 7

def pairFld (p : Fin 2) : Fld := if p = 0 then F.LSC_STAT_P0ST else F.LSC_STAT_P1ST
def State.pst (s : State) (p : Fin 2) : Nat := s.fld (pairFld p)
def setPst (p : Fin 2) (v : Nat) (s : State) : State := s.setFld (pairFld p) v

def leadOf (p : Fin 2) : Fin 4 := if p = 0 then 0 else 2
def shadowOf (p : Fin 2) : Fin 4 := if p = 0 then 1 else 3
def pairOfCore (k : Fin 4) : Fin 2 := if k.val < 2 then 0 else 1

/-- Core health codes (R217, LSC_CORES). -/
def hcInUse : Nat := 0
def hcFailed : Nat := 1
def hcParked : Nat := 2
def hcSingle : Nat := 3

def State.health (s : State) (k : Fin 4) : Nat := s.fld ⟨R.LSC_CORES, 2 * k.val, 2⟩
def setHealth (k : Fin 4) (v : Nat) (s : State) : State := s.setFld ⟨R.LSC_CORES, 2 * k.val, 2⟩ v

/-- Is the pair the safety pair? -/
def isSafety (s : State) (p : Fin 2) : Bool := decide (s.safetyPair = p.val)

/-- Is the pair retired, with or without a core running single? -/
def pairRetired (s : State) (p : Fin 2) : Bool := decide (s.pst p = psRetired) || decide (s.pst p = psSingle)

/-- Accesses of the core that have had no response: store errors on their way, and writes that wait in the MRAM queue
(R73, R463). -/
def inFlight (c : Core) (k : Fin 4) (s : State) : Nat :=
  c.stErr.length + queuedOf k.val s

/-- The other core of a pair. -/
def otherCore (k : Fin 4) : Fin 4 := if k = leadOf (pairOfCore k) then shadowOf (pairOfCore k) else leadOf (pairOfCore k)

/-- Does a core wait in JOIN, its timeout not expired? -/
def joinWaits (c : Core) : Bool := match c.wait with | .join _ => !c.joinOver | _ => false

/-- Is the copy of a JOIN under way: both cores have arrived and no access of theirs is outstanding (R212)? -/
def joinCopying (p : Fin 2) (s : State) : Bool :=
  s.split[p] && joinWaits s.cores[leadOf p] && joinWaits s.cores[shadowOf p] &&
    decide (inFlight s.cores[leadOf p] (leadOf p) s = 0) && decide (inFlight s.cores[shadowOf p] (shadowOf p) s = 0)

/-- Replace one core's record. -/
def State.setCoreOnly (s : State) (k : Fin 4) (c : Core) : State := { s with cores := s.cores.set k.val c }

/-- A core taken out of the stream: nothing of it waits or is on its way. -/
def Core.off (c : Core) (r : CoreRun) : Core :=
  { c with run := r, wait := .none, stErr := [], slot0 := none, joinLeft := none, joinOver := false, afterIret := false }

/-- Stop issue in both cores and abandon their outstanding transactions (R198). -/
def haltCores (p : Fin 2) (s : State) : State :=
  let h := fun (c : Core) => c.off .halted
  let s := abandon (shadowOf p).val (abandon (leadOf p).val s)
  (s.setCoreOnly (leadOf p) (h s.cores[leadOf p])).setCoreOnly (shadowOf p) (h s.cores[shadowOf p])

/-- Halt a pair (R198): source 16 or 17. -/
def haltPair (p : Fin 2) (s : State) : State := pendSrc (16 + p.val) (setPst p psHalted (haltCores p s))

/-- The lane's reaction to a halt of its safety pair (R199, R200): SAFE cause 3 in HALF-MAST, withdrawal without XODD, LEAVE
in the current frame, JINH. -/
def safetyHalted (s : State) : State :=
  let s := if s.hal.inHalfMast then safeCause 3 s else s
  let s := withdraw s
  { s with xla := { s.xla with leave := true } }.setFld F.LSC_STAT_JINH 1

/-- Queue a halted pair for the core self-test; the first in the queue is under test (R202, R208). -/
def startSelfTest (p : Fin 2) (s : State) : State :=
  if s.lsc.testQ.contains p then s
  else
    let s := { s with lsc := { s.lsc with testQ := s.lsc.testQ ++ [p] } }
    if s.lsc.testQ.head? = some p then setPst p psTesting s else s

/-- Take a pair out of the self-test queue; the next one comes under test (R202, R208). -/
def dropTest (p : Fin 2) (s : State) : State :=
  let q := s.lsc.testQ.filter (· ≠ p)
  let s := { s with lsc := { s.lsc with testQ := q } }
  match q with
  | n :: _ => setPst n psTesting s
  | [] => s

/-- The core is not in debug mode any more (R219). -/
def undebug (k : Fin 4) (s : State) : State :=
  (s.setCoreOnly k { s.cores[k] with dhalt := false }).setFld ⟨R.DBG_STAT, 2 + k.val, 1⟩ 0

/-- Set cores of a pair aside until the next power-on reset, with their health codes (R203, R217). -/
def setAside (p : Fin 2) (leadHc shadowHc : Nat) (s : State) : State :=
  let park := fun (c : Core) => c.off .parked
  let s := undebug (shadowOf p) (undebug (leadOf p) (abandon (shadowOf p).val (abandon (leadOf p).val s)))
  let s := (s.setCoreOnly (leadOf p) (park s.cores[leadOf p])).setCoreOnly (shadowOf p) (park s.cores[shadowOf p])
  let s := setHealth (shadowOf p) shadowHc (setHealth (leadOf p) leadHc s)
  let s := dropTest p { s with split := s.split.set p.val false }
  setPst p psRetired s

/-- A pair is retired: source 21 (R203, R218). -/
def retirePair (p : Fin 2) (leadHc shadowHc : Nat) (s : State) : State := pendSrc 21 (setAside p leadHc shadowHc s)

/-- A core as a lane reset leaves it, released at an address (R57, R64). -/
def coreAt (entry : Nat) : Core := { coreReset with pc := BitVec.ofNat 36 entry, run := .running }

/-- Restart a pair, joined and in lock-step, in secure mode (R204); with a debugger attached the shadow stays stopped
(R214). -/
def restartPair (p : Fin 2) (entry : Nat) (s : State) : State :=
  let att := s.fldB F.DBG_STAT_ATTACHED
  let sh := { coreAt entry with run := if att then .stopped else .running }
  let s := undebug (shadowOf p) (undebug (leadOf p) (abandon (shadowOf p).val (abandon (leadOf p).val s)))
  let s := (s.setCoreOnly (leadOf p) (coreAt entry)).setCoreOnly (shadowOf p) sh
  let s := dropTest p { s with split := s.split.set p.val false }
  setPst p (if att then psDebug else psJoined) s

def rentry (s : State) (p : Nat) : Nat := s.fld (F.LSC_RENTRY_ADDR p)

/-- The good core of a pair retired with verdict 2 or 3 runs single when SGLEN is 1 (R206). -/
def startSingle (k : Fin 4) (s : State) : State :=
  if s.fldB F.LSC_CTRL_SGLEN then
    let c := coreAt (rentry s 1)
    let c := { c with c := c.c.set 0 (putBits c.c[0] 15 1 1) }
    setPst (pairOfCore k) psSingle (setHealth k hcSingle (s.setCoreOnly k c))
  else s

/-- P1 becomes the safety pair and restarts at LSC_RENTRY0 (R205). -/
def takeOverNow (s : State) : State :=
  let s := restartPair 1 (rentry s 0) s
  let s := { s with lsc := { s.lsc with takeover := false } }
  pendSrc 20 (hoistFlag 4 (s.setFld F.LSC_STAT_SPAIR 1))

/-- Both pairs have failed permanently (R207). -/
def bothPairsFailed (s : State) : State := if strikable s then strike 2 s else s

/-- Take-over after P0 is retired (R205): at once, after P1's verdict, or never when P1 is retired. -/
def takeOver (s : State) : State :=
  if pairRetired s 1 then bothPairsFailed s
  else if s.lsc.testQ.contains 1 then { s with lsc := { s.lsc with takeover := true } }
  else if s.pst 1 = psHalted then takeOverNow s
  else takeOverNow (haltPair 1 s)

/-- Verdict codes 2 to 5: the pair is retired (R203). -/
def retireByVerdict (p : Fin 2) (code : Nat) (s : State) : State :=
  match code with
  | 2 => startSingle (shadowOf p) (retirePair p hcFailed hcParked s)
  | 3 => startSingle (leadOf p) (retirePair p hcParked hcFailed s)
  | 4 => retirePair p hcFailed hcFailed s
  | _ => retirePair p hcParked hcParked (hoistFlag 5 s)

def verdFld (p : Fin 2) : Fld := if p = 0 then F.LSC_VERD_V0 else F.LSC_VERD_V1
def tcntFld (p : Fin 2) : Fld := if p = 0 then F.LSC_TCNT_T0 else F.LSC_TCNT_T1

/-- The results of the comparator injection of a pair (R209, R210). -/
def recordInj (p : Fin 2) (j : PairInj) (s : State) : State :=
  let g := j.groups.toNat
  let s := s.setFld (F.LSC_INJL_GRP p.val) g
  let s := (s.setFld (F.LSC_INJH_GRP p.val) (g / 2 ^ 36)).setFldB (F.LSC_INJH_CLEAN p.val) j.clean
  (s.setFldB (F.LSC_INJH_CHK p.val) j.chk).setFld (F.LSC_INJH_DONE p.val) 1

/-- Core self-tests aborted by a power-state entry: verdict 6 for the pair under test and for one that waits behind it, and no
action. DESIGN CHOICE: a take-over that waited for the verdict is dropped with it (R203, R205). -/
def abortTests (s : State) : State :=
  let s := s.lsc.testQ.foldl (fun s p => setPst p psHalted (pendSrc (18 + p.val) (s.setFld (verdFld p) 6))) s
  if s.lsc.testQ.isEmpty then s else { s with lsc := { s.lsc with testQ := [], takeover := false } }

/-- Does P0, the safety pair, stay halted whatever its self-test finds, because P1 is retired? DEDUCED from R207: the lane is then
fail-silent and stays so, so that verdict 1 restarts nothing. -/
def staysSilent (p : Fin 2) (s : State) : Bool := decide (p = 0) && isSafety s 0 && pairRetired s 1

/-- Record a verdict and act on it (R203); with `stay` the safety pair is not restarted. -/
def applyVerdict (stay : Bool) (p : Fin 2) (code : Nat) (s : State) : State :=
  let safety := isSafety s p
  let s := pendSrc (18 + p.val) (s.setFld (verdFld p) code)
  let s := dropTest p s
  if code = 1 then
    let s := s.incFld (tcntFld p)
    if safety then (if stay then setPst p psHalted s else restartPair p (rentry s 0) s)
    else if s.lsc.takeover then takeOverNow s
    else if s.fldB F.LSC_CTRL_P1RS then restartPair p (rentry s 1) s
    else setPst p psHalted s
  else
    let s := retireByVerdict p code s
    if safety then (if p = 0 then takeOver s else bothPairsFailed s)
    else if s.lsc.takeover then bothPairsFailed { s with lsc := { s.lsc with takeover := false } }
    else s

/-- The code of a self-test in which the lead and the shadow passed or failed (R203). -/
def verdictCode (p : Fin 2) (leadOk shadowOk : Bool) (s : State) : Nat :=
  match leadOk, shadowOk with
  | true, true => if s.fld (tcntFld p) = 0 then 1 else 5
  | false, true => 2
  | true, false => 3
  | false, false => 4

/-- SELF_TEST_VERDICT: the self-test of the pair under test completes (R202, R203). -/
def selfTestVerdict (p : Fin 2) (leadOk shadowOk : Bool) (s : State) : State :=
  if s.lsc.testQ.head? = some p then
    applyVerdict (staysSilent p s) p (verdictCode p leadOk shadowOk s) s
  else s

def execSelfTestVerdict (p : Fin 2) (leadOk shadowOk : Bool) (s : State) : Host.Outcome State Fault Refusal :=
  .next (whenClocked (selfTestVerdict p leadOk shadowOk) s)

/-- Lowest-numbered set group of a mask (R217). -/
def lowestGroup (g : BitVec 64) : Nat := ((List.range 64).find? fun i => g.getLsbD i).getD 0

def popGroups (g : BitVec 64) : Nat := popNat 64 g.toNat

/-- LSC_MMp records the lowest unequal group, whether there were more, and the shadow's retire PC (R198, R217). -/
def recordMismatch (p : Fin 2) (groups : BitVec 64) (pc : Addr) (s : State) : State :=
  s.setReg (R.LSC_MM p.val) (BitVec.ofNat 36
    (lowestGroup groups + b2n (decide (1 < popGroups groups)) * 2 ^ 6 + pc.toNat * 2 ^ 7 + 2 ^ 31))

def mmcntFld (p : Fin 2) : Fld := if p = 0 then F.LSC_MMCNT_C0 else F.LSC_MMCNT_C1

/-- COMPARATOR_MISMATCH: an unequal code in some groups of a joined pair whose comparator is enabled, or during the copy
of a JOIN, whose state is then discarded (R198 to R200, R208). -/
def comparatorMismatch (p : Fin 2) (groups : BitVec 64) (pc : Addr) (s : State) : State :=
  if (s.pst p = psJoined ∨ joinCopying p s) ∧ groups ≠ 0 ∧ !s.fldB F.DBG_STAT_ATTACHED then
    let s := recordMismatch p groups pc (hoistFlag 0 (haltPair p s))
    let s := s.incFld (mmcntFld p)
    let s := if isSafety s p then safetyHalted s else s
    startSelfTest p s
  else s

def execComparatorMismatch (p : Fin 2) (groups : BitVec 64) (pc : Addr) (s : State) :
    Host.Outcome State Fault Refusal := .next (whenClocked (comparatorMismatch p groups pc) s)

/-- COMPARATOR_FAULT: an invalid code at the root (R196): CMPF, and STRUCK with cause 3; an unequal code of the same cycle
is recorded only. -/
def comparatorFault (p : Fin 2) (groups : BitVec 64) (pc : Addr) (s : State) : State :=
  let s := if groups ≠ 0 then recordMismatch p groups pc (hoistFlag 0 s) else s
  let s := hoistFlag 1 s
  if strikable s ∨ s.lstate = lsDebug then strike 3 s else s

def execComparatorFault (p : Fin 2) (groups : BitVec 64) (pc : Addr) (s : State) :
    Host.Outcome State Fault Refusal := .next (whenClocked (comparatorFault p groups pc) s)

/-- XLA_DUPLICATE_MISMATCH: XLAF, the withdrawal of R144, then STRUCK with cause 4 (R161, R196). -/
def xlaDuplicateMismatch (s : State) : State :=
  let s := hoistFlag 13 s
  let s := if s.lstate = lsVoting then pendSrc 27 (setXlaTrip (hoistFlag 9 s)) else s
  if strikable s ∨ s.lstate = lsDebug then strike 4 s else s

def execXlaDuplicateMismatch (s : State) : Host.Outcome State Fault Refusal := .next (whenClocked xlaDuplicateMismatch s)

/-- RESTART1 (R217): P1 halted and not the safety pair. DESIGN CHOICE: a P1 whose verdict a take-over waits for is left to
that verdict (R205). -/
def lscRestart1 (s : State) : State :=
  if s.pst 1 = psHalted ∧ !isSafety s 1 ∧ !s.lsc.takeover then restartPair 1 (rentry s 1) s else s

/-- RETIRE1 (R217). DESIGN CHOICE: where a take-over waits for P1, both pairs have then failed (R205, R207). -/
def lscRetire1 (s : State) : State :=
  if !isSafety s 1 ∧ s.pst 1 ≠ psRetired then
    let s := retirePair 1 hcParked hcParked s
    if s.lsc.takeover then bothPairsFailed { s with lsc := { s.lsc with takeover := false } } else s
  else s

def lscCmd (v : Word) (s : State) : State :=
  let s := if bit v 0 then lscRestart1 s else s
  if bit v 1 then lscRetire1 s else s

/-- A joined pair halts by double trap (R89, R201): DTRAP, no self-test, a verdict at once. -/
def doubleTrapPair (p : Fin 2) (s : State) : State :=
  let s := haltPair p (hoistFlag 2 s)
  let s := if isSafety s p then safetyHalted s else s
  applyVerdict false p (if s.fld (tcntFld p) = 0 then 1 else 5) s

/-- A core running single halts by double trap and is parked (R206). -/
def doubleTrapSingle (k : Fin 4) (s : State) : State :=
  let s := hoistFlag 2 s
  let s := undebug k ((abandon k.val s).setCoreOnly k (s.cores[k].off .parked))
  let p := pairOfCore k
  pendSrc (16 + p.val) (setPst p psRetired (setHealth k hcParked s))

/-- A core of a split pair halts alone by double trap (R89). -/
def doubleTrapSplit (k : Fin 4) (s : State) : State :=
  let s := hoistFlag 2 s
  (abandon k.val s).setCoreOnly k (s.cores[k].off .halted)

/-- A trap taken while STATUS.TH is 1 (R89). -/
def doubleTrap (k : Fin 4) (s : State) : State :=
  let p := pairOfCore k
  if s.pst p = psSingle then doubleTrapSingle k s
  else if s.split[p] then doubleTrapSplit k s
  else doubleTrapPair p s

end Sys2Proof.Machine
end

