-- ==== Sys2Proof/Machine/LaneReset.lean ====
section
/-! DEFINITION. The lane reset and the power-on reset: what they clear and what they keep (R13, R35, R162, R204, R465,
R466, R480, R495, R502, R503, R217, R547). -/

namespace Sys2Proof.Machine

/-- Reset causes of SYS_RSTCAUSE (R535). -/
def rcPowerOn : Nat := 1
def rcSysRst : Nat := 2
def rcClock : Nat := 3
def rcWake : Nat := 4
def rcLife : Nat := 5

/-- Forms of the start-up (R506, R537). -/
def formCold : Nat := 1
def formWarm : Nat := 2
def formWake : Nat := 3

/-- Registers that every lane reset other than the power-on reset keeps: the PWR and RTC blocks, the clock-fault count, the
scrub position, the tamper record, the core health and verdict counts. -/
def keptReg (a : Nat) : Bool :=
  decide (a / 0x1000 = 0x801) || decide (a / 0x1000 = 0x806) || decide (a = R.CLK_RCNT) || decide (a = R.MEMC_SCRPOS)
    || decide (a = R.MEMC_TAMP) || decide (a = R.LSC_TCNT) || decide (a = R.LSC_CORES)

/-- MEMC_REPn of a bank whose soft repairs a wake from DEEP keeps (R476). -/
def keptRepair (kept a : Nat) : Bool := (List.range 16).any fun b => decide (a = R.MEMC_REP b) && maskHas kept b

/-- The memories of the SDP, which a lane reset clears with valid check bits (R325). -/
def sdpMemory (a : Nat) : Bool := decide (0x850400 ≤ a) && decide (a < 0x851000)

/-- A reset cuts the write queue of the MRAM (R547): the word being written holds its old or its new value, the others are
lost. -/
def cutMram (s : State) : State :=
  match s.memc.mq with
  | [] => s
  | w :: _ =>
    let s1 := { s with memc := { s.memc with mq := [] } }.useFree
    if bit s.freeVal 0 then s1.setWord w.addr w.val else s1

/-- The state that a reset leaves, with the registers and memory words that `keepR` and `keepM` name: the fuses, the RTC, the
gate-drive die (a die of its own), the scrub's time (R465) and the queue of commands stay; the debug port closes (R215). -/
def resetTo (keepR keepM : Nat → Bool) (s : State) : State :=
  { State.reset with
    lane := s.lane
    regs := s.regs.filter fun c => keepR c.1
    mem := s.mem.filter fun c => keepM c.1
    memc := { State.reset.memc with upsets := s.memc.upsets.filter (fun u => keepM u.1), scrubNs := s.memc.scrubNs }
    pwr := { s.pwr with startDue := none, fullBist := false, noClaim := false, clkOver := 0, putAt := none }
    rtc := { s.rtc with tickAt := 0 }
    lcy := { fuses := s.lcy.fuses, lastSeq := none, keys := none }
    die := s.die
    tap := testLogicReset s.tap
    freeCtr := s.freeCtr
    pending := s.pending }

/-- The lane reset of a form with its cause: the lane is OFFLINE, drives no claim and sends nothing (R35, R162, R165). A core
self-test that it aborts leaves verdict 6 (R203). -/
def laneReset (form cause : Nat) (s : State) : State :=
  let strk := s.fld F.HAL_RSTAT_STRKCAUSE
  let tested := s.lsc.testQ.head?
  let keepR := fun a => keptReg a || (decide (form = formWake) && keptRepair s.pwr.kept a)
  let s := resetTo keepR (fun a => !sdpMemory a) (cutMram s)
  let s := (s.setFld F.HAL_RSTAT_STRKCAUSE strk).setFld F.SYS_RSTCAUSE_CAUSE cause
  let s := match tested with
    | some p => s.setFld (verdFld p) 6
    | none => s
  { s with pwr := { s.pwr with startDue := some form } }

/-- The power-on reset: only the MRAM, the fuses and the RTC domain keep anything (R13, R466, R495). -/
def powerReset (s : State) : State :=
  let s := resetTo (fun a => decide (a / 0x1000 = 0x806)) inMram (cutMram s)
  { s with pwr := pwrReset, tap := State.reset.tap }

/-- POWER_ON_RESET (R547). -/
def execPowerOnReset (s : State) : Host.Outcome State Fault Refusal := .next (powerReset s)

/-- CLOCK_FAULT (R35, R500): counted, and the lane resets itself. -/
def clockFault (s : State) : State :=
  if clocked s then
    let n := satInc (s.fld F.CLK_RCNT_CNT) 1 8
    (laneReset formWarm rcClock s).setFld F.CLK_RCNT_CNT n
  else s

def execClockFault (s : State) : Host.Outcome State Fault Refusal := .next (clockFault s)

end Sys2Proof.Machine
end

