-- ==== Sys2Proof/Machine/Overlay.lean ====
section
/-! DEFINITION. The image directory and the configuration window with its overlays (R524 to R527). -/

namespace Sys2Proof.Machine

/-! The image directory (R524) -/

def dirBase : Nat := 0x302000
def dirW (s : State) (i : Nat) : Word := s.word (dirBase + i)
def dirLen (s : State) : Nat := getBits (dirW s 1) 0 21
def dirBoot (s : State) : Nat := getBits (dirW s 2) 0 24
def dirCfga (s : State) : Nat := getBits (dirW s 3) 0 24
def dirWlen (s : State) : Nat := getBits (dirW s 4) 0 13
def dirCwbase (s : State) : Nat := getBits (dirW s 5) 0 24

/-- Is overlay k (1 to 15) marked present? -/
def ovlPresent (s : State) (k : Nat) : Bool := decide (1 ≤ k) && decide (k ≤ 15) && bit (dirW s 6) k

def ovlBase (k : Nat) : Nat := 0x300000 + 0x200 * (k - 1)
def ovlNent (s : State) (k : Nat) : Nat := getBits (s.word (ovlBase k)) 12 8

/-- The initial overlay of a module address (R524). -/
def strapOverlay (s : State) (a : Nat) : Nat := getBits (dirW s (7 + a / 9)) (4 * (a % 9)) 4

/-! The window (R525) -/

/-- The content of a copy that holds overlay k: the base block with the overlay's entries written in their order. -/
def windowOf (s : State) (k : Nat) : List Word :=
  let base := s.words (dirCfga s) (dirWlen s)
  if ovlPresent s k then
    (List.range (ovlNent s k)).foldl (fun w e =>
      w.set (getBits (s.word (ovlBase k + 1 + 2 * e)) 0 12) (s.word (ovlBase k + 2 + 2 * e))) base
  else base

def copyBase (s : State) (c : Nat) : Nat := dirCwbase s + 0x1000 * c

/-- Step 7: copy 0 with the overlay that the strap table gives (R506, R525). -/
def buildByStraps (s : State) : State :=
  let k := strapOverlay s (s.pwr.strap / 4)
  let eff := if ovlPresent s k then k else 0
  let s := s.setWords (copyBase s 0) (windowOf s eff)
  let s := ((s.setFld F.SYS_OVLSTAT_STRAPOVL k).setFld F.SYS_OVLSTAT_ACT eff).setFld F.SYS_OVLSTAT_TGT eff
  (s.setFld F.SYS_OVLSTAT_CWSEL 0).setFld F.SYS_OVLSTAT_READY 1

/-! Switching (R526, R527) -/

def setOvl (f : OvlHidden → OvlHidden) (s : State) : State := { s with ovl := f s.ovl }

def olat (s : State) : Nat := Nat.max 2 (s.fld F.SYS_OVLCFG_OLAT)

/-- The word `i` of the active committed buffer. -/
def committedWord (i : Nat) (s : State) : Word := s.word (s.fld F.XLA_OSBASE_OSBASE + 16 + 16 * s.fld F.XLA_COMMIT_BUF + i)

/-- Is OLAT × T at least the building bound with NENT = 255? -/
def ovenOk (v : Word) (s : State) : Bool :=
  decide (2000 + 20 * (dirWlen s + 255) ≤ Nat.max 2 (getBits v 5 6) * s.fld F.XLA_TFRAME_TFRAME)

/-- A write of SYS_OVLCFG: OVEN is refused below the bound. -/
def ovlcfgWrite (v : Word) (s : State) : State :=
  let v := v &&& 0x7FF
  s.setReg R.SYS_OVLCFG (if bit v 0 && !ovenOk v s then putBits v 0 1 0 else v)

/-- The exchange due at this frame start; a copy that is not complete makes the lane leave. -/
def ovlExchange (s : State) : State :=
  match s.ovl.from_ with
  | none => s
  | some fr =>
    let age := (s.frame - fr).toNat
    if age < olat s then s
    else if s.ovl.built then
      let s := s.setFld F.SYS_OVLSTAT_CWSEL (1 - s.fld F.SYS_OVLSTAT_CWSEL)
      let s := (s.setFld F.SYS_OVLSTAT_ACT (s.fld F.SYS_OVLSTAT_TGT)).setFld F.SYS_OVLSTAT_OVLATE 0
      setOvl (fun o => { o with from_ := none, built := false }) s
    else if age = olat s then
      { s.setFld F.SYS_OVLSTAT_OVLATE 1 with xla := { s.xla with leave := true } }
    else s

/-- The request read from the newly committed set. -/
def ovlRequest (s : State) : State :=
  if !s.fldB F.SYS_OVLCFG_OVEN then s
  else
    let v := getBits (committedWord (s.fld F.SYS_OVLCFG_OWIDX) s) 0 4
    let bad := decide (v ≠ 0) && !ovlPresent s v
    let t := if bad then 0 else v
    let s := s.setFldB F.SYS_OVLSTAT_BADREQ bad
    if t = s.fld F.SYS_OVLSTAT_TGT then s
    else
      let s := s.setFld F.SYS_OVLSTAT_TGT t
      if t = s.fld F.SYS_OVLSTAT_ACT then
        setOvl (fun o => { o with from_ := none, built := false }) (s.setFld F.SYS_OVLSTAT_BUILD 0)
      else setOvl (fun o => { o with from_ := some s.frame, built := false }) (s.setFld F.SYS_OVLSTAT_BUILD 1)

/-- What the overlay logic does at a frame start. -/
def ovlFrameStart (s : State) : State := ovlRequest (ovlExchange s)

/-- OVERLAY_BUILD_COMPLETE: the inactive copy holds the target. -/
def overlayBuildComplete (s : State) : State :=
  if s.fldB F.SYS_OVLSTAT_BUILD then
    let s := s.setWords (copyBase s (1 - s.fld F.SYS_OVLSTAT_CWSEL)) (windowOf s (s.fld F.SYS_OVLSTAT_TGT))
    setOvl (fun o => { o with built := true }) (s.setFld F.SYS_OVLSTAT_BUILD 0)
  else s

def execOverlayBuildComplete (s : State) : Host.Outcome State Fault Refusal := .next (whenClocked overlayBuildComplete s)

end Sys2Proof.Machine
end

