-- ==== Sys2Proof/Machine/Sio.lean ====
section
/-! DEFINITION. The tick, two-channel inputs, test pulses and output tests of the SIO (R376 to R388). -/

namespace Sys2Proof.Machine

def setSio (f : SioHidden → SioHidden) (s : State) : State := { s with sio := f s.sio }

/-! Channels: index i is A of pair i, index 8 + i is B -/

def pairOf16 (c : Fin 16) : Nat := c.val % 8
def chanPol (c : Fin 16) (s : State) : Bool :=
  if c.val < 8 then s.fldB (F.SIO_ICFG_APOL c.val) else s.fldB (F.SIO_ICFG_BPOL (c.val - 8))
/-- The TPO that the channel selects; 4 none. -/
def chanTps (c : Fin 16) (s : State) : Nat :=
  if c.val < 8 then s.fld (F.SIO_ICFG_ATPS c.val) else s.fld (F.SIO_ICFG_BTPS (c.val - 8))

/-! Schedules: instants of LTIME (R376, R381, R386). LTIME advances by 1 to 3 ns a cycle, so the cycle of an instant is the first
within 3 ns of it. -/

/-- The latest start of pulses k of 4 with a period of `per` ms, at or before t. -/
def pulseStart (per k t : Nat) : Option Nat :=
  if t < k * per * 250000 then none else some ((t - k * per * 250000) / (per * 1000000) * (per * 1000000) + k * per * 250000)

/-- The pulse that starts in this cycle, but for one that has started already. -/
def pulseDue (per k : Nat) (was : Option DWord) (s : State) : Option DWord :=
  match pulseStart per k s.ltime.toNat with
  | some t => if s.ltime.toNat < t + 3 ∧ was ≠ some (BitVec.ofNat 72 t) then some (BitVec.ofNat 72 t) else none
  | none => none

/-- Is LTIME at least n ns past t, or has it been stepped back before t (R30)? -/
def sinceLt (t : Option DWord) (n : Nat) (s : State) : Bool :=
  match t with
  | some t => decide (t.toNat + n ≤ s.ltime.toNat) || decide (s.ltime.toNat < t.toNat)
  | none => false

/-- The pulse of TPO k that starts in this cycle (R381). -/
def tpoDue (k : Fin 4) (s : State) : Option DWord :=
  if s.fldB F.SIO_CTRL_TPEN then pulseDue (s.fld F.SIO_TPCFG_TPPER) k.val s.sio.tpAt[k] s else none

/-- The tick of this cycle, but for one already made (R376: no tick is repeated). -/
def tickDue (s : State) : Option DWord :=
  let t := BitVec.ofNat 72 (s.ltime.toNat / 100000 * 100000)
  if s.ltime.toNat % 100000 < 3 ∧ s.sio.tickAt ≠ some t then some t else none

/-- Is the test window of TPO k open: the pulse in progress or starting, or TPSET not yet past its end (R382)? -/
def windowOpen (k : Nat) (s : State) : Bool :=
  maskHas (s.fld F.SIO_TPSTAT_WIN) k || (tpoDue (Fin.ofNat 4 k) s).isSome ||
    (match s.sio.winEnd.toList.getD k none with
      | some t => decide (s.ltime.toNat < t.toNat)
      | none => false)

def chanMasked (c : Fin 16) (s : State) : Bool := decide (chanTps c s < 4) && windowOpen (chanTps c s) s

def setBit16 (x : BitVec 16) (c : Fin 16) (b : Bool) : BitVec 16 :=
  if b then x ||| BitVec.twoPow 16 c.val else x &&& ~~~(BitVec.twoPow 16 c.val)

/-- One channel at a tick (R377). -/
def tickChannel (pins : BitVec 16) (s : State) (c : Fin 16) : State :=
  if chanMasked c s then s
  else
    let v := pins.getLsbD c.val != chanPol c s
    let run := if v = s.sio.acc.getLsbD c.val then 0 else s.sio.run[c] + 1
    let accept := decide (s.fld (F.SIO_ICFG_DEB (pairOf16 c)) + 1 ≤ run)
    setSio (fun h => { h with
      acc := if accept then setBit16 h.acc c v else h.acc
      run := h.run.set c.val (if accept then 0 else run)
      last := setBit16 h.last c v }) s

/-- The value of a channel: its accepted value, 0 when forced. -/
def chanValue (c : Fin 16) (s : State) : Bool := s.sio.acc.getLsbD c.val && !s.sio.forced.getLsbD c.val

def chanA (i : Fin 8) : Fin 16 := ⟨i.val, by omega⟩
def chanB (i : Fin 8) : Fin 16 := ⟨i.val + 8, by omega⟩

/-- A discrepancy latches (R379). -/
def latchPair (i : Fin 8) (s : State) : State :=
  let s := s.setFld F.SIO_IRES_DLAT (maskPut (s.fld F.SIO_IRES_DLAT) i.val true)
  let s := hoistFlag 76 (s.setFld F.SIO_FLT_DISCP (maskPut (s.fld F.SIO_FLT_DISCP) i.val true))
  pendSrc 170 (s.incFld F.SIO_DCNT_CNT)

/-- The latch and discrepancy counter of pair i at a tick (R379, R380). -/
def tickLatch (i : Fin 8) (s : State) : State :=
  let a := chanValue (chanA i) s
  let b := chanValue (chanB i) s
  if maskHas (s.fld F.SIO_IRES_DLAT) i.val then
    if !a && !b then s.setFld F.SIO_IRES_STG1 (maskPut (s.fld F.SIO_IRES_STG1) i.val true)
    else if a && b && maskHas (s.fld F.SIO_IRES_STG1) i.val then
      let s := s.setFld F.SIO_IRES_DLAT (maskPut (s.fld F.SIO_IRES_DLAT) i.val false)
      pendSrc 171 (s.setFld F.SIO_IRES_STG1 (maskPut (s.fld F.SIO_IRES_STG1) i.val false))
    else s
  else if chanMasked (chanA i) s || chanMasked (chanB i) s then s
  else
    let k := if a = b then 0 else s.sio.disc[i] + 1
    if 0 < k ∧ s.fld (F.SIO_ICFG_DISCT i.val) ≤ k then
      latchPair i (setSio (fun h => { h with disc := h.disc.set i.val 0 }) s)
    else setSio (fun h => { h with disc := h.disc.set i.val k }) s

/-- The result of pair i (R378). -/
def pairResult (i : Fin 8) (s : State) : Bool :=
  s.fldB (F.SIO_ICFG_PEN i.val) && chanValue (chanA i) s && chanValue (chanB i) s
    && !maskHas (s.fld F.SIO_IRES_DLAT) i.val

def pairs : List (Fin 8) := [0, 1, 2, 3, 4, 5, 6, 7]
def chans : List (Fin 16) := [0, 1, 2, 3, 4, 5, 6, 7, 8, 9, 10, 11, 12, 13, 14, 15]

def mask8 (f : Fin 8 → Bool) : Nat := (pairs.filter f).foldl (fun m i => m + 2 ^ i.val) 0

/-- The work of a tick: the inputs while EN is 1 (R376), and the outputs (R385). -/
def tickBody (pins : BitVec 16) (s : State) : State :=
  if s.fldB F.SIO_CTRL_EN then
    let s := chans.foldl (tickChannel pins) s
    let s := pairs.foldl (fun s i => if s.fldB (F.SIO_ICFG_PEN i.val) then tickLatch i s else s) s
    let was := s.fld F.SIO_IRES_RES
    let res := mask8 fun i => pairResult i s
    let s := s.setFld F.SIO_IRES_RES res
    let s := s.setFld F.SIO_IRES_FORCED
      (mask8 fun i => s.sio.forced.getLsbD i.val || s.sio.forced.getLsbD (i.val + 8))
    let s := (s.setFld F.SIO_ICH_A (mask8 fun i => chanValue (chanA i) s)).setFld F.SIO_ICH_B
      (mask8 fun i => chanValue (chanB i) s)
    let s := (s.setFld F.SIO_ICH_AMSK (mask8 fun i => chanMasked (chanA i) s)).setFld F.SIO_ICH_BMSK
      (mask8 fun i => chanMasked (chanB i) s)
    let s := pendSrc 168 s
    sioEval (if res = was then s else pendSrc 169 s)
  else sioEval s

/-- SIO_TICK with the pin levels of the 16 channels at the tick instant; nothing where LTIME is at no tick. -/
def sioTick (pins : BitVec 16) (s : State) : State :=
  match tickDue s with
  | some t => tickBody pins (setSio (fun h => { h with tickAt := some t }) s)
  | none => s

def execSioTick (pins : BitVec 16) (s : State) : Host.Outcome State Fault Refusal := .next (whenClocked (sioTick pins) s)

/-! Test pulses on inputs (R381 to R383) -/

/-- TEST_PULSE_START of TPO k, at its instant. -/
def testPulseStart (k : Fin 4) (s : State) : State :=
  match tpoDue k s with
  | some t =>
    let s := s.setFld F.SIO_TPSTAT_LVL (maskPut (s.fld F.SIO_TPSTAT_LVL) k.val false)
    let s := s.setFld F.SIO_TPSTAT_WIN (maskPut (s.fld F.SIO_TPSTAT_WIN) k.val true)
    setSio (fun h => { h with
      winEnd := h.winEnd.set k.val none, tpAt := h.tpAt.set k.val (some t), tpDone := maskPut h.tpDone k.val false }) s
  | none => s

def execTestPulseStart (k : Fin 4) (s : State) : Host.Outcome State Fault Refusal := .next (whenClocked (testPulseStart k) s)

/-- TEST_PULSE_END, TPW us after the start: the output goes high and the window runs on for TPSET. -/
def testPulseEnd (k : Fin 4) (s : State) : State :=
  let w := 1000 * s.fld F.SIO_TPCFG_TPW
  if maskHas (s.fld F.SIO_TPSTAT_WIN) k.val && sinceLt s.sio.tpAt[k] w s then
    let t := s.sio.tpAt[k].getD 0 + BitVec.ofNat 72 (w + 1000 * s.fld F.SIO_TPCFG_TPSET)
    let s := s.setFld F.SIO_TPSTAT_WIN (maskPut (s.fld F.SIO_TPSTAT_WIN) k.val false)
    let s := s.setFld F.SIO_TPSTAT_LVL (maskPut (s.fld F.SIO_TPSTAT_LVL) k.val (s.fldB F.SIO_CTRL_TPEN))
    setSio (fun h => { h with winEnd := h.winEnd.set k.val (some t) }) s
  else s

def execTestPulseEnd (k : Fin 4) (s : State) : Host.Outcome State Fault Refusal := .next (whenClocked (testPulseEnd k) s)

/-- Force or free a channel. -/
def forceChan (c : Fin 16) (b : Bool) (s : State) : State := setSio (fun h => { h with forced := setBit16 h.forced c b }) s

/-- A fault of test-pulse output k: every channel that selects it is treated as having a test fault. -/
def tpoFault (k : Fin 4) (s : State) : State :=
  let s := hoistFlag 77 (s.setFld F.SIO_FLT_TPOF (maskPut (s.fld F.SIO_FLT_TPOF) k.val true))
  pendSrc 173 (chans.foldl (fun s c => if chanTps c s = k.val then forceChan c true s else s) s)

/-- The start of the pulse of TPO k that is at most 5 us ahead, where the check before it has not been made. -/
def preDue (k : Fin 4) (s : State) : Option DWord :=
  match pulseStart (s.fld F.SIO_TPCFG_TPPER) k.val (s.ltime.toNat + 5000) with
  | some t =>
    if s.fldB F.SIO_CTRL_TPEN && decide (s.ltime.toNat < t) && decide (s.sio.preFor[k] ≠ some (BitVec.ofNat 72 t)) then
      some (BitVec.ofNat 72 t)
    else none
  | none => none

/-- TPO_PRE_CHECK: 5 µs before the pulse, TPO k must read above 3.0 V. -/
def tpoPreCheck (k : Fin 4) (high : Bool) (s : State) : State :=
  match preDue k s with
  | some t =>
    let s := setSio (fun h => { h with preFail := h.preFail.set k.val (!high), preFor := h.preFor.set k.val (some t) }) s
    if high then s else tpoFault k s
  | none => s

def execTpoPreCheck (k : Fin 4) (high : Bool) (s : State) : Host.Outcome State Fault Refusal := .next (whenClocked (tpoPreCheck k high) s)

/-- A channel fails its check: TPF, its flag, its count, source 172. -/
def chanFault (c : Fin 16) (s : State) : State :=
  let s := if c.val < 8 then s.setFld F.SIO_FLT_TPFA (maskPut (s.fld F.SIO_FLT_TPFA) c.val true)
    else s.setFld F.SIO_FLT_TPFB (maskPut (s.fld F.SIO_FLT_TPFB) (c.val - 8) true)
  pendSrc 172 ((hoistFlag 77 (forceChan c true s)).incFld F.SIO_TPFCNT_CNT)

/-- TEST_PULSE_CHECK: 5 µs before the end of the pulse of TPO k: does it read below 1.0 V, and which channel pins read
high? -/
def testPulseCheck (k : Fin 4) (tpoLow : Bool) (pins : BitVec 16) (s : State) : State :=
  if maskHas (s.fld F.SIO_TPSTAT_WIN) k.val && sinceLt s.sio.tpAt[k] (1000 * s.fld F.SIO_TPCFG_TPW - 5000) s
      && !maskHas s.sio.tpDone k.val then
    let ok := tpoLow && !s.sio.preFail[k]
    let s := chans.foldl (fun s c =>
      if chanTps c s ≠ k.val then s
      else if s.sio.last.getLsbD c.val && pins.getLsbD c.val then chanFault c s
      else if ok then forceChan c false s else s) s
    let s := if tpoLow then s else tpoFault k s
    setSio (fun h => { h with preFail := h.preFail.set k.val false, tpDone := maskPut h.tpDone k.val true }) s
  else s

def execTestPulseCheck (k : Fin 4) (tpoLow : Bool) (pins : BitVec 16) (s : State) : Host.Outcome State Fault Refusal :=
  .next (whenClocked (testPulseCheck k tpoLow pins) s)

/-! Output tests (R386 to R388) -/

/-- OUTPUT_TEST_PULSE of output n, at its instant: skipped while its commanded value is 0. -/
def outputTestPulse (n : Fin 4) (s : State) : State :=
  let due := pulseDue (s.fld F.SIO_OTCFG_OTPER) n.val s.sio.otAt[n] s
  if s.fldB (F.SIO_OCFG_OTEN n.val) && maskHas (s.fld F.SIO_OSTAT_CMD) n.val
      && !maskHas (s.fld F.SIO_OSTAT_INTEST) n.val && due.isSome then
    let s := s.setFld F.SIO_OSTAT_INTEST (maskPut (s.fld F.SIO_OSTAT_INTEST) n.val true)
    commandOutput n.val false (setSio (fun h => { h with
      discard := maskPut h.discard n.val false, otAt := h.otAt.set n.val due, otDone := maskPut h.otDone n.val false }) s)
  else s

def execOutputTestPulse (n : Fin 4) (s : State) : Host.Outcome State Fault Refusal := .next (whenClocked (outputTestPulse n) s)

/-- OUTPUT_TEST_CHECK: does the pin read above 2.0 V 5 µs before the end of the pulse? -/
def outputTestCheck (n : Fin 4) (high : Bool) (s : State) : State :=
  let due := maskHas (s.fld F.SIO_OSTAT_INTEST) n.val
    && sinceLt s.sio.otAt[n] (1000 * s.fld F.SIO_OTCFG_OTW - 5000) s && !maskHas s.sio.otDone n.val
  let s := if due then setSio (fun h => { h with otDone := maskPut h.otDone n.val true }) s else s
  if due && !maskHas s.sio.discard n.val && high then
    let s := hoistFlag 77 (s.setFld F.SIO_FLT_OSTK (maskPut (s.fld F.SIO_FLT_OSTK) n.val true))
    sioEval (pendSrc 174 (setSio (fun h => { h with stuck := maskPut h.stuck n.val true }) s))
  else s

def execOutputTestCheck (n : Fin 4) (high : Bool) (s : State) : Host.Outcome State Fault Refusal := .next (whenClocked (outputTestCheck n high) s)

/-- OUTPUT_TEST_PULSE_END, OTW us after the start: the output takes its commanded value. -/
def outputTestPulseEnd (n : Fin 4) (s : State) : State :=
  if maskHas (s.fld F.SIO_OSTAT_INTEST) n.val && sinceLt s.sio.otAt[n] (1000 * s.fld F.SIO_OTCFG_OTW) s then
    let s := s.setFld F.SIO_OSTAT_INTEST (maskPut (s.fld F.SIO_OSTAT_INTEST) n.val false)
    let s := setSio (fun h => { h with discard := maskPut h.discard n.val false }) s
    if maskHas (s.fld F.SIO_OSTAT_CMD) n.val then commandOutput n.val true s else s
  else s

def execOutputTestPulseEnd (n : Fin 4) (s : State) : Host.Outcome State Fault Refusal := .next (whenClocked (outputTestPulseEnd n) s)

/-- OUTPUT_OVERLOAD of an output that the die has on: 1.0 ms in current limit. -/
def outputOverload (n : Fin 4) (s : State) : State :=
  if !maskHas s.die.soCmd n.val then s else
  let s := s.setFld F.SIO_FLT_OOVL (maskPut (s.fld F.SIO_FLT_OOVL) n.val true)
  sioEval (pendSrc 175 (setSio (fun h => { h with ovl := maskPut h.ovl n.val true }) s))

def execOutputOverload (n : Fin 4) (s : State) : Host.Outcome State Fault Refusal := .next (whenClocked (outputOverload n) s)

/-- A write of SIO_CMD: OCLR clears the latches of the outputs it names, which follow at the next evaluation (R385). -/
def sioCmd (v : Word) (s : State) : State :=
  let keep := 15 - getBits v 0 4
  setSio (fun h => { h with stuck := h.stuck &&& keep, ovl := h.ovl &&& keep }) s

/-! Enable (R384) -/

/-- The values of the fields of R384, the limit of OIDX apart. -/
def sioFieldsOk (s : State) : Bool :=
  let pairOk := fun (i : Nat) =>
    let d := s.fld (F.SIO_ICFG_DISCT i)
    let a := s.fld (F.SIO_ICFG_ATPS i)
    let b := s.fld (F.SIO_ICFG_BTPS i)
    decide (1 ≤ d) && decide (d ≤ 5000) && decide (a ≤ 4) && decide (b ≤ 4)
      && !(s.fldB (F.SIO_ICFG_PEN i) && decide (a = b) && decide (a < 4))
      && (!s.fldB (F.SIO_ICFG_APOL i) || decide (a = 4)) && (!s.fldB (F.SIO_ICFG_BPOL i) || decide (b = 4))
  let per := fun (x : Nat) => decide (4 ≤ x) && decide (x ≤ 1000)
  let wid := fun (x : Nat) => decide (10 ≤ x) && decide (x ≤ 500)
  (List.range 8).all pairOk && ((List.range 4).all fun n => decide (s.fld (F.SIO_OCFG_SRC n) ≠ 3))
    && per (s.fld F.SIO_TPCFG_TPPER) && wid (s.fld F.SIO_TPCFG_TPW) && decide (s.fld F.SIO_TPCFG_TPSET ≤ 200)
    && per (s.fld F.SIO_OTCFG_OTPER) && wid (s.fld F.SIO_OTCFG_OTW)

/-- The conditions of R384 under which EN can be set. -/
def sioConfigOk (s : State) : Bool :=
  sioFieldsOk s && (List.range 4).all fun n =>
    decide (s.fld (F.SIO_OCFG_SRC n) = 0) || decide (s.fld (F.SIO_OCFG_OIDX n) < s.fld F.XLA_SET_NOUT)

/-- A write of SIO_CTRL: EN is checked, TPEN drives the test-pulse outputs, OEN permits the outputs from the next
evaluation on (R385). -/
def sioCtrlWrite (v : Word) (s : State) : State :=
  let was := s.fldB F.SIO_CTRL_EN
  let s := s.setReg R.SIO_CTRL (putBits (v &&& 7) 0 1 (b2n was))
  let tp := bit v 1
  let s := s.setFld F.SIO_TPSTAT_LVL (if tp then 15 - s.fld F.SIO_TPSTAT_WIN else 0)
  let s := if tp then s else s.setFld F.SIO_TPSTAT_WIN 0
  if bit v 0 then
    if was then s
    else if sioConfigOk s then (s.setFld F.SIO_CTRL_EN 1).setFld F.SIO_STAT_CFGERR 0
    else s.setFld F.SIO_STAT_CFGERR 1
  else s.setFld F.SIO_CTRL_EN 0

/-- A write of SIO_OUTSW. The outputs follow at the next evaluation (R385). -/
def sioOutswWrite (v : Word) (s : State) : State := s.setFld F.SIO_OUTSW_SW (getBits v 0 4)

/-- The frame start: the snapshot of R23, the committed values of SRC 1 and SRC 2 outputs, an evaluation (R385, R395). -/
def sioFrameStart (s : State) : State :=
  let s := s.setReg R.SIO_SRES (s.reg R.SIO_IRES)
  let src1 := (List.range 4).foldl (fun m n => if committedBit n s then m + 2 ^ n else m) 0
  sioEval (setSio (fun h => { h with src1 := src1 }) s)

end Sys2Proof.Machine
end

