-- ==== Sys2Proof/Machine/Startup.lean ====
section
/-! DEFINITION. The start-up: fuses, straps and the sealed safety configuration, self-tests, image verification, release
of the pairs; ages of the power-up tests; the full BIST sets (R390, R506 to R514, R520, R524, R537). -/

namespace Sys2Proof.Machine

def setStep (n : Nat) (s : State) : State := s.setFld F.BIST_STAT_STEP n

/-! Step 1: fuses and straps -/

/-- The life-cycle state of a fuse map: the highest transition whose fuse is blown (R520). -/
def lifeOf (f : BitVec 5) : Nat := ((List.range 5).reverse.find? fun i => f.getLsbD i).elim 0 (· + 1)

/-- The base address of the wrapped key block in the seal area; its first semiblock is never 0 when a block is stored
(DESIGN CHOICE: the seal area's layout). -/
def sealOwner : Nat := 0x3FC000
def sealKeys : Nat := 0x3FC010
def sealDigests : Nat := 0x3FC040

/-- Load the fuses into their registers; a life-cycle fuse whose copies disagree counts as blown. -/
def loadFuses (lifeBad : BitVec 5) (s : State) : State :=
  let f := s.lcy.fuses
  let lcs := lifeOf (f.life ||| lifeBad)
  let s := (s.setFld F.LCY_STATE_LCS lcs).setFldB F.LCY_STATE_OWNK f.ownerHash.isSome
  let s := (s.setFld F.LCY_STATE_FLOOR f.floor).setFldB F.LCY_STATE_FUSEERR (decide (lifeBad ≠ 0))
  let s := s.setFldB F.LCY_KSTAT_PRES (s.word sealKeys != 0)
  let s := ((s.setFldB F.SYS_BURGEE0_GRADE f.grade).setFld F.SYS_BURGEE0_LANE s.lane.val).setFld F.SYS_BURGEE0_LCS lcs
  let s := (s.setReg R.SYS_BURGEE1 (BitVec.ofNat 36 (f.uid.toNat / 2 ^ 36))).setReg R.SYS_BURGEE2 (BitVec.ofNat 36 f.uid.toNat)
  let s := forN 16 (fun b s => (s.setFld (F.MEMC_REP_RF b) (f.repRows.toList.getD b 0)).setFld (F.MEMC_REP_CF b)
    (f.repCols.toList.getD b 0)) s
  s.setFld F.CLK_STAT_PLLLK 1

/-! The sealed safety configuration (R389, R390) -/

def sealedCfg : Nat := 0x3FFF00
def cfgW (s : State) (i : Nat) : Word := s.word (sealedCfg + i)

/-- The version and the CRC of the block. -/
def sealedCrcOk (s : State) : Bool := decide (cfgW s 255 = crcWords (s.words sealedCfg 255))
def sealedVerOk (s : State) : Bool := decide (getBits (cfgW s 0) 4 4 = 1)

/-- Bits of a configuration register that hold fields. -/
def fieldMask (a : Nat) : Nat := match regRow? a with | some r => r.rw ||| r.rwl | none => 0

/-- The SIO registers that words 3 to 16 hold. -/
def sealedRegs : List Nat := (List.range 8).map R.SIO_ICFG ++ (List.range 4).map R.SIO_OCFG ++ [R.SIO_TPCFG, R.SIO_OTCFG]

/-- Reserved words and unused bits of words 0 to 31 are 0. -/
def sealedReservedOk (s : State) : Bool :=
  decide (getBits (cfgW s 1) 18 18 = 0) && decide (getBits (cfgW s 2) 18 18 = 0)
    && ((List.range 14).all fun i => decide ((cfgW s (3 + i)).toNat &&& (fieldMask (sealedRegs.getD i 0) ^^^ (2 ^ 36 - 1)) = 0))
    && ((List.range 15).all fun i => decide (cfgW s (17 + i) = 0))

/-- The configuration registers as the block gives them. -/
def loadSealed (s : State) : State :=
  (List.range 14).foldl (fun s i => s.setReg (sealedRegs.getD i 0) (cfgW s (3 + i))) s

/-- The strap part of the check. -/
def strapsOk (opens : BitVec 6) (s : State) : Bool :=
  decide (opens = 0) && decide (s.pwr.strap % 4 = s.lane.val) && decide (s.pwr.strap = getBits (cfgW s 1) (6 * s.lane.val) 6)

/-- The straps as read at the lane reset, and those that are open (R390, R395, R535, R538). -/
def strapRead (strap opens : BitVec 6) (s : State) : State :=
  let s := { s with pwr := { s.pwr with strap := strap.toNat } }
  let s := (s.setFld F.SYS_BURGEE3_STRAP strap.toNat).setFld F.SVP_CFG_ADDR (0x40 + strap.toNat)
  (s.setFld F.SIO_STAT_STRAP strap.toNat).setFld F.SIO_STAT_SOPEN opens.toNat

/-- The check and the load of the sealed block (R390, R391). Its OIDX values are checked when EN is set: XLA_SET, to which
R384 compares them, is 0 at every lane reset. -/
def sealedLoad (opens : BitVec 6) (s : State) : State :=
  let crcOk := sealedCrcOk s && sealedVerOk s
  let straps := strapsOk opens s
  let s := s.setFldB F.SIO_STAT_STRAPOK straps
  if crcOk && sealedReservedOk s && sioFieldsOk (loadSealed s) && straps then
    let s := ((loadSealed s).setFld F.SIO_STAT_CFGV 1).setFldB F.SIO_STAT_SEALD (decide (s.lcState = lcSealed))
    let node := getBits (cfgW s 2) (6 * s.lane.val) 6
    let s := ((s.setReg R.SIO_CFGID (cfgW s 0)).setFld F.SYS_BURGEE3_NODE node).setFld F.NCE_NODE_NODE node
    s.setFldB F.NCE_STAT_ISHEAD (decide (node = s.fld F.NCE_HEAD_HEAD))
  else if s.lcState = lcSealed || (sealedCrcOk s && !straps) then pendSrc 177 (hoistFlag 78 s)
  else s

/-! Steps 2 to 5 -/

/-- Step 2: the destructive march over the banks, with repair (R470 to R476, R506); true when every bank is usable; the full set runs every
background (R516, R537). -/
def startMarch (full : Bool) (banks : Nat) (r : StartUpRun) (s : State) : State × Bool :=
  let m : MarchRun :=
    { banks := banks, form := true, repair := true, fuse := false, cut := false, bg := 0, allbg := full, at_ := 0 }
  let s := { (s.setReg R.MEMC_MSTAT 1).setReg R.MEMC_MFAIL 0 with memc := { s.memc with march := some m } }
  let s := marchComplete r.reads r.again s
  (s, decide (s.fld F.MEMC_MSTAT_UNREP = 0))

/-- A pair that the start-up retires: both cores parked (R210). -/
def retireAtStart (p : Fin 2) (s : State) : State := if pairRetired s p then s else retirePair p hcParked hcParked s

/-- Pairs retired before this lane reset stay retired; a core that ran single is parked (R217). -/
def retireKept (p : Fin 2) (s : State) : State :=
  if s.health (leadOf p) = hcInUse ∧ s.health (shadowOf p) = hcInUse then s
  else
    let park := fun (h : Nat) => if h = hcSingle then hcParked else h
    setAside p (park (s.health (leadOf p))) (park (s.health (shadowOf p))) s

/-- What LSC sets from LSC_CORES at the release of a lane reset: the pair states, and P1 as the safety pair when P0 alone is
retired (R217). -/
def keptPairs (s : State) : State :=
  let s := retireKept 1 (retireKept 0 s)
  if pairRetired s 0 && !pairRetired s 1 then s.setFld F.LSC_STAT_SPAIR 1 else s

/-- Step 3: the failed LBIST partitions, CORE0 to CORE3 in bits 0 to 3 (R514, R516); true when start-up goes on. -/
def startLbist (partF : BitVec 10) (s : State) : State × Bool :=
  let s := s.setFld F.BIST_STAT_PARTF partF.toNat
  let s := if partF.getLsbD 0 || partF.getLsbD 1 then retireAtStart 0 s else s
  let s := if partF.getLsbD 2 || partF.getLsbD 3 then retireAtStart 1 s else s
  (s, decide (partF.toNat / 16 = 0))

/-- Step 4 for one pair: the results, and retirement on any failure (R209, R210). -/
def injectPair (p : Fin 2) (j : PairInj) (s : State) : State :=
  if pairRetired s p then s
  else
    let s := recordInj p j s
    if j.passed then s else hoistFlag 112 (retireAtStart p s)

/-- A passing power-up test writes the RTC seconds to its record (R513). -/
def putRecord (i : Nat) (s : State) : State := s.setWord (0x3FFEF0 + i) (s.reg R.RTC_TIMEL)

/-- Step 5: barriers, link-loss pattern path, halyard (R511 to R514); true when start-up goes on. -/
def startPut (r : StartUpRun) (s : State) : State × Bool :=
  let s := if r.barrier then putRecord 0 (s.setFld F.BIST_PUT_BAR 1) else s
  let s := if r.llPath then putRecord 2 (s.setFld F.BIST_PUT_LLP 1) else s
  let s := { s.setReg R.DLK_LLPAT 0 with die := { s.die with llpat := 0 } }
  let s := s.setFld F.BIST_PUT_TRIES r.tries.val
  let s := match (if r.tries = 4 then HalTest.deferred else r.hal) with
    | .passed => putRecord 1 (s.setFld F.BIST_PUT_HAL 1)
    | .failed => { hoistFlag 18 s with pwr := { s.pwr with noClaim := true } }
    | .deferred => s.setFld F.BIST_PUT_HALD 1
  (s, r.barrier && r.llPath)

/-! Step 6: image verification (R510, R524) -/

/-- The directory's own checks: 2 no directory, 3 format or version, 0 passed. -/
def dirFormat (s : State) : Nat :=
  let v := fun (w : Word) => getBits w 4 4
  if dirW s 0 = 0 then 2
  else if v (dirW s 0) = 1 ∧ 1 ≤ dirLen s ∧ dirLen s ≤ 0x100000
      ∧ 0x200000 ≤ dirBoot s ∧ dirBoot s < 0x200000 + dirLen s ∧ 1 ≤ dirWlen s ∧ dirWlen s ≤ 4096
      ∧ dirCwbase s % 0x2000 = 0 ∧ dirCwbase s + 0x2000 ≤ 0xF0000 ∧ bit (dirW s 6) 0 = false
      ∧ ((List.range 144).all fun i => decide (getBits (dirW s (9 + i)) 32 4 = 0))
      ∧ ((List.range 16).all fun k => !ovlPresent s k || decide (v (s.word (ovlBase k)) = 1)) then 0
  else 3

/-- The digest of eight directory words. -/
def dirDigest (s : State) (i : Nat) : Nat := natOfWords (s.words (dirBase + i) 8)

def baseDigestOk (s : State) : Bool := decide (shaOfWords (s.words 0x200000 (dirLen s)) = dirDigest s 9)

def overlayDigestOk (s : State) (k : Nat) : Bool :=
  decide (shaOfWords (s.words (ovlBase k) (2 * ovlNent s k + 1)) = dirDigest s (9 + 8 * k))

/-- The owner public key of the seal area: accepted only when its SHA-256 equals the fused hash (R528). -/
def ownerKey (s : State) : Option (Nat × Nat) :=
  let ws := s.words sealOwner 16
  match s.lcy.fuses.ownerHash with
  | some h => if shaOfWords ws = h.toNat then some (natOfWords (ws.take 8), natOfWords (ws.drop 8)) else none
  | none => none

/-- The factory's public key (R528). -/
def herefKey (s : State) : Option (Nat × Nat) :=
  let k := s.lcy.fuses.herefKey.toNat
  if shaOfWords (wordsOfNat 16 k) = s.lcy.fuses.herefHash.toNat then some (k / 2 ^ 256, k % 2 ^ 256) else none

/-- A signature (r then s, 16 words) over words, under a key. -/
def signedOk (key : Option (Nat × Nat)) (msg sig : List Word) : Bool :=
  match key with
  | some (x, y) => ecdsaOk x y (natOfWords (sig.take 8)) (natOfWords (sig.drop 8)) (shaOfWords msg)
  | none => false

/-- The result of the verification, and the overlay of a result 6. -/
def verifyImage (s : State) : Nat × Nat :=
  let f := dirFormat s
  if f ≠ 0 then (f, 0)
  else if !baseDigestOk s then (4, 0)
  else match ((List.range 16).find? fun k => ovlPresent s k && !overlayDigestOk s k) with
    | some k => (6, k)
    | none =>
      if lcDevelop ≤ s.lcState ∧ !signedOk (ownerKey s) (s.words dirBase 137) (s.words (dirBase + 137) 16) then (5, 0)
      else (1, 0)

/-- Both pairs are released, joined, in secure mode, at BOOT; a P1 that is the safety pair starts at LSC_RENTRY0 (R210). -/
def releasePairs (s : State) : State :=
  let boot := dirBoot s
  let p0 := pairRetired s 0
  let s := if p0 then s else restartPair 0 boot s
  if pairRetired s 1 then s
  else if p0 then (restartPair 1 (rentry s 0) s).setFld F.LSC_STAT_SPAIR 1
  else restartPair 1 boot s

/-! The start-up (R506) -/

/-- Steps 6 and 7. -/
def startImage (s : State) : State :=
  let (r, k) := verifyImage s
  let s := (s.setFld F.LCY_BOOT_RESULT r).setFld F.LCY_BOOT_OVL k
  if r = 1 then setStep 7 (buildByStraps (releasePairs (setStep 6 s))) else s

/-- A STRUCK record found at the end of step 5 (R164, R509). -/
def struckFound (s : State) : Bool := bit (s.word struckRecord) 0

/-- Steps 3 to 7, after the march. With both pairs retired before, the lane is STRUCK with the cause it has kept, or else with that
of both pairs (R207, R217). -/
def startTests (r : StartUpRun) (s : State) : State :=
  let s := setStep 2 s
  let kept := pairRetired s 0 && pairRetired s 1
  let (s, ok) := startLbist r.partF s
  if kept then strike (if s.fld F.HAL_RSTAT_STRKCAUSE = 0 then 2 else s.fld F.HAL_RSTAT_STRKCAUSE) s
  else if !ok || (pairRetired s 0 && pairRetired s 1) then strike 5 s
  else
    let s := injectPair 1 r.inj1 (injectPair 0 r.inj0 (setStep 3 s))
    if pairRetired s 0 && pairRetired s 1 then strike 5 s
    else
      let (s, ok) := startPut r (setStep 4 s)
      if !ok then strike 5 s
      else
        let s := setStep 5 s
        if struckFound s then strike (getBits (s.word struckRecord) 1 3) (s.setFld F.SYS_RSTCAUSE_STRUCKR 1)
        else startImage s

/-- In SELFTEST all gates are off (R165): the output enables of the die are clear (R257). -/
def selftestGates (s : State) : State := if s.die.powered then chopTrack (dieSetReg R.GDC_CTRL 0 s) else s

/-- Steps 1 to 7 of a form. A lane whose fuses do not read stays in its lane reset (R514). -/
def startRun (form : Nat) (r : StartUpRun) (s : State) : State :=
  let s := wipeComplete (startWipe (s.setFld F.BIST_STAT_FORM form))
  if !r.fusesRead then { s with svp := { s.svp with silent := true } }
  else
    let full := s.pwr.fullBist
    let s := { s with pwr := { s.pwr with startDue := none, fullBist := false, kept := if form = formWake then s.pwr.kept else 0 } }
    let s := strapRead r.strap r.strapOpen (loadFuses r.lifeBad s)
    let s := keptPairs (if form = formWake then pendSrc 8 s else s)
    if s.lcState = lcScrapped then setStep 1 s
    else
      let s := selftestGates (setLaneState lsSelftest s)
      let s := setStep 1 (sealedLoad r.strapOpen s)
      let banks := 0xFFFF - (s.pwr.kept &&& 0x7FFF)
      let (s, ok) := startMarch full banks r s
      if ok then startTests r s else strike 5 s

/-- START_UP, at the release of a lane reset; a lane held there by its fuses has none. -/
def startUp (r : StartUpRun) (s : State) : State :=
  match s.pwr.startDue with
  | none => s
  | some form => if s.pwr.pstate = .run ∧ !s.svp.silent then startRun form r s else s

def execStartUp (r : StartUpRun) (s : State) : Host.Outcome State Fault Refusal := .next (startUp r s)

/-! Ages of the power-up tests (R513, R537) -/

/-- BIST_PUTAGEn: hours since the record, FF_FFFFh when there is none. -/
def putAge (s : State) (i : Nat) : Nat :=
  let rec_ := (s.word (0x3FFEF0 + i)).toNat
  if rec_ = 0 then 0xFFFFFF else Nat.min (((s.reg R.RTC_TIMEL).toNat - rec_) / 3600) 0xFFFFFF

/-- Is the hourly comparison due: has an hour passed since the last one, or since the start-up (R513)? -/
def putDue (s : State) : Bool :=
  match s.pwr.putAt with
  | none => true
  | some t => elapsed s t 3600000000000

/-- POWERUP_TEST_AGE: the comparison with PUTMAX. -/
def powerupTestAge (s : State) : State :=
  let m := s.fld F.BIST_PUTMAX_H
  if !putDue s then s else
  let s := { s with pwr := { s.pwr with putAt := some s.dlk.dtime } }
  if m ≠ 0 ∧ ((List.range 3).any fun i => decide (m < putAge s i)) then pendSrc 253 s else s

def execPowerupTestAge (s : State) : Host.Outcome State Fault Refusal := .next (whenClocked powerupTestAge s)

/-! Commands -/

/-- SYS_RST.WARM (R535). -/
def warmReset (s : State) : State := laneReset formWarm rcSysRst s

/-- BIST_CMD.RUNLB (R537). -/
def runLb (s : State) : State :=
  if destructiveAllowed s && decide (s.lstate ≠ lsVoting) then
    let s := laneReset formWarm rcSysRst s
    { s with pwr := { s.pwr with fullBist := true } }
  else s

/-- A write of BIST_CMD. -/
def bistCmd (v : Word) (s : State) : State := if bit v 0 then runLb s else s

end Sys2Proof.Machine
end

