-- ==== Sys2Proof/Machine/Lifecycle.lean ====
section
/-! DEFINITION. The life cycle: transitions, seal records, update sessions and the unwrap of the key block (R520 to R523,
R528 to R530, R536). -/

namespace Sys2Proof.Machine

def setLcy (f : LcyHidden → LcyHidden) (s : State) : State := { s with lcy := f s.lcy }
def setFuses (f : Fuses → Fuses) (s : State) : State := setLcy (fun l => { l with fuses := f l.fuses }) s

/-! Transitions (R521) -/

/-- Program the fuse of the transition into state t, wipe bank 15 and perform a warm reset. -/
def transition (t : Nat) (s : State) : State :=
  let s := setFuses (fun f => { f with life := f.life ||| BitVec.ofNat 5 (2 ^ (t - 1)) }) s
  laneReset formWarm rcLife (startWipe s)

/-- LCY_CMD.SCRAP: from DEVELOP, SEALED or RETURNED. -/
def lcyScrap (s : State) : State :=
  if lcDevelop ≤ s.lcState ∧ s.lcState ≤ lcReturned then transition lcScrapped s else s

/-- The update session closes: source 222. -/
def endSession (s : State) : State :=
  if s.fldB F.LCY_STATE_SESS then pendSrc 222 (s.setFld F.LCY_STATE_SESS 0) else s

/-- A write of LCY_CMD (class 3, R536). -/
def lcyCmd (v : Word) (s : State) : State :=
  let s := if bit v 1 then endSession s else s
  if bit v 0 then lcyScrap s else s

/-! The key block (R530) -/

/-- The 13 words of the key block as the AES key wrap takes them: 8 semiblocks, the last filled with 0 (DESIGN CHOICE). -/
def keySemis (l : List Word) : List Nat :=
  let n := l.foldl (fun a w => a * 2 ^ 36 + w.toNat) 0 * 2 ^ 44
  (List.range 8).map fun i => n / 2 ^ (64 * (7 - i)) % 2 ^ 64

def semiWords (l : List Nat) : List Word :=
  let n := l.foldl (fun a b => a * 2 ^ 64 + b) 0 / 2 ^ 44
  (List.range 13).map fun i => BitVec.ofNat 36 (n / 2 ^ (36 * (12 - i)))

def devKey (s : State) : List Nat := octetsBE 16 s.lcy.fuses.devKey.toNat

/-- The wrapped block: 9 semiblocks in 18 words of 32 bits. -/
def wrapKeys (s : State) (l : List Word) : List Word :=
  ((aesWrap (devKey s) (keySemis l)).map fun b => [BitVec.ofNat 36 (b / 2 ^ 32), BitVec.ofNat 36 (b % 2 ^ 32)]).flatten

/-- The unwrapped key words; none when no block is stored or its integrity value is wrong. -/
def unwrapKeys (s : State) : Option (List Word) :=
  let ws := s.words sealKeys 18
  let c := (List.range 9).map fun i => (ws.getD (2 * i) 0).toNat % 2 ^ 32 * 2 ^ 32 + (ws.getD (2 * i + 1) 0).toNat % 2 ^ 32
  let (a, p) := aesUnwrap (devKey s) c
  if s.fldB F.LCY_KSTAT_PRES && decide (a = 0xA6A6A6A6A6A6A6A6) then some (semiWords p) else none

/-- The unwrap, once after each lane reset. -/
def ensureKeys (s : State) : State :=
  match s.lcy.keys with
  | some _ => s
  | none => match unwrapKeys s with
    | some l => setLcy (fun h => { h with keys := some l }) s
    | none => pendSrc 254 (setLcy (fun h => { h with keys := some [] }) (s.setFld F.LCY_KSTAT_UNWF 1))

/-- LCY_KOUT_READ of class 3: the next key word; source 254 when the thirteenth is read. -/
def koutRead (s : State) : State × Word :=
  let s := ensureKeys s
  let i := s.fld F.LCY_KSTAT_IDX
  match s.lcy.keys with
  | some l =>
    if s.fldB F.LCY_KSTAT_UNWF ∨ 13 ≤ i then (s, 0)
    else
      let s := s.setFld F.LCY_KSTAT_IDX (i + 1)
      (if i + 1 = 13 then pendSrc 254 s else s, l.getD i 0)
  | none => (s, 0)

/-! Seal records (R528, R529) -/

/-- Statuses of the service port (R532). -/
def stOk : Nat := 0
def stBusy : Nat := 1
def stCrc : Nat := 2
def stUndef : Nat := 3
def stState : Nat := 4
def stAddr : Nat := 5
def stSig : Nat := 6
def stOrder : Nat := 7
def stVersion : Nat := 8

def recType (r : List Word) : Nat := getBits (r.getD 0 0) 8 8
def recLanes (r : List Word) : Nat := getBits (r.getD 0 0) 16 3
def recHeref (r : List Word) : Bool := bit (r.getD 0 0) 19
def recSeq (r : List Word) : Nat := getBits (r.getD 1 0) 0 30
def recRb (r : List Word) : Nat := getBits (r.getD 1 0) 30 6
def recAddr (r : List Word) : Nat := getBits (r.getD 2 0) 0 24
def recN (r : List Word) : Nat := getBits (r.getD 3 0) 0 16
def recPayload (r : List Word) : List Word := (r.drop 4).take (recN r)
def recSig (r : List Word) : List Word := r.drop (4 + recN r)

def inSession (s : State) : Bool := decide (s.lcState = lcSealed) && s.fldB F.LCY_STATE_SESS

/-- Is a record of the type permitted in the present state? -/
def recPermitted (s : State) (t : Nat) : Bool :=
  let st := s.lcState
  match t with
  | 1 => decide (st = lcBlank)
  | 2 => decide (st = lcDevelop) || inSession s
  | 3 => decide (st = lcDevelop) || inSession s
  | 4 => decide (st = lcDevelop) && decide (s.lstate ≠ lsVoting)
  | 5 => decide (st = lcSealed) && decide (s.lstate ≠ lsVoting)
  | 6 => inSession s
  | 7 => inSession s
  | 8 => decide (lcDevelop ≤ st) && decide (st ≤ lcReturned)
  | _ => false

/-- Does the signer that the record names suit it (R521)? RETURN is signed by Heref, SCRAP by the owner and in RETURNED also
by Heref, every other signed record by the owner. -/
def signerOk (s : State) (r : List Word) : Bool :=
  if recType r = 7 then recHeref r
  else if recType r = 8 then !recHeref r || decide (s.lcState = lcReturned)
  else !recHeref r

/-- The signature of a record; OWNER is unsigned (R521). -/
def recSigned (s : State) (r : List Word) : Bool :=
  decide (recType r = 1)
    || (signerOk s r && signedOk (if recHeref r then herefKey s else ownerKey s) (r.take (4 + recN r)) (recSig r))

/-- Is an address in a region that WRITE records may write (R523)? -/
def inProtected (a : Nat) : Bool :=
  (decide (0x200000 ≤ a) && decide (a < 0x301E00)) || (decide (0x302000 ≤ a) && decide (a < 0x302100))
    || (decide (0x3FFF00 ≤ a) && decide (a < 0x400000))

/-- The digests that SEAL and CLOSE compare: the directory, the safety configuration, the key block, 8 words each. -/
def sealDigestWords (s : State) : List Word :=
  wordsOfNat 8 (shaOfWords (s.words dirBase 256)) ++ wordsOfNat 8 (shaOfWords (s.words sealedCfg 256))
    ++ wordsOfNat 8 (shaOfWords ((unwrapKeys s).getD []))

/-- Do the directory, the safety configuration and the key block match the payload? -/
def sealMatches (s : State) (r : List Word) : Bool :=
  (unwrapKeys s).isSome && decide (recPayload r = sealDigestWords s)

/-- The effect of an accepted record: none when its own condition fails, with the status. -/
def recEffect (s : State) (r : List Word) : State × Nat :=
  let p := recPayload r
  let floorUp := fun (s : State) =>
    (setFuses (fun f => { f with floor := Nat.max f.floor (recRb r) }) s).setFld F.LCY_STATE_FLOOR
      (Nat.max s.lcy.fuses.floor (recRb r))
  match recType r with
  | 1 =>
    if recN r = 16 then
      let s := setFuses (fun f => { f with ownerHash := some (BitVec.ofNat 256 (shaOfWords p)) }) (s.setWords sealOwner p)
      (transition lcDevelop s, stOk)
    else (s, stUndef)
  | 2 =>
    if p.isEmpty || (inProtected (recAddr r) && inProtected (recAddr r + recN r - 1)
        && (List.range (recN r)).all fun i => inProtected (recAddr r + i)) then (s.setWords (recAddr r) p, stOk)
    else (s, stAddr)
  | 3 =>
    if recN r = 13 then ((s.setWords sealKeys (wrapKeys s p)).setFld F.LCY_KSTAT_PRES 1, stOk) else (s, stUndef)
  | 4 =>
    if sealMatches s r then (transition lcSealed (floorUp (s.setWords sealDigests p)), stOk) else (s, stOrder)
  | 5 => (pendSrc 222 (s.setFld F.LCY_STATE_SESS 1), stOk)
  | 6 =>
    if sealMatches s r then (endSession (floorUp (s.setWords sealDigests p)), stOk) else (s, stOrder)
  | 7 => (transition lcReturned s, stOk)
  | _ => (transition lcScrapped s, stOk)

/-- The first ground on which a record is refused; stOk when there is none. -/
def recCheck (s : State) (r : List Word) : Nat :=
  if r.length ≠ 20 + recN r ∨ 4096 < recN r then stUndef
  else if getBits (r.getD 0 0) 4 4 ≠ 1 then stVersion
  else if !recSigned s r then stSig
  else if !maskHas (recLanes r) s.lane.val || (match s.lcy.lastSeq with | some q => decide (recSeq r ≤ q) | none => false)
      || decide (recRb r < s.fld F.LCY_STATE_FLOOR) || !recPermitted s (recType r) then stOrder
  else stOk

/-- LCY_RCNT, LCY_RLAST and the source of a record's end. -/
def recDone (t st : Nat) (s : State) : State :=
  let s := s.setReg R.LCY_RLAST (BitVec.ofNat 36 (t + st * 2 ^ 8))
  if st = stOk then pendSrc 220 (s.incFld F.LCY_RCNT_ACC) else pendSrc 221 (s.incFld F.LCY_RCNT_REF)

/-- Submit a seal record: checked, and accepted with its effect or refused; the status. The loader writes after the words that
are queued (R533). -/
def submitRecord (r : List Word) (s : State) : State × Nat :=
  let c := recCheck s r
  if c ≠ stOk then (recDone (recType r) c s, c)
  else
    let (s1, st) := recEffect (setLcy (fun l => { l with lastSeq := some (recSeq r) })
      (recDone (recType r) stOk (drainMram s))) r
    if st = stOk then (s1, stOk) else (recDone (recType r) st s, st)

/-- A submitted record of one type: the state when it is complete. -/
def submitOf (t : Nat) (r : List Word) (s : State) : State :=
  if recType r = t ∧ clocked s ∧ s.pwr.startDue = none then (submitRecord r s).1 else s

def execOwner (r : List Word) (s : State) : Host.Outcome State Fault Refusal := .next (submitOf 1 r s)
def execWrite (r : List Word) (s : State) : Host.Outcome State Fault Refusal := .next (submitOf 2 r s)
def execKeys (r : List Word) (s : State) : Host.Outcome State Fault Refusal := .next (submitOf 3 r s)
def execSeal (r : List Word) (s : State) : Host.Outcome State Fault Refusal := .next (submitOf 4 r s)
def execSealOpen (r : List Word) (s : State) : Host.Outcome State Fault Refusal := .next (submitOf 5 r s)
def execClose (r : List Word) (s : State) : Host.Outcome State Fault Refusal := .next (submitOf 6 r s)
def execSealReturn (r : List Word) (s : State) : Host.Outcome State Fault Refusal := .next (submitOf 7 r s)
def execScrapRecord (r : List Word) (s : State) : Host.Outcome State Fault Refusal := .next (submitOf 8 r s)

end Sys2Proof.Machine
end

