-- ==== Sys2Proof/Machine/Int.lean ====
section
/-! DEFINITION. The interrupt collector: delivery to targets, arbitration, and its registers (R78 to R87, R569). -/

namespace Sys2Proof.Machine

/-- TGT codes delivered to the recipient of target t (R85, R569). DESIGN CHOICE: a core that runs single, for which R85 has no column,
gets both codes of its pair, as the pair would joined. -/
def codesOf (s : State) (t : Nat) : List Nat :=
  if t = 4 then [4]
  else if s.split[(Fin.ofNat 2 (t % 2) : Fin 2)] then [t] else [t % 2, t % 2 + 2]

/-- Does source n stand enabled and pending for a list of codes? -/
def sourceFor (s : State) (codes : List Nat) (n : Nat) : Bool :=
  s.fldB (F.INT_CFG_EN n) && codes.contains (s.fld (F.INT_CFG_TGT n)) && srcPending s n

/-- The source that wins arbitration among those that satisfy ok: the highest level, then the lowest number (R79). -/
def winner (s : State) (ok : Nat → Bool) : Option Nat :=
  (List.range 256).foldl (fun best n =>
    if ok n then
      match best with
      | none => some n
      | some m => if s.fld (F.INT_CFG_LEVEL m) < s.fld (F.INT_CFG_LEVEL n) then some n else best
    else best) none

/-- The source that INT_TOPt reports. -/
def topOf (s : State) (t : Nat) : Option Nat := winner s (sourceFor s (codesOf s t))

/-- Target code of a core (R85). -/
def targetOf (k : Fin 4) : Nat :=
  match k with
  | 0 => 0
  | 1 => 2
  | 2 => 1
  | 3 => 3

/-- Is any enabled source routed to the core pending, as INT_TOPt.VALID shows (R109)? -/
def routed (s : State) (k : Fin 4) : Bool := (topOf s (targetOf k)).isSome

/-- INT_TOPt as it reads. -/
def topWord (s : State) (t : Nat) : Word :=
  match topOf s t with
  | none => 0
  | some n => BitVec.ofNat 36 (n + 2 ^ 8 * s.fld (F.INT_CFG_LEVEL n) + 2 ^ 11)

/-- INT_CFGn as it reads: PEND mirrors the pending bit. -/
def intCfgWord (s : State) (n : Nat) : Word := putBits (s.reg (R.INT_CFG n)) 8 1 (b2n (srcPending s n))

/-- INT_PENDk as it reads. -/
def intPendWord (s : State) (k : Nat) : Word :=
  BitVec.ofNat 36 ((List.range 32).foldl (fun w i => w + b2n (srcPending s (32 * k + i)) * 2 ^ i) 0)

/-- A dip of INT_PENDk acts on edge sources (R82, R87). -/
def intPendWrite (k : Nat) (v : Word) (s : State) : State :=
  (List.range 32).foldl (fun s i => if bit v i && srcEdge s (32 * k + i) then setPendBit (32 * k + i) false s else s) s

/-- A write of INT_SWI: software interrupts become pending; the bits read back until the next LCLK cycle. -/
def intSwiWrite (v : Word) (s : State) : State :=
  (List.range 8).foldl (fun s i => if bit v i then pendSrc i (s.setFld ⟨R.INT_SWI, i, 1⟩ 1) else s) s

/-- A source is taken: the pending bit of an edge source is dipped (R80). -/
def acknowledge (n : Nat) (s : State) : State := if srcEdge s n then setPendBit n false s else s

end Sys2Proof.Machine
end

