-- ==== Sys2Proof/Machine/Qep.lean ====
section
/-! DEFINITION. Quadrature encoder interfaces (R347 to R362). -/

namespace Sys2Proof.Machine

def setQep (n : Fin 2) (f : QepHidden → QepHidden) (s : State) : State :=
  { s with qep := s.qep.set n.val (f s.qep[n]) }

/-- Time of an accepted change: LTIME less the filter and the synchroniser (R348). -/
def qepTime (n : Fin 2) (s : State) : DWord := s.ltime - BitVec.ofNat 72 (2 * (s.fld (F.QEP_CTRL_FLT n.val) + 3))

/-- An event of the interface while its power domain is powered; an unpowered domain keeps no state and raises no interrupt
(R493). -/
def whenQep (n : Fin 2) (f : State → State) (s : State) : State :=
  whenClocked (fun s => if maskHas (s.fld F.PWR_DOMST_PWRD) (2 + n.val) then f s else s) s

def low36 (t : DWord) : Word := BitVec.ofNat 36 t.toNat

/-- A or B of the interface is reported faulty (R362). -/
def wireAB (n : Fin 2) (s : State) : Bool := decide (s.fld (F.QEP_STAT_WIRE n.val) % 4 ≠ 0)

/-! Speed (R353 to R355) -/

/-- SPDV falls: SPD reads 0 and source 133 + 8n pends (R354). -/
def speedInvalid (n : Fin 2) (s : State) : State :=
  let was := s.fldB (F.QEP_STAT_SPDV n.val)
  let s := ((s.setFld (F.QEP_STAT_SPDV n.val) 0).setFld (F.QEP_STAT_SPDD n.val) 0).setReg (R.QEP_SPD n.val) 0
  if was then pendSrc (133 + 8 * n.val) s else s

/-- The sequence of R353 starts again at n = k with the times given. -/
def restartSeq (n : Fin 2) (k : Nat) (ts : List DWord) (s : State) : State :=
  setQep n (fun q => { q with n := k, times := ts }) (s.setFld (F.QEP_STAT_NSEQ n.val) k)

/-- SPD for q intervals over t ns: rounded, negative for backward. The quotient is not formed for t = 0. -/
def speedCode (q t : Nat) (backward : Bool) : Word :=
  let v : Int := ((2 * q * 65536000000 + t) / (2 * t) : Nat)
  wrap36 (if backward then -v else v)

/-- The speed after a counted edge at time t with n ≥ 2. -/
def formSpeed (n : Fin 2) (t : DWord) (backward : Bool) (s : State) : State :=
  let h := s.qep[n]
  let q := Nat.min (h.n - 1) (2 ^ s.fld (F.QEP_SPCFG_SPDE n.val))
  let dt := (t - h.times.getD q t).toNat
  let s := s.setReg (R.QEP_PER n.val) (BitVec.ofNat 36 (Nat.min dt (2 ^ 36 - 1)))
  if wireAB n s then speedInvalid n s
  else if dt = 0 then (s.setReg (R.QEP_SPD n.val) s.freeVal).setFld (F.QEP_STAT_SPDV n.val) 1 |>.useFree
  else (s.setReg (R.QEP_SPD n.val) (speedCode q dt backward)).setFld (F.QEP_STAT_SPDV n.val) 1

/-! Flags -/

def hoistQep (n : Fin 2) (b : Nat) (src : Nat) (s : State) : State :=
  pendSrc (src + 8 * n.val) (s.setReg (R.QEP_FLG n.val) (putBits (s.reg (R.QEP_FLG n.val)) b 1 1))

/-! Compare (R356, R357) -/

/-- The compare check of a counted edge at time t in direction d (true backward). -/
def compareEdge (n : Fin 2) (t : DWord) (d : Bool) (s : State) : State :=
  if s.fldB (F.QEP_CMPCFG_CEN n.val) && decide (s.fldB (F.QEP_CMPCFG_CDIR n.val) = d)
      && decide (s.reg (R.QEP_POS n.val) = s.reg (R.QEP_CMP n.val)) then
    let step := BitVec.ofNat 36 (s.fld (F.QEP_CMPCFG_STEP n.val))
    let cmp := s.reg (R.QEP_CMP n.val)
    let s := hoistQep n 1 130 (s.setReg (R.QEP_CTS n.val) (low36 t))
    let s := if s.fld (F.QEP_DOCTL_ZOSEL n.val) = 2 then
        setQep n (fun q => { q with zLeft := 10 * Nat.max 1 (s.fld (F.QEP_DOCTL_CPW n.val)) }) s else s
    s.setReg (R.QEP_CMP n.val) (if d then cmp - step else cmp + step)
  else s

/-- Is the compare value behind the position? -/
def behind (n : Fin 2) (s : State) : Bool :=
  let d := (s.reg (R.QEP_CMP n.val) - s.reg (R.QEP_POS n.val)).toInt
  if s.fldB (F.QEP_CMPCFG_CDIR n.val) then decide (0 ≤ d) else decide (d ≤ 0)

def behindTest (n : Fin 2) (s : State) : State := if behind n s then hoistQep n 2 131 s else s

/-- A write of QEPn_CMP. -/
def qepCmpWrite (n : Fin 2) (v : Word) (s : State) : State := behindTest n (s.setReg (R.QEP_CMP n.val) v)

/-- A write of QEPn_CMPCFG: setting CEN runs the behind test. -/
def qepCmpcfgWrite (n : Fin 2) (v : Word) (s : State) : State :=
  let was := s.fldB (F.QEP_CMPCFG_CEN n.val)
  let s := s.setReg (R.QEP_CMPCFG n.val) (v &&& 0x3FFFFF)
  if bit v 0 && !was then behindTest n s else s

/-! Divided output (R358) -/

/-- The next state of the quadrature sequence 00, 10, 11, 01 (A in bit 1), and the one before. -/
def quadNext (q : Nat) : Nat :=
  match q with
  | 0 => 2
  | 2 => 3
  | 3 => 1
  | _ => 0

def quadPrev (q : Nat) : Nat :=
  match q with
  | 0 => 1
  | 1 => 3
  | 3 => 2
  | _ => 0

def divideEdge (n : Fin 2) (backward : Bool) (s : State) : State :=
  if s.fldB (F.QEP_DOCTL_DOEN n.val) then
    let num := s.fld (F.QEP_DIV_N n.val)
    let den := s.fld (F.QEP_DIV_M n.val)
    setQep n (fun q =>
      if backward then
        if q.acc < num then { q with acc := q.acc + den - num, qout := quadPrev q.qout } else { q with acc := q.acc - num }
      else if den ≤ q.acc + num then { q with acc := q.acc + num - den, qout := quadNext q.qout }
      else { q with acc := q.acc + num }) s
  else s

/-- A write of QEPn_DOCTL: DOEN refuses to set unless 1 ≤ N ≤ M. -/
def qepDoctlWrite (n : Fin 2) (v : Word) (s : State) : State :=
  let was := s.fldB (F.QEP_DOCTL_DOEN n.val)
  let num := s.fld (F.QEP_DIV_N n.val)
  let ok := decide (1 ≤ num) && decide (num ≤ s.fld (F.QEP_DIV_M n.val))
  let en := bit v 0 && (was || ok)
  let s := s.setReg (R.QEP_DOCTL n.val) (putBits (v &&& 0x7FF) 0 1 (b2n en))
  if en && !was then setQep n (fun q => { q with acc := 0, qout := 0 }) s else s

/-! Counted edges (R349, R352) -/

/-- One counted edge at time t. -/
def countEdge (n : Fin 2) (backward : Bool) (t : DWord) (s : State) : State :=
  let h := s.qep[n]
  let pos := s.reg (R.QEP_POS n.val)
  let rev := h.hasEdge && decide (s.fldB (F.QEP_STAT_DIR n.val) ≠ backward)
  let s := s.setReg (R.QEP_POS n.val) (if backward then pos - 1 else pos + 1)
  let s := if rev then hoistQep n 0 129 s else s
  let s := ((s.setFldB (F.QEP_STAT_DIR n.val) backward).setFld (F.QEP_STAT_SPDD n.val) 0).setReg (R.QEP_TEDGE n.val) (low36 t)
  let s := setQep n (fun q => { q with hasEdge := true, lastIv := (t - q.lastEdge).toNat, lastEdge := t }) s
  let s :=
    if rev || decide (h.n = 0) then speedInvalid n (restartSeq n 1 [t] s)
    else
      let s := setQep n (fun q => { q with n := q.n + 1, times := (t :: q.times).take 9 }) s
      formSpeed n t backward (s.setFld (F.QEP_STAT_NSEQ n.val) (Nat.min s.qep[n].n 15))
  positionMoved n.val 0 (divideEdge n backward (compareEdge n t backward s))

/-- The counted edge, if any, of a change of A and B (R349): none, or backward. -/
def edgeDir (mode : Nat) (a0 b0 a b : Bool) : Option Bool :=
  match mode with
  | 0 =>
    if (quadNext (2 * b2n a0 + b2n b0)) = 2 * b2n a + b2n b then some false
    else if (quadPrev (2 * b2n a0 + b2n b0)) = 2 * b2n a + b2n b then some true else none
  | 1 => if a = a0 then none else some (decide (a = b))
  | _ => if a && !a0 then some b else none

/-- Levels of A, B, Z. -/
def levels (n : Fin 2) (s : State) : Bool × Bool × Bool :=
  let l := s.fld (F.QEP_STAT_LVL n.val)
  (maskHas l 0, maskHas l 1, maskHas l 2)

def setLevels (n : Fin 2) (a b z : Bool) (s : State) : State :=
  let was := s.fld (F.QEP_STAT_LVL n.val)
  let now := b2n a + 2 * b2n b + 4 * b2n z
  setQep n (fun q => { q with
    lvlAt := Vector.ofFn fun i : Fin 3 => if maskHas was i.val = maskHas now i.val then q.lvlAt[i] else s.dlk.dtime })
    (s.setFld (F.QEP_STAT_LVL n.val) now)

/-- The index condition (R350): filtered Z active and the state of A and B equal to ZQS. -/
def indexCond (n : Fin 2) (s : State) : Bool :=
  let (a, b, z) := levels n s
  decide (z ≠ s.fldB (F.QEP_CTRL_ZPOL n.val)) && decide (2 * b2n a + b2n b = s.fld (F.QEP_CTRL_ZQS n.val))

/-- Level of the Z output (R358): low, the index condition or the compare pulse. -/
def qepZout (n : Fin 2) (s : State) : Bool :=
  match s.fld (F.QEP_DOCTL_ZOSEL n.val) with
  | 1 => indexCond n s
  | 2 => decide (s.qep[n].zLeft ≠ 0)
  | _ => false

/-- The levels of the divided outputs: A and B in bits 0 and 1, Z in bit 2. -/
def quadOut (n : Fin 2) (s : State) : Nat := s.qep[n].qout % 4 + 4 * b2n (qepZout n s)

/-- An illegal change of both channels at once (R349). -/
def qerr (n : Fin 2) (s : State) : State :=
  speedInvalid n (restartSeq n 0 [] (hoistQep n 4 135 (s.incFld (F.QEP_ERR_QERR n.val))))

/-- Bookkeeping of the stuck-low check (R361): edges of the other channel, and a fault that clears at a rising edge. -/
def stuckTrack (n : Fin 2) (a0 b0 a b : Bool) (s : State) : State :=
  let h := s.qep[n]
  let cnt := fun (k : Fin 2) (lvl other0 other : Bool) =>
    if lvl then 0 else h.otherEdges[k] + b2n (other0 != other)
  let clr := fun (k : Fin 2) (rise : Bool) => h.stuck[k] && rise && decide (h.pullFail[k.val] < 2)
  let wire := s.fld (F.QEP_STAT_WIRE n.val)
  let wire := if clr 0 (a && !a0) then wire &&& 6 else wire
  let wire := if clr 1 (b && !b0) then wire &&& 5 else wire
  setQep n (fun q => { q with
    otherEdges := #v[cnt 0 a b0 b, cnt 1 b a0 a]
    stuck := #v[q.stuck[(0 : Fin 2)] && !(a && !a0), q.stuck[(1 : Fin 2)] && !(b && !b0)] })
    (s.setFld (F.QEP_STAT_WIRE n.val) wire)

/-! Index and drift (R350, R351) -/

/-- Does the difference of two index latches pass? -/
def driftOk (d : Int) (cpr dtol : Nat) : Bool :=
  decide (d.natAbs ≤ dtol) || decide (((d.natAbs : Int) - cpr).natAbs ≤ dtol)

/-- The index event; IREF counts the events since EN was set or QEPn_POS written. -/
def indexLatch (n : Fin 2) (t : DWord) (s : State) : State :=
  let pos := s.reg (R.QEP_POS n.val)
  let s := (s.setReg (R.QEP_ILPREV n.val) (s.reg (R.QEP_ILATCH n.val))).setReg (R.QEP_ILATCH n.val) pos
  let s := hoistQep n 3 128 ((s.setReg (R.QEP_ITS n.val) (low36 t)).setFld (F.QEP_STAT_IVAL n.val) 1)
  let k := s.qep[n].idxN + b2n (s.fldB (F.QEP_CTRL_EN n.val))
  let s := setQep n (fun q => { q with idxN := Nat.min k 2, idxCond := true, idxLater := false }) s
  let s := s.setFldB (F.QEP_STAT_IREF n.val) (decide (2 ≤ k))
  let d := (s.reg (R.QEP_ILATCH n.val) - s.reg (R.QEP_ILPREV n.val)).toInt
  let cpr := s.fld (F.QEP_CPR_CPR n.val)
  if 2 ≤ k ∧ cpr ≠ 0 ∧ !driftOk d cpr (s.fld (F.QEP_DTOL_DTOL n.val)) then
    pendSrc (132 + 8 * n.val) (hoistFlag 72 (s.incFld (F.QEP_ERR_DRIFT n.val)))
  else s

/-- The index condition after a change at time t: the event is the condition becoming true with ZEN = 1. -/
def indexFollow (n : Fin 2) (t : DWord) (s : State) : State :=
  if !indexCond n s then setQep n (fun q => { q with idxCond := false, idxLater := false }) s
  else if s.qep[n].idxCond then s
  else if s.fldB (F.QEP_CTRL_ZEN n.val) then indexLatch n t s
  else setQep n (fun q => { q with idxCond := true, idxLater := false }) s

/-- In the cycle of a QERR no index event is taken; one whose condition became true in it is taken in the next (R359). -/
def indexHold (n : Fin 2) (s : State) : State :=
  if indexCond n s then setQep n (fun q => { q with idxLater := !q.idxCond }) s
  else setQep n (fun q => { q with idxCond := false, idxLater := false }) s

/-- The index event that waited for the cycle after a QERR. -/
def indexWaits (n : Fin 2) (s : State) : State := if s.qep[n].idxLater then indexFollow n (qepTime n s) s else s

/-! Edges -/

/-- A, B and Z take new filtered levels in one LCLK cycle, with time t. -/
def levelChange (n : Fin 2) (a b z : Bool) (t : DWord) (s : State) : State :=
  let (a0, b0, _) := levels n s
  let s := stuckTrack n a0 b0 a b (setLevels n a b z s)
  let mode := s.fld (F.QEP_CTRL_MODE n.val)
  if s.fldB (F.QEP_CTRL_EN n.val) && decide (mode = 0 ∧ a ≠ a0 ∧ b ≠ b0) then comAngles (indexHold n (qerr n s))
  else
    let s :=
      if !s.fldB (F.QEP_CTRL_EN n.val) then s
      else match edgeDir mode a0 b0 a b with
        | some back => countEdge n (back != s.fldB (F.QEP_CTRL_SWAPD n.val)) t s
        | none => s
    comAngles (indexFollow n t s)

/-- QEP_EDGE: A and B take new filtered levels in one LCLK cycle. -/
def qepEdge (n : Fin 2) (a b : Bool) (s : State) : State :=
  let (_, _, z) := levels n s
  levelChange n a b z (qepTime n s) (indexWaits n s)

def execQepEdge (n : Fin 2) (a b : Bool) (s : State) : Host.Outcome State Fault Refusal := .next (whenQep n (qepEdge n a b) s)

/-- INDEX_EVENT: filtered Z takes or keeps a level. -/
def indexEvent (n : Fin 2) (z : Bool) (s : State) : State :=
  let s := indexWaits n s
  let (a, b, _) := levels n s
  indexFollow n (qepTime n s) (setLevels n a b z s)

def execIndexEvent (n : Fin 2) (z : Bool) (s : State) : Host.Outcome State Fault Refusal := .next (whenQep n (indexEvent n z) s)

/-- Has no counted edge been accepted for SSTO × 10 µs, 0 acting as 1 (R355, R370)? -/
def standstill (n : Fin 2) (s : State) : Bool :=
  !s.qep[n].hasEdge
    || decide (s.qep[n].lastEdge.toNat + 10000 * Nat.max 1 (s.fld (F.QEP_SPCFG_SSTO n.val)) ≤ s.ltime.toNat)

/-- QEP_STANDSTILL: the standstill timeout (R355). -/
def qepStandstill (n : Fin 2) (s : State) : State :=
  if s.fldB (F.QEP_CTRL_EN n.val) && standstill n s then speedInvalid n (restartSeq n 0 [] s) else s

def execQepStandstill (n : Fin 2) (s : State) : Host.Outcome State Fault Refusal := .next (whenQep n (qepStandstill n) s)

/-- SPEED_DECAY: E ns after the last counted edge, more than the last interval, the estimate decays (R355). -/
def speedDecay (n : Fin 2) (s : State) : State :=
  let e := (s.ltime - s.qep[n].lastEdge).toNat
  if s.fldB (F.QEP_SPCFG_DECAY n.val) && s.fldB (F.QEP_STAT_SPDV n.val) && decide (s.qep[n].lastIv < e) then
    (s.setReg (R.QEP_SPD n.val) (speedCode 1 e (s.fldB (F.QEP_STAT_DIR n.val)))).setFld (F.QEP_STAT_SPDD n.val) 1
  else s

def execSpeedDecay (n : Fin 2) (s : State) : Host.Outcome State Fault Refusal := .next (whenQep n (speedDecay n) s)

/-! Register writes -/

/-- A write of QEPn_POS: IREF becomes 0, and again 1 at the second index event (R351, R359). -/
def qepPosWrite (n : Fin 2) (v : Word) (s : State) : State :=
  let s := (s.setReg (R.QEP_POS n.val) v).setFld (F.QEP_STAT_IREF n.val) 0
  comAngles (positionMoved n.val 0 (setQep n (fun q => { q with idxN := 0 }) s))

/-- A write of QEPn_CTRL: DIFF, MODE, FLT, ZQS and ZPOL only while EN is 0 (R347). -/
def qepCtrlWrite (n : Fin 2) (v : Word) (s : State) : State :=
  let old := s.reg (R.QEP_CTRL n.val)
  let was := bit old 0
  let fixed : Word := 0xFF6
  let v := v &&& 0x1FFF
  let s := s.setReg (R.QEP_CTRL n.val) (if was then (old &&& fixed) ||| (v &&& ~~~fixed) else v)
  let s := setQep n (fun q => { q with idxCond := indexCond n s, idxLater := q.idxLater && indexCond n s }) s
  if bit v 0 && !was then
    let s := (restartSeq n 0 [] s).setFld (F.QEP_STAT_IREF n.val) 0
    setQep n (fun q => { q with hasEdge := false, idxN := 0 }) s
  else if was && !bit v 0 then speedInvalid n s
  else s

/-! Wiring faults (R360 to R362) -/

/-- A WIRE bit of input i rises. -/
def wireRise (n : Fin 2) (i : Fin 3) (s : State) : State :=
  let w := s.fld (F.QEP_STAT_WIRE n.val)
  if maskHas w i.val then s
  else
    let s := s.setFld (F.QEP_STAT_WIRE n.val) (w + 2 ^ i.val)
    let s := pendSrc (134 + 8 * n.val) (hoistFlag 73 (s.incFld (F.QEP_ERR_WIRE n.val)))
    comAngles (if i.val < 2 then speedInvalid n s else s)

def wireClear (n : Fin 2) (i : Fin 3) (s : State) : State :=
  let w := s.fld (F.QEP_STAT_WIRE n.val)
  if maskHas w i.val then comAngles (s.setFld (F.QEP_STAT_WIRE n.val) (w - 2 ^ i.val)) else s

/-- Is a differential input faulty at its line voltages in mV: less than 150 mV between the lines, or a common mode outside
0.5 V to 4.0 V (R360)? -/
def lineFaulty (vp vn : Int) : Bool :=
  decide ((vp - vn).natAbs < 150) || decide (vp + vn < 1000) || decide (8000 < vp + vn)

/-- Has a condition held for WFT µs, 0 acting as 1 (R360, R370)? -/
def heldWft (n : Fin 2) (held : Nat) (s : State) : Bool := decide (1000 * Nat.max 1 (s.fld (F.QEP_WCFG_WFT n.val)) ≤ held)

/-- WIRE_FAULT: the lines of input i have been at these voltages for `held` ns; a differential input is faulty when that is out of
range for WFT µs. -/
def wireFault (n : Fin 2) (i : Fin 3) (vp vn : Int) (held : Nat) (s : State) : State :=
  if s.fldB (F.QEP_CTRL_DIFF n.val) && lineFaulty vp vn && heldWft n held s then wireRise n i s else s

def execWireFault (n : Fin 2) (i : Fin 3) (vp vn : Int) (held : Nat) (s : State) : Host.Outcome State Fault Refusal :=
  .next (whenQep n (wireFault n i vp vn held) s)

/-- WIRE_FAULT_CLEAR: it has been free of the conditions for WFT µs. -/
def wireFaultClear (n : Fin 2) (i : Fin 3) (vp vn : Int) (held : Nat) (s : State) : State :=
  if s.fldB (F.QEP_CTRL_DIFF n.val) && !lineFaulty vp vn && heldWft n held s then wireClear n i s else s

def execWireFaultClear (n : Fin 2) (i : Fin 3) (vp vn : Int) (held : Nat) (s : State) : Host.Outcome State Fault Refusal :=
  .next (whenQep n (wireFaultClear n i vp vn held) s)

/-- Inputs that a pull test loads: filtered level 1 for at least 2 µs. -/
def pullLoads (n : Fin 2) (s : State) (i : Fin 3) : Bool :=
  maskHas (s.fld (F.QEP_STAT_LVL n.val)) i.val && passed s s.qep[n].lvlAt[i] 2000

/-- The edges that arrived in the window are accepted at its end, with that time. -/
def pullEdges (n : Fin 2) (edge : BitVec 3) (s : State) : State :=
  let (a, b, z) := levels n s
  let f := fun (i : Fin 3) => edge.getLsbD i.val && pullLoads n s i
  if f 0 || f 1 || f 2 then levelChange n (a != f 0) (b != f 1) (z != f 2) s.ltime (indexWaits n s) else s

/-- PULL_TEST, every 1.000 ms: the loaded inputs are judged; `low` marks lines below 3.0 V at the end, `edge` inputs with an
edge in the window, whose result is discarded. -/
def pullTest (n : Fin 2) (low edge : BitVec 3) (s : State) : State :=
  if s.fldB (F.QEP_CTRL_DIFF n.val) || !s.fldB (F.QEP_WCFG_PTEN n.val) || !passed s s.qep[n].pullAt 1000000 then s
  else
    let s := setQep n (fun q => { q with pullAt := s.dlk.dtime }) s
    pullEdges n edge <| [(0 : Fin 3), 1, 2].foldl (fun s i =>
      if !pullLoads n s i || edge.getLsbD i.val then s
      else if low.getLsbD i.val then
        let k := s.qep[n].pullFail[i] + 1
        let s := setQep n (fun q => { q with pullFail := q.pullFail.set i.val (Nat.min k 2) }) s
        if 2 ≤ k then wireRise n i s else s
      else
        let s := setQep n (fun q => { q with pullFail := q.pullFail.set i.val 0 }) s
        wireClear n i s) s

def execPullTest (n : Fin 2) (low edge : BitVec 3) (s : State) : Host.Outcome State Fault Refusal := .next (whenQep n (pullTest n low edge) s)

/-- STUCK_LOW_CHECK: input A or B has not been high for WLT ms while the other made WSTK edges. -/
def stuckLowCheck (n : Fin 2) (i : Fin 2) (s : State) : State :=
  if s.fldB (F.QEP_CTRL_DIFF n.val) || decide (1 < s.fld (F.QEP_CTRL_MODE n.val))
      || decide (s.fld (F.QEP_WCFG_WLT n.val) = 0) || maskHas (s.fld (F.QEP_STAT_LVL n.val)) i.val
      || !passed s s.qep[n].lvlAt[i.val] (1000000 * s.fld (F.QEP_WCFG_WLT n.val))
      || decide (s.qep[n].otherEdges[i] < s.fld (F.QEP_WCFG_WSTK n.val)) then s
  else wireRise n ⟨i.val, by omega⟩ (setQep n (fun q => { q with stuck := q.stuck.set i.val true }) s)

def execStuckLowCheck (n : Fin 2) (i : Fin 2) (s : State) : Host.Outcome State Fault Refusal := .next (whenQep n (stuckLowCheck n i) s)

/-- The snapshot of R23. -/
def qepSnapshot (n : Fin 2) (s : State) : State :=
  let st := s.fld (F.QEP_STAT_SPDV n.val) + 2 * s.fld (F.QEP_STAT_DIR n.val) + 4 * s.fld (F.QEP_STAT_WIRE n.val)
    + 32 * s.fld (F.QEP_CTRL_EN n.val)
  (((s.setReg (R.QEP_SPOS n.val) (s.reg (R.QEP_POS n.val))).setReg (R.QEP_STS n.val) (s.reg (R.QEP_TEDGE n.val))).setReg
    (R.QEP_SSPD n.val) (s.reg (R.QEP_SPD n.val))).setReg (R.QEP_SSTAT n.val) (BitVec.ofNat 36 st)

end Sys2Proof.Machine
end

