-- ==== Sys2Proof/Machine/Power.lean ====
section
/-! DEFINITION. Power states: requests, entry, pads, the saved image, retention, wake and the power domains (R467, R468,
R483 to R493). -/

namespace Sys2Proof.Machine

def setPwr (f : PwrHidden → PwrHidden) (s : State) : State := { s with pwr := f s.pwr }

/-! Requests (R485) -/

/-- Wake sources that are enabled: FIRST codes 1 to 5 in bits 0 to 4 (R488, R502). -/
def wakeEnabled (s : State) : Nat := s.fld ⟨R.PWR_WAKECFG, 0, 5⟩

/-- The sources of a mask that are enabled and active; the alarm (bit 1) is active when and while AF is 1. -/
def wakeSources (act : BitVec 5) (s : State) : Nat :=
  ((act.toNat &&& 0x1D) ||| (if s.fldB F.RTC_FLG_AF then 2 else 0)) &&& wakeEnabled s

/-- Does a core count as running (R483)? -/
def coreRuns (c : Core) : Bool := decide (c.run = .running)

/-- Every running core waits in WFI. -/
def allWait (s : State) : Bool := s.cores.toList.all fun c => !coreRuns c || (c.wait == .wfi && !c.dhalt)

/-- The first condition of R485 that refuses target t, codes 8 and 11 apart. -/
def entryRefusal (t : Nat) (pending : Bool) (s : State) : Option Nat :=
  if s.lstate = lsVoting ∨ s.lstate = lsDebug then some 1
  else if s.fldB F.XLA_CTRL_EN then some 2
  else if s.fldB (F.PWM_CTRL_EN 0) || s.fldB (F.PWM_CTRL_EN 1) then some 3
  else if s.fldB F.MEMC_STAT_MBUSY || s.fldB F.MEMC_STAT_WIPE then some 4
  else if !s.memc.mq.isEmpty || !s.logQ.isEmpty then some 5
  else if s.dma.toList.any (·.isSome) then some 6
  else if s.fld F.SDP_STAT_STATE = 1 ∨ s.fld F.SDP_STAT_STATE = 2 then some 7
  else if wakeSources s.pwr.wakeAct s ≠ 0 then some 9
  else if t = 1 ∨ 5 ≤ t then some 10
  else if t = 3 ∧ wakeEnabled s = 0 ∨ t = 4 ∧ !s.fldB F.PWR_WAKECFG_WPEN then some 12
  else if pending then some 13
  else none

/-- A refusal or an abort: counted, recorded, the pending request cleared, source 9. -/
def refuseEntry (code t : Nat) (s : State) : State :=
  let s := s.incFld F.PWR_REFUSE_CNT_CNT
  let s := (s.setFld F.PWR_REFUSER_CODE code).setFld F.PWR_REFUSER_TGT t
  pendSrc 9 (s.setFld F.PWR_STAT_PEND 0)

/-- PWR_CMD.TARGET: 0 has no effect. -/
def powerRequest (t : Nat) (s : State) : State :=
  if t = 0 then s
  else match entryRefusal t (s.fldB F.PWR_STAT_PEND) s with
    | some c => refuseEntry c t s
    | none => s.setFld F.PWR_STAT_PEND t

/-- PWR_CMD.CANCEL. -/
def powerCancel (s : State) : State := s.setFld F.PWR_STAT_PEND 0

/-- PWR_CMD.PADREL (R487). -/
def padRelease (s : State) : State :=
  if s.fldB F.PWR_STAT_PADHOLD then setPwr (fun p => { p with pads := none }) (s.setFld F.PWR_STAT_PADHOLD 0) else s

/-- A write of PWR_CMD. -/
def pwrCmd (v : Word) (s : State) : State :=
  let s := if bit v 3 then padRelease s else s
  let s := if bit v 4 then powerCancel s else s
  powerRequest (getBits v 0 3) s

/-! The saved image (R491, R492) -/

/-- Registers base + 0 .. base + n - 1. -/
def span (base n : Nat) : List Nat := (List.range n).map (base + ·)

def comSaved (n : Nat) : List Nat :=
  [R.COM_MODE n] ++ span (R.COM_ACFG n) 4 ++ span (R.COM_SS n) 4

def qepSaved (n : Nat) : List Nat :=
  [R.QEP_CTRL n] ++ span (R.QEP_SPCFG n) 3 ++ [R.QEP_CMPCFG n] ++ span (R.QEP_DIV n) 3

def fceSaved (n : Nat) : List Nat :=
  [R.FCE_CFG n, R.FCE_IMGBASE n, R.FCE_HOCFG n, R.FCE_HOTOL n, R.FCE_VBMIN n, R.FCE_RCFG n]

/-- The saved registers in table order: 486. -/
def savedRegs : List Nat :=
  span (R.INT_CFG 0) 256 ++ span (R.SYS_EMRT 0) 24 ++ [R.SYS_CHCFG, R.MEMC_CTRL, R.MEMC_RET, R.LSC_CTRL]
    ++ span (R.LSC_RENTRY 0) 2 ++ [R.XLA_CTRL] ++ span R.XLA_TFRAME 9 ++ span (R.XLA_IDSC 0) 24
    ++ span (R.XLA_IQUAL 0) 24 ++ span (R.XLA_IPAR 0) 24
    ++ [R.HAL_CTRL, R.HAL_HMCFG, R.HAL_DIAGMASK, R.HAL_SAFECFG] ++ span (R.HAL_REL 0) 2
    ++ span (R.FLT_BUNT 0 + 4) 10 ++ span (R.FLT_CNTSEL 0) 8 ++ [R.FLT_LOGBASE, R.FLT_LOGCFG, R.DLK_LLPAT, R.DLK_TRIM]
    ++ span 0x820002 5 ++ span 0x820008 4 ++ span 0x821002 5 ++ span 0x821008 4
    ++ comSaved 0 ++ comSaved 1 ++ span R.HALL_CTRL 3
    ++ [R.ISN_CTRL] ++ span (R.ISN_CFG 0) 2 ++ span (R.ISN_GAIN 0) 7 ++ span (R.ISN_OFFS 0) 7 ++ [R.ISN_VGAIN]
    ++ fceSaved 0 ++ fceSaved 1 ++ qepSaved 0 ++ qepSaved 1 ++ [R.SENT_SUPCTRL] ++ (List.range 4).map R.SENT_CFG

def imageBase : Nat := 0x400C00
def imageHeader : Nat := 0x400DE6
def imageCrc : Nat := 0x400DE7

/-- Save the registers, the header and the CRC. -/
def saveImage (s : State) : State :=
  let img := savedRegs.map s.reg
  let hdr : Word := BitVec.ofNat 36 (img.length + 2 ^ 9)
  ((s.setWords imageBase img).setWord imageHeader hdr).setWord imageCrc (crcWords (img ++ [hdr]))

/-- Restore the registers, or set SAVF when the CRC fails. A fault log that is enabled again takes its head from memory (R187,
R191). -/
def restoreImage (s : State) : State :=
  let img := s.words imageBase 486
  if s.word imageCrc = crcWords (img ++ [s.word imageHeader]) ∧ bit (s.word imageHeader) 9 then
    let s := ((savedRegs.zip img).foldl (fun s p => s.setReg p.1 p.2) s).setFld F.PWR_STAT_RESTORED 1
    if s.fldB F.FLT_LOGCFG_EN then logHead s else s
  else s.setFld F.PWR_STAT_SAVF 1

/-! Retention (R467, R468) -/

/-- CRC-16, polynomial 1021h, over the low n bits of x, most significant first. -/
def crc16Bits : Nat → Nat → Nat → Nat
  | 0, c, _ => c
  | n + 1, c, x =>
    let c2 := c * 2 % 2 ^ 16
    crc16Bits n (if (c / 2 ^ 15 + x / 2 ^ n) % 2 = 1 then c2 ^^^ 0x1021 else c2) x

/-- The CRC of lane k of a bank: its words whose address mod 4 is k, ascending. -/
def laneCrc (s : State) (b k : Nat) : Nat :=
  (List.range 16384).foldl (fun c i => crc16Bits 36 c (s.word (b * 0x10000 + 4 * i + k)).toNat) 0xFFFF

def sigAddr (b : Nat) : Nat := 0x400FE0 + 2 * b

/-- Is every word of the bank readable through its code? -/
def bankReadable (s : State) (b : Nat) : Bool :=
  !s.memc.upsets.any fun u => decide (u.1 / 0x10000 = b) && (match u.2 with | .oneBit _ => false | _ => true)

/-- Single errors of a bank are corrected, counted and written back. -/
def readBank (b : Nat) (s : State) : State :=
  let ones := s.memc.upsets.filter fun u => decide (u.1 / 0x10000 = b) && (match u.2 with | .oneBit _ => true | _ => false)
  ones.foldl (fun s u => dropUpset u.1 (match u.2 with | .oneBit i => corrected u.1 i s | _ => s)) s

def storeSignature (b : Nat) (s : State) : State :=
  let s := readBank b s
  let v := b2n (bankReadable s b)
  (s.setWord (sigAddr b) (BitVec.ofNat 36 (laneCrc s b 0 + laneCrc s b 1 * 2 ^ 16 + v * 2 ^ 32))).setWord
    (sigAddr b + 1) (BitVec.ofNat 36 (laneCrc s b 2 + laneCrc s b 3 * 2 ^ 16))

/-- The check of a retained bank at the wake: the signature, V, and readable words. -/
def retentionOk (s : State) (b : Nat) : Bool :=
  let w0 := s.word (sigAddr b)
  let w1 := s.word (sigAddr b + 1)
  bit w0 32 && bankReadable s b && decide (getBits w0 0 16 = laneCrc s b 0) && decide (getBits w0 16 16 = laneCrc s b 1)
    && decide (getBits w1 0 16 = laneCrc s b 2) && decide (getBits w1 16 16 = laneCrc s b 3)

/-- The wake's check of a retained bank b (R468). -/
def checkBank (b : Nat) (s : State) : State :=
  let s := readBank b s
  if retentionOk s b then s
  else
    let s := s.setFld F.MEMC_RETST_RETF (maskPut (s.fld F.MEMC_RETST_RETF) b true)
    pendSrc 250 (hoistFlag 110 (setPoison b true s))

/-! Entry (R486) -/

/-- Pads as they are driven: test-pulse outputs, divided outputs of QEP0 and QEP1 with the Z output in bit 2, sensor-supply
switches, or their latched levels while they are held (R487). -/
def padLevels (s : State) : List Nat :=
  match s.pwr.pads with
  | some l => l
  | none => [s.fld F.SIO_TPSTAT_LVL, quadOut 0 s, quadOut 1 s, s.fld F.SENT_SUPCTRL_EN]

/-- HALY shows the own claim driver (R544); in OFF and DEEP the driver is unpowered. -/
def halyPin (s : State) : Bool :=
  (decide (s.pwr.pstate = .run) || decide (s.pwr.pstate = .idle) || decide (s.pwr.pstate = .sleep)) && s.fldB F.HAL_STAT_CLAIM

/-- The levels of the lane's output pins (R561): the gates of banks 0 and 1 in bits 0 to 5 and 6 to 11 and the chopper in bit 12,
SOUT, and of the controller die TPO, the divided outputs, VSEN and HALY; none of these is driven in OFF. -/
structure Pins where
  gates : Nat
  sout : Nat
  tpo : Option Nat
  quad : Option (Nat × Nat)
  vsen : Nat
  haly : Option Bool
deriving DecidableEq, Repr

def gatePins (s : State) : Nat :=
  (List.range 12).foldl (fun m i => m + 2 ^ i * b2n (gateOut s (if i < 6 then 0 else 1) (i % 6))) (2 ^ 12 * b2n (chopOut s))

def pinsOf (s : State) : Pins :=
  let l := padLevels s
  let off := decide (s.pwr.pstate = .off)
  { gates := gatePins s, sout := s.die.pins
    tpo := if off then none else some (l.getD 0 0)
    quad := if off then none else some (l.getD 1 0, l.getD 2 0)
    vsen := if off then 0 else l.getD 3 0
    haly := if off then none else some (halyPin s) }

def latchPads (s : State) : State :=
  setPwr (fun p => { p with pads := some (padLevels s) }) (s.setFld F.PWR_STAT_PADHOLD 1)

/-- Everything but the always-on domain, the AOM, the MRAM and the retained banks loses its content. -/
def powerDown (to_ : PState) (s : State) : State :=
  let kept := s.pwr.kept
  let keepM := fun (a : Nat) => inMram a || inAom a || (inSram a && maskHas kept (bankOf a))
  let s := resetTo (fun a => keptReg a || keptRepair kept a) keepM s
  setPwr (fun p => { p with pstate := to_ }) s

/-- Entry to DEEP: pads, the saved image in normal service, the signatures, the supplies. -/
def enterDeep (s : State) : State :=
  let normal := decide (s.lstate = lsSyncing) || decide (s.lstate = lsWithdrawn)
  let kept := s.fld F.MEMC_RET_KEEP
  let s := setPwr (fun p => { p with saved := normal, kept := kept }) (latchPads (s.setFld F.PWR_STAT_PEND 0))
  let s := if normal then saveImage s else s
  let s := (bankList kept).foldl (fun s b => storeSignature b s) s
  powerDown .deep s

/-- Entry to OFF: only the RTC domain, the MRAM and LAST keep anything. -/
def enterOff (s : State) : State :=
  let last := s.fld F.PWR_STAT_LAST
  let wcfg := s.reg R.PWR_WAKECFG
  let s := (powerReset s).setFld F.PWR_STAT_LAST last
  setPwr (fun p => { p with pstate := .off, startDue := none }) (s.setReg R.PWR_WAKECFG wcfg)

/-- Entry to SLEEP: the pads are latched, the drive link stops, and a core self-test is aborted (R203, R484, R486). -/
def enterSleep (s : State) : State :=
  setPwr (fun p => { p with pstate := .sleep }) (abortTests <| stopAndHold (latchPads (s.setFld F.PWR_STAT_PEND 0)))

/-- Is the WFI of a running core complete: a source routed to it is pending (R109, R494)? -/
def waitOver (s : State) : Bool := [(0 : Fin 4), 1, 2, 3].any fun k => coreRuns s.cores[k] && routed s k

/-- POWER_ENTRY: the last running core waits with a request pending; the conditions are evaluated again. `cut` is what arrives
before the point of no return: 0 nothing, 1 an enabled source routed to a core, 2 a wake event (R485). -/
def powerEntry (cut : Fin 3) (s : State) : State :=
  let t := s.fld F.PWR_STAT_PEND
  if t = 0 ∨ !allWait s ∨ waitOver s ∨ !clocked s then s
  else match entryRefusal t false s with
    | some c => refuseEntry c t s
    | none =>
      if cut = 1 then refuseEntry 8 t s
      else if cut = 2 then refuseEntry 11 t s
      else if t = 2 then enterSleep s
      else if t = 3 then enterDeep s
      else enterOff s

def execPowerEntry (cut : Fin 3) (s : State) : Host.Outcome State Fault Refusal := .next (powerEntry cut s)

/-! Wake (R488, R490) -/

/-- PWR_WSRC: every source active at the wake, and the first of them. -/
def recordWake (m : Nat) (s : State) : State :=
  let first := ((List.range 5).find? fun i => maskHas m i).getD 0 + 1
  s.setReg R.PWR_WSRC (BitVec.ofNat 36 (m + first * 2 ^ 5))

/-- The wake from SLEEP: LCLK reaches the blocks again; the interrupt of the first issue. -/
def wakeSleep (m : Nat) (s : State) : State :=
  let s := setPwr (fun p => { p with pstate := .run }) (recordWake m s)
  let s := ((s.setFld F.PWR_STAT_LAST 1).setFld F.PWR_STAT_RESTORED 0).setFld F.PWR_STAT_SAVF 0
  pendSrc 8 s

/-- The wake from DEEP up to the lane reset (R468, R490, R491): bank 15 wiped under TPEND and then exempt, retained banks
checked (their upsets are `found`), the registers restored; the start-up in its wake form is due. -/
def wakeDeep (m : Nat) (found : List (Nat × Upset)) (s : State) : State :=
  let tpend := s.fldB F.MEMC_STAT_TPEND
  let kept := s.pwr.kept
  let saved := s.pwr.saved
  let s := laneReset formWake rcWake s
  let s := ((recordWake m s).setFld F.PWR_STAT_LAST 2).setFld F.PWR_STAT_RESTORED 0 |>.setFld F.PWR_STAT_SAVF 0
  let s := (found.filter fun f => decide (f.1 < 0x100000) && maskHas kept (bankOf f.1)).foldl (fun s f => setUpset f.1 f.2 s) s
  let s := if tpend then clearBank 15 s else s
  let banks := (bankList kept).filter fun b => !(tpend && decide (b = 15))
  let s := banks.foldl (fun s b => checkBank b s) (s.setFld F.MEMC_RETST_KEPT kept)
  let s := if saved then restoreImage s else s
  setPwr (fun p => { p with pstate := .run }) s

/-- The wake from OFF is a power-on reset (R483, R490). -/
def wakeOff (s : State) : State := recordWake 1 ((powerReset s).setFld F.PWR_STAT_LAST 3)

/-- Has the WAKE pin, high for `high` ns, passed its filter of WFLT µs ± 30 % (R488)? Within the tolerance the answer is free. -/
def wakePin (high : Nat) (s : State) : State × Bool :=
  let w := Nat.max 1 (s.fld F.PWR_WAKECFG_WFLT)
  if high < 700 * w then (s, false)
  else if 1300 * w ≤ high then (s, true)
  else
    let s := s.useFree
    (s, bit s.freeVal 0)

/-- Do the first 8 bits of a service-port transaction match (R489)? -/
def wakeAddress (adr : Option (BitVec 8)) (s : State) : Bool :=
  match adr with
  | none => false
  | some a => decide (a.toNat = s.fld F.PWR_SVPADR_ADDR) || (s.fldB F.PWR_WAKECFG_BCEN && decide (a = 0xFF))

/-- WAKE_EVENT: the WAKE pin has been high for `high` ns, the ports of `ed` have had line energy for 5 µs, and `adr` is what a
service-port transaction begins with. In SLEEP, DEEP and OFF an enabled source wakes the lane; OFF hears the WAKE pin only. -/
def wakeEvent (high : Nat) (ed : BitVec 2) (adr : Option (BitVec 8)) (found : List (Nat × Upset)) (s : State) : State :=
  let (s, pin) := wakePin high s
  let act : BitVec 5 := BitVec.ofNat 5 (b2n pin + 4 * ed.toNat + 16 * b2n (wakeAddress adr s))
  let m := wakeSources act s
  let s := setPwr (fun p => { p with wakeAct := act }) s
  match s.pwr.pstate with
  | .run => s
  | .idle => s
  | .sleep => if m = 0 then s else wakeSleep m s
  | .deep => if m = 0 then s else wakeDeep m found s
  | .off => if maskHas m 0 then wakeOff s else s

def execWakeEvent (high : Nat) (ed : BitVec 2) (adr : Option (BitVec 8)) (found : List (Nat × Upset)) (s : State) :
    Host.Outcome State Fault Refusal := .next (wakeEvent high ed adr found s)

/-! Power domains (R493) -/

/-- The domain whose windows hold an address. -/
def domainOf (a : Nat) : Option Nat :=
  match a / 0x1000 with
  | 0x850 => some 0
  | 0x821 => some 1
  | 0x825 => some 1
  | 0x830 => some 2
  | 0x831 => some 3
  | 0x833 => some 4
  | _ => none

def domainPowered (s : State) (d : Nat) : Bool := maskHas (s.fld F.PWR_DOMST_PWRD) d

def domainIdle (s : State) (d : Nat) : Bool :=
  match d with
  | 0 => decide (s.fld F.SDP_STAT_STATE = 0) || decide (s.fld F.SDP_STAT_STATE = 3)
  | 1 => !s.fldB (F.PWM_CTRL_EN 1) && !s.fldB (F.FCE_CTRL_EN 1)
  | 2 => !s.fldB (F.QEP_CTRL_EN 0)
  | 3 => !s.fldB (F.QEP_CTRL_EN 1)
  | _ => (List.range 4).all (fun r => !s.fldB (F.SENT_CFG_EN r)) && decide (s.fld F.SENT_SUPCTRL_EN = 0)

/-- The domain keeps no state; the trip sources that the lane state and SAFE hold show again in PWM1 (R165, R168). -/
def domainClear (d : Nat) (s : State) : State :=
  let gone := fun (a : Nat) => decide (domainOf a = some d)
  let s := { s with
    regs := s.regs.filter fun c => !gone c.1
    memc := { s.memc with upsets := s.memc.upsets.filter fun u => !gone u.1 } }
  match d with
  | 0 => { s with sdp := sdpReset }
  | 1 => laneTrips { s with pwm := s.pwm.set 1 pwmReset, fce := s.fce.set 1 fceReset }
  | 2 => { s with qep := s.qep.set 0 qepReset }
  | 3 => { s with qep := s.qep.set 1 qepReset }
  | 4 => { s with sent := Vector.replicate 4 sentReset }
  | _ => s

/-- A domain is unpowered when it is idle and powered. -/
def domainDown (d : Nat) (s : State) : State :=
  if domainPowered s d && domainIdle s d then
    let s := s.setFld F.PWR_DOMST_PWRD (maskPut (s.fld F.PWR_DOMST_PWRD) d false)
    domainClear d (s.setFld F.PWR_DOMOFF_OFF (maskPut (s.fld F.PWR_DOMOFF_OFF) d true))
  else s

/-- A write of PWR_DOMOFF. -/
def domoffWrite (v : Word) (s : State) : State := forN 5 (fun d s => if bit v d then domainDown d s else s) s

/-- DOMAIN_WAKE: an access powers an unpowered domain up, with its reset values; source 10. -/
def domainWake (d : Nat) (s : State) : State :=
  if domainPowered s d then s
  else
    let s := s.setFld F.PWR_DOMST_PWRD (maskPut (s.fld F.PWR_DOMST_PWRD) d true)
    pendSrc 10 (domainClear d (s.setFld F.PWR_DOMOFF_OFF (maskPut (s.fld F.PWR_DOMOFF_OFF) d false)))

def execDomainWake (d : Fin 5) (s : State) : Host.Outcome State Fault Refusal := .next (whenClocked (domainWake d.val) s)

end Sys2Proof.Machine
end

