-- ==== Sys2Proof/Machine/Nce.lean ====
section
/-! DEFINITION. The Rosmel node: frames and their check values, the cycle's times, ports, wrapping and link delay
(R397 to R409, R422 to R425, R430 to R432, R444). -/

namespace Sys2Proof.Machine

def setNce (f : NceHidden → NceHidden) (s : State) : State := { s with nce := f s.nce }
def setCur (f : NceCycle → NceCycle) (s : State) : State := setNce (fun n => { n with cur := f n.cur }) s
def setPort (p : Fin 2) (f : NcePort → NcePort) (s : State) : State :=
  setNce (fun n => { n with port := n.port.set p.val (f n.port[p]) }) s

/-! Frames (R401 to R403) -/

def hdrBits (f : RFrame) (lo w : Nat) : Nat := f.hdr.toNat / 2 ^ lo % 2 ^ w
def frFid (f : RFrame) : Nat := hdrBits f 61 11
def frSrc (f : RFrame) : Nat := hdrBits f 55 6
def frCyc (f : RFrame) : Nat := hdrBits f 49 6
def frMode (f : RFrame) : Nat := hdrBits f 46 3
def frVmaj (f : RFrame) : Nat := hdrBits f 42 4
def frVmin (f : RFrame) : Nat := hdrBits f 38 4
def frNull (f : RFrame) : Bool := decide (hdrBits f 37 1 = 1)
def frSync (f : RFrame) : Bool := decide (hdrBits f 36 1 = 1)
def frCstart (f : RFrame) : Bool := decide (hdrBits f 35 1 = 1)
def frMreq (f : RFrame) : Bool := decide (hdrBits f 34 1 = 1)
def frLen (f : RFrame) : Nat := hdrBits f 28 6
def frRmode (f : RFrame) : Nat := hdrBits f 25 3
def frTransit (f : RFrame) : Nat := f.transit.toNat / 2 ^ 8
def frW (f : RFrame) (i : Nat) : Word := f.payload.getD i 0

/-- CRC-8 with polynomial 2Fh over the low n bits of x, most significant first. -/
def crc8Bits : Nat → Nat → Nat → Nat
  | 0, c, _ => c
  | n + 1, c, x =>
    let c2 := c * 2 % 2 ^ 8
    crc8Bits n (if (c / 2 ^ 7 + x / 2 ^ n) % 2 = 1 then c2 ^^^ 0x2F else c2) x

def hcrcOf (hdr : Nat) : Nat := crc16Bits 56 0xFFFF (hdr / 2 ^ 16)
def tcrcOf (transit : Nat) : Nat := crc8Bits 24 0xFF transit ^^^ 0xFF

/-- HCRC and TCRC correct. -/
def headerOk (f : RFrame) : Bool :=
  decide (f.hdr.toNat % 2 ^ 16 = hcrcOf f.hdr.toNat) && decide (f.transit.toNat % 2 ^ 8 = tcrcOf (frTransit f))

/-- The FCS of a frame: CRC-32C over the header octets and the payload octets (R403). -/
def fcsOf (hdr : BitVec 72) (payload : List Word) : BitVec 32 :=
  BitVec.ofNat 32 (crc32c (octetsBE 9 hdr.toNat ++ packWords payload))

/-- Does a frame pass its FCS: whole, with LEN words, and the check value of its octets (R403, R416)? -/
def fcsOk (f : RFrame) : Bool := !f.cut && decide (f.payload.length = frLen f) && decide (f.fcs = fcsOf f.hdr f.payload)

/-- Length of a frame in q: 25 + ceil(4.5 × LEN) octet times of 80 ns (R404). -/
def frameLen (len : Nat) : Nat := (25 + (9 * len + 1) / 2) * 640

/-! Parameters in q (R405) -/

def usQ : Nat := 8000
def hopQ : Nat := 9600
def gapQ : Nat := 7680
def slQ (s : State) : Nat := s.fld F.NCE_CYC2_SL * 800
def apoQ (s : State) : Nat := s.fld F.NCE_CYC2_APO * 800
def tgapQ (s : State) : Nat := s.fld F.NCE_CYC2_TGAP * usQ
def mslQ (s : State) : Nat := s.fld F.NCE_CYC3_MSL * 800
def apomQ (s : State) : Nat := s.fld F.NCE_CYC3_APOM * 800
def tcycQ (s : State) : Nat := s.fld F.NCE_CYC1_TCYC * usQ
def winQ (s : State) : Nat := s.fld F.NCE_WIN_WIN * 8
def nss (s : State) : Nat := s.fld F.NCE_CYC1_NSS
def nms (s : State) : Nat := s.fld F.NCE_CYC3_NMS
def asQ (s : State) (j : Nat) : Nat := (j - 1) * slQ s + apoQ s
def ds0Q (s : State) : Nat := nss s * slQ s + tgapQ s

/-- NTIME in q. -/
def nowQ (s : State) : Nat := 8 * s.nce.ntime.toNat
def insertion (s : State) : Nat := s.fld F.NCE_OFS_T
/-- Train time in q (R408), the cycle that it falls in, and the time since the running cycle's start (R430). -/
def trainQ (s : State) : Nat := nowQ s - insertion s
def cycleNow (s : State) : Nat := trainQ s / tcycQ s
def inCycle (s : State) : Nat := trainQ s - s.nce.cycN * tcycQ s
def q36 (x : Nat) : BitVec 36 := BitVec.ofNat 36 x

def ownNode (s : State) : Nat := s.fld F.NCE_NODE_NODE
def headNode (s : State) : Nat := s.fld F.NCE_HEAD_HEAD
def isHead (s : State) : Bool := decide (ownNode s = headNode s)
def admitted (s : State) (i : Nat) : Bool :=
  if i < 36 then bit (s.reg R.NCE_NTAB0) i else decide (i < 64) && bit (s.reg R.NCE_NTAB1) (i - 36)
def actMode (s : State) : Nat := s.fld F.NCE_MODE_ACT
def modeEnabled (s : State) (m : Nat) : Bool := decide (m = 0) || maskHas (s.fld F.NCE_MCFG_MEN) m
def ownCyc (s : State) : Nat := s.fld F.NCE_CYCLE_CYC

/-! States (R436, R438) -/

def rOff : Nat := 0
def rDelay : Nat := 1
def rListen : Nat := 2
def rCold : Nat := 3
def rInteg : Nat := 4
def rSync : Nat := 5
def rPassive : Nat := 6
def rVerhold : Nat := 7

def rstate (s : State) : Nat := s.fld F.NCE_TSTAT_RSTATE
def synced (s : State) : Bool := decide (rstate s = rSync) || decide (rstate s = rPassive)

/-- Change the node state: source 201, and 203 on SYNC (R455). -/
def setRstate (r : Nat) (s : State) : State :=
  if rstate s = r then s
  else
    let s := pendSrc 201 (s.setFld F.NCE_TSTAT_RSTATE r)
    let s := setNce (fun n => { n with passGood := 0, passBad := 0, gMiss := 0, intFull := false, verAt := none
                                       heardAt := s.dlk.dtime, coldN := none, ownMiss := 0
                                       tx := if r = rSync then n.tx else none }) (s.setFld F.NCE_TSTAT_OUTC 0)
    if r = rSync then pendSrc 203 s else s

/-! Ports (R422 to R425) -/

def pstOff : Nat := 0
def pstTraining : Nat := 1
def pstUp : Nat := 2
def pstDown : Nat := 3
def pstWrapped : Nat := 4

def pstFld (p : Fin 2) : Fld := if p = 0 then F.NCE_STAT_PST0 else F.NCE_STAT_PST1
def posvFld (p : Fin 2) : Fld := if p = 0 then F.NCE_STAT_POSV0 else F.NCE_STAT_POSV1
def penFld (p : Fin 2) : Fld := if p = 0 then F.NCE_CTRL_PEN0 else F.NCE_CTRL_PEN1
def pst (s : State) (p : Fin 2) : Nat := s.fld (pstFld p)
def wrappedAt (s : State) (p : Fin 2) : Bool := decide (pst s p = pstWrapped)

/-- WRAP, as status word 1 (R412). -/
def updateWrap (s : State) : State :=
  s.setFld F.NCE_STAT_WRAP (b2n (wrappedAt s 0) + 2 * b2n (wrappedAt s 1))

/-- Input and output port of the path on which the node sends (R408, R422). -/
def inPort (s : State) : Fin 2 := if wrappedAt s 0 then 1 else 0
def outPort (s : State) : Fin 2 := if wrappedAt s 1 then 0 else 1

def clearPos (s : State) : State :=
  forN 2 (fun p s => (s.setFld (F.NCE_POS_V p) 0).setFld ⟨R.NCE_STAT, 8 + p, 1⟩ 0) s

def posValid (s : State) (p : Fin 2) : Bool := s.fldB (F.NCE_POS_V p.val)
def posOf (s : State) (p : Fin 2) : Nat := s.fld (F.NCE_POS_POS p.val)

/-- P follows the position on the input of the sending path (R408): 0 for the head; kept while the position is not known,
as in the example of R425. -/
def updateOfs (s : State) : State :=
  if isHead s then s.setFld F.NCE_OFS_T 0
  else if posValid s (inPort s) then s.setFld F.NCE_OFS_T (posOf s (inPort s) + hopQ)
  else s

/-- The node wraps at a port (R422). -/
def wrapPort (p : Fin 2) (s : State) : State :=
  if wrappedAt s p then s
  else
    let s := pendSrc (194 + p.val) (updateWrap (s.setFld (pstFld p) pstWrapped))
    let s := pendSrc 196 ((hoistFlag 81 s).incFld F.NCE_LOOPCNT_CNT)
    updateOfs (clearPos (setPort p (fun h => { h with unwReq := false, ready := false, loopAt := none }) s))

/-- A port unwraps (R425, R444). -/
def unwrapPort (p : Fin 2) (s : State) : State :=
  let s := pendSrc 197 ((updateWrap (s.setFld (pstFld p) pstUp)).incFld F.NCE_CNT2_UNW)
  updateOfs (clearPos s)

/-- DELAY is left when every port has its delay, or is disabled, down or wrapped (R438). -/
def delayDone (s : State) : State :=
  let done := fun (p : Fin 2) => decide (pst s p = pstOff) || decide (pst s p = pstDown) || wrappedAt s p
    || s.fldB (F.NCE_LDLY_V p.val)
  if rstate s = rDelay ∧ done 0 ∧ done 1 then setRstate rListen s else s

/-- A port is declared down (R422): it wraps while the node runs. -/
def declareDown (p : Fin 2) (s : State) : State :=
  if pst s p = pstOff then s
  else if rstate s = rOff then
    if pst s p = pstDown then s else pendSrc (194 + p.val) (s.setFld (pstFld p) pstDown)
  else delayDone (wrapPort p s)

/-- PORT_DOWN: the PHY link status fails, or its receiver has not been OK for 2.0 µs. -/
def portDown (p : Fin 2) (s : State) : State :=
  declareDown p (setPort p (fun h => { h with rxOk := false, okCycles := 0 }) s)

def execPortDown (p : Fin 2) (s : State) : Host.Outcome State Fault Refusal := .next (whenClocked (portDown p) s)

/-- PORT_UP: link and receiver status become OK; a wrapped port stays wrapped. -/
def portUp (p : Fin 2) (s : State) : State :=
  if pst s p = pstOff then s
  else
    let s := setPort p (fun h => { h with rxOk := true, okCycles := 0, okAt := s.dlk.dtime }) s
    if pst s p = pstTraining ∨ pst s p = pstDown then s.setFld (pstFld p) pstUp else s

def execPortUp (p : Fin 2) (s : State) : Host.Outcome State Fault Refusal := .next (whenClocked (portUp p) s)

/-- Own READY of a port: the receiver OK for 64 whole cycles, that is at 65 cycle starts (R423); outside SYNC and PASSIVE for
64 × TCYC, with a measured delay as well (R444). -/
def ownReady (s : State) (p : Fin 2) : Bool :=
  let h := s.nce.port[p]
  h.rxOk && (if synced s then decide (65 ≤ h.okCycles)
    else passed s h.okAt (64000 * s.fld F.NCE_CYC1_TCYC) && s.fldB (F.NCE_LDLY_V p.val))

/-- Is an instant, NTIME in q, within a frame on its output? -/
def within (t : Nat) (x : Nat × Nat) : Bool := decide (x.1 ≤ t) && decide (t < x.2)

/-- No frame of the ring, own or forwarded, is on an output now. -/
def outputIdle (p : Fin 2) (s : State) : Bool :=
  !within (nowQ s) s.nce.port[p].ownSpan && !within (nowQ s) s.nce.port[p].fwdSpan

/-- A write of NCE_CMD. -/
def nceCmd (v : Word) (s : State) : State :=
  let s := if bit v 0 then declareDown 0 s else s
  let s := if bit v 1 then declareDown 1 s else s
  if bit v 2 then
    let req := fun (p : Fin 2) (s : State) => if wrappedAt s p then setPort p (fun h => { h with unwReq := true }) s else s
    req 1 (req 0 s)
  else s

/-! Link frames (R423, R431, R432) -/

/-- A frame with its check values, TRANSIT 0. -/
def mkFrame (hdr : Nat) (payload : List Word) : RFrame :=
  let h := hdr / 2 ^ 16 * 2 ^ 16
  let h := BitVec.ofNat 72 (h + hcrcOf h)
  { hdr := h, transit := BitVec.ofNat 32 (tcrcOf 0), payload := payload, fcs := fcsOf h payload, cut := false }

/-- Header of a frame of this node; the request echo goes into every frame that is not a link frame (R401, R446). -/
def ownHeader (s : State) (fid len : Nat) (null sync cstart : Bool) : Nat :=
  let rq := s.fldB F.NCE_MODE_RQV && decide (fid ≠ 0)
  fid * 2 ^ 61 + ownNode s * 2 ^ 55 + ownCyc s * 2 ^ 49 + actMode s * 2 ^ 46 + 2 * 2 ^ 42 + 3 * 2 ^ 38 + b2n null * 2 ^ 37
    + b2n sync * 2 ^ 36 + b2n cstart * 2 ^ 35 + b2n rq * 2 ^ 34 + len * 2 ^ 28
    + (if rq then s.fld F.NCE_MODE_RQ else 0) * 2 ^ 25

/-- A link frame of a type sent on a port now (R431); its TXT is kept for 1 ms. -/
def linkFrame (ltype : Nat) (p : Fin 2) (s : State) : State :=
  let t := q36 (nowQ s)
  let e := (s.nce.port[p].echo).getD (0, 0)
  let w1 := (if ltype = 1 then b2n (ownReady s p) else 0) + 2 * b2n (synced s)
  let f := mkFrame (ownHeader s 0 5 false false false) [BitVec.ofNat 36 ltype, BitVec.ofNat 36 w1, t, e.1, e.2]
  let recent := fun (x : BitVec 36) => decide ((t - x).toNat ≤ 8000000)
  let s := setPort p (fun h => { h with txTimes := t :: h.txTimes.filter recent }) s
  setNce (fun n => { n with out := n.out ++ [(p.val, f)] }) s

def sendClear (s : State) : State := setNce (fun n => { n with out := [] }) s

/-- Is a delay request due on an unwrapped port (R423, R432)? Once a cycle in the last 30 µs of the network idle segment; at a
node that is not synchronised every 100 µs, while its output is idle. -/
def delayRequestDue (p : Fin 2) (s : State) : Bool :=
  let h := s.nce.port[p]
  decide (rstate s ≠ rOff) && decide (pst s p = pstUp)
    && (if synced s then !h.dreqIn && decide (tcycQ s ≤ inCycle s + 30 * usQ) && decide (inCycle s < tcycQ s)
      else outputIdle p s && (match h.dreqAt with
        | none => true
        | some t => passed s t 100000))

/-- DELAY_REQUEST_SEND: DREQ, after a DRESP that is due. -/
def delayRequestSend (p : Fin 2) (s : State) : State :=
  if delayRequestDue p s then
    let s := sendClear s
    let s := if s.nce.port[p].dresp then setPort p (fun h => { h with dresp := false }) (linkFrame 3 p s) else s
    linkFrame 2 p (setPort p (fun h => { h with dreqIn := true, dreqAt := some s.dlk.dtime }) s)
  else s

def execDelayRequestSend (p : Fin 2) (s : State) : Host.Outcome State Fault Refusal :=
  .next (whenClocked (delayRequestSend p) s)

/-- Is a LOOPED frame due on a wrapped port (R422)? Every 10 µs, outside the last 20 µs of each cycle. -/
def loopedDue (p : Fin 2) (s : State) : Bool :=
  wrappedAt s p && decide (inCycle s + 20 * usQ < tcycQ s)
    && (match s.nce.port[p].loopAt with
      | none => true
      | some t => passed s t 10000)

/-- LOOPED_SEND. -/
def loopedSend (p : Fin 2) (s : State) : State :=
  if loopedDue p s then linkFrame 1 p (sendClear (setPort p (fun h => { h with loopAt := some s.dlk.dtime }) s)) else s

def execLoopedSend (p : Fin 2) (s : State) : Host.Outcome State Fault Refusal := .next (whenClocked (loopedSend p) s)

/-- Sum of samples. -/
def sumQ (l : List (BitVec 36)) : Nat := l.foldl (fun a x => a + x.toNat) 0

/-- The mean of 8 samples is formed again (R432). -/
def formDelay (p : Fin 2) (s : State) : State :=
  let l := s.nce.port[p].samples
  if l.length < 8 then s
  else
    let hi := l.foldl (fun a x => Nat.max a x.toNat) 0
    let lo := l.foldl (fun a x => Nat.min a x.toNat) (2 ^ 36)
    let mean := sumQ l / 8
    let was := s.fld (F.NCE_LDLY_D p.val)
    let s := s.setFld (F.NCE_LDLY_SPR p.val) (Nat.min (hi - lo) 255)
    if s.fldB (F.NCE_LDLY_V p.val) then
      let far := decide (16 < (Int.ofNat mean - Int.ofNat was).natAbs)
      let s := if far then pendSrc 214 (s.incFld F.NCE_TCNT_DLYC) else s
      s.setFld (F.NCE_LDLY_D p.val) mean
    else if hi - lo ≤ 16 then delayDone ((s.setFld (F.NCE_LDLY_D p.val) mean).setFld (F.NCE_LDLY_V p.val) 1)
    else s

/-- A received link frame with TXT, ECHO and RXT gives a sample when its ECHO is a TXT of the last 1 ms (R432); it is kept as
the frame to echo. -/
def takeLink (p : Fin 2) (f : RFrame) (start : Nat) (s : State) : State :=
  let t4 := q36 start
  let t1 := frW f 3
  let known := (s.nce.port[p].txTimes).any fun x => x == t1 && decide ((t4 - x).toNat ≤ 8000000)
  let s := setPort p (fun h => { h with echo := some (frW f 2, t4) }) s
  if known then
    let smp := BitVec.ofNat 36 (((t4 - t1) - (frW f 2 - frW f 4)).toNat / 2)
    formDelay p (setPort p (fun h => { h with samples := (smp :: h.samples).take 8 }) s)
  else s

/-- A port that receives: not disabled, in training or down. -/
def receives (p : Fin 2) (s : State) : Bool := decide (rstate s ≠ rOff) && (decide (pst s p = pstUp) || wrappedAt s p)

/-- The first two checks of R415: what a frame that fails one is counted in; none when it passes. A node that is not
synchronised checks HCRC and TCRC alone (R437). -/
def headFail (p : Fin 2) (f : RFrame) (s : State) : Option State :=
  if !headerOk f then some (s.incFld (F.NCE_ERR_CRC p.val))
  else if !synced s then none
  else if frVmaj f ≠ 2 then some (s.incFld F.NCE_DROP_VER)
  else if 56 < frLen f then some (s.incFld (F.NCE_ERR_CRC p.val))
  else if !admitted s (frSrc f) then some (pendSrc 191 (hoistFlag 82 (s.incFld F.NCE_DROP_STR)))
  else none

/-- A link frame of type lt arrives: its checks, then what it does. -/
def onLink (lt : Nat) (p : Fin 2) (f : RFrame) (g : State → State) (s : State) : State :=
  if receives p s then
    match headFail p f s with
    | some t => t
    | none =>
      if !fcsOk f then s.incFld (F.NCE_ERR_CRC p.val)
      else if frFid f = 0 ∧ getBits (frW f 0) 0 4 = lt then g s else s
  else s

/-- LOOPED (R422, R423, R425, R444). -/
def looped (p : Fin 2) (f : RFrame) (start : Nat) (s : State) : State :=
  onLink 1 p f (fun s =>
    let rdy := bit (frW f 1) 0
    let s := setPort p (fun h => { h with loopNow := true }) (takeLink p f start s)
    if wrappedAt s p then
      let s := setPort p (fun h => { h with ready := h.ready || rdy }) s
      if !synced s && rdy && ownReady s p && !bit (frW f 1) 1 then unwrapPort p s else s
    else setPort p (fun h => { h with ready := rdy }) (declareDown p s)) s

def execLooped (p : Fin 2) (f : RFrame) (start : Nat) (s : State) : Host.Outcome State Fault Refusal :=
  .next (whenClocked (looped p f start) s)

/-- DREQ: an answer at once, in the next network idle window of a synchronised node, or with the next link frame when the output
is not idle; a wrapped port sends LOOPED frames alone (R422). -/
def dreq (p : Fin 2) (f : RFrame) (start : Nat) (s : State) : State :=
  onLink 2 p f (fun s =>
    let s := takeLink p f start s
    if wrappedAt s p then s
    else if !synced s && outputIdle p s then linkFrame 3 p (sendClear s) else setPort p (fun h => { h with dresp := true }) s) s

def execDreq (p : Fin 2) (f : RFrame) (start : Nat) (s : State) : Host.Outcome State Fault Refusal :=
  .next (whenClocked (dreq p f start) s)

/-- DRESP. -/
def dresp (p : Fin 2) (f : RFrame) (start : Nat) (s : State) : State := onLink 3 p f (takeLink p f start) s

def execDresp (p : Fin 2) (f : RFrame) (start : Nat) (s : State) : Host.Outcome State Fault Refusal :=
  .next (whenClocked (dresp p f start) s)

/-- NOISE on a port (R417). -/
def noise (p : Fin 2) (s : State) : State :=
  if rstate s = rOff then s
  else
    let s := setPort p (fun h => { h with noise := h.noise + 1 }) (s.incFld (F.NCE_ERR_NOISE p.val))
    if s.nce.port[p].noise = 65 then pendSrc 193 s else s

def execNoise (p : Fin 2) (s : State) : Host.Outcome State Fault Refusal := .next (whenClocked (noise p) s)

end Sys2Proof.Machine
end

