-- ==== Sys2Proof/Machine/NceCycle.lean ====
section
/-! DEFINITION. The Rosmel node: configuration, the cycle start, the node states, and its sending
(R405 to R413, R425, R438 to R448, R450, R454). -/

namespace Sys2Proof.Machine

/-! Configuration (R406, R454) -/

def schedOwner (s : State) (m j : Nat) : Nat := s.fld (F.NCE_SCHED_OWNER m j)
def schedOn (s : State) (m j : Nat) : Bool := decide (1 ≤ j) && decide (j ≤ nss s) && s.fldB (F.NCE_SCHED_EN m j)
def schedSync (s : State) (m j : Nat) : Bool := schedOn s m j && s.fldB (F.NCE_SCHED_SYNC m j)
def ownsSlot (s : State) (j : Nat) : Bool := schedOn s (actMode s) j && decide (schedOwner s (actMode s) j = ownNode s)

/-- The valid entries of NCE_CAND. -/
def candidates (s : State) : List Nat :=
  (if s.fldB F.NCE_CAND_V0 then [s.fld F.NCE_CAND_ID0] else [])
    ++ (if s.fldB F.NCE_CAND_V1 then [s.fld F.NCE_CAND_ID1] else [])
    ++ (if s.fldB F.NCE_CAND_V2 then [s.fld F.NCE_CAND_ID2] else [])

def modesOn (s : State) : List Nat := (List.range 8).filter (modeEnabled s)
def slotsOf (s : State) : List Nat := (List.range (nss s + 1)).drop 1

/-- Slot 1 belongs to the head; every candidate owns a sync slot; only candidates own sync slots. -/
def scheduleOk (s : State) (m : Nat) : Bool :=
  let sync := (slotsOf s).filter (schedSync s m)
  schedOn s m 1 && decide (schedOwner s m 1 = headNode s)
    && (candidates s).all (fun c => sync.any fun j => decide (schedOwner s m j = c))
    && sync.all fun j => (candidates s).contains (schedOwner s m j)

/-- The conditions under which EN can be set, with the port enables that the same write gives. -/
def nceConfigOk (s : State) : Bool :=
  decide (nss s * slQ s + tgapQ s + nms s * mslQ s + 30 * usQ ≤ tcycQ s)
    && decide (winQ s + 5120 ≤ apoQ s) && decide (winQ s + 5120 ≤ apomQ s)
    && admitted s (ownNode s) && admitted s (headNode s)
    && (s.fldB F.NCE_CTRL_PEN0 || s.fldB F.NCE_CTRL_PEN1)
    && decide (candidates s).Nodup && (candidates s).all (admitted s)
    && decide (32640 + 2 * winQ s ≤ slQ s)
    && (modesOn s).all (scheduleOk s)

/-- The cycle count that NTIME gives (R430). -/
def cycOfTime (s : State) : Nat := cycleNow s % 64

/-- The count and the running cycle follow NTIME: at EN and at integration. -/
def alignCycle (s : State) : State :=
  setNce (fun n => { n with cycN := cycleNow s }) (s.setFld F.NCE_CYCLE_CYC (cycOfTime s))

/-- A change of the port enables (R436). -/
def setPen (p : Fin 2) (b : Bool) (s : State) : State :=
  if s.fldB (penFld p) = b then s
  else
    let s := setPort p (fun _ => ncePortReset) ((s.setFldB (penFld p) b).setReg (R.NCE_LDLY p.val) 0)
    delayDone (updateOfs (clearPos (updateWrap (s.setFld (pstFld p) (if b then pstTraining else pstOff)))))

/-- OFF: requests end, the guidon is forgotten, and a wrapped port shows what its receiver shows. -/
def nceOff (s : State) : State :=
  let s := setRstate rOff s
  let s := (s.setReg R.NCE_MODE (BitVec.ofNat 36 (actMode s))).setFld F.NCE_VER_OPMIN 3
  let s := (((s.setFld F.NCE_TSTAT_GVAL 0).setFld F.NCE_TSTAT_ISG 0).setFld F.NCE_TSTAT_CSINH 0)
  let free := fun (p : Fin 2) (s : State) =>
    if wrappedAt s p then s.setFld (pstFld p) (if s.nce.port[p].rxOk then pstUp else pstDown) else s
  let s := updateOfs (clearPos (updateWrap (free 1 (free 0 s))))
  setNce (fun n => { n with cur := nceCycleReset, prev := nceCycleReset, tx := none, vmins := [], modeDiff := 0, adjN := 0 }) s

/-- A write of NCE_CTRL. MS0 and MS1 take a value while their port is disabled; CLS 11b leaves CLS unchanged. -/
def nceCtrlWrite (v : Word) (s : State) : State :=
  let ms := fun (p : Fin 2) (f : Fld) (s : State) => if pst s p = pstOff then s.setFldB f (bit v (3 + p.val)) else s
  let s := ms 1 F.NCE_CTRL_MS1 (ms 0 F.NCE_CTRL_MS0 s)
  let s := s.setFldB F.NCE_CTRL_AUTOUNW (bit v 5)
  let s := if getBits v 7 2 = 3 then s else s.setFld F.NCE_CTRL_CLS (getBits v 7 2)
  let s := setPen 1 (bit v 2) (setPen 0 (bit v 1) s)
  if bit v 0 then
    if s.fldB F.NCE_CTRL_EN then s
    else if nceConfigOk s then
      let s := (s.setFld F.NCE_CTRL_EN 1).setFld F.NCE_STAT_CFGERR 0
      let s := updateOfs (s.setFld F.NCE_OFS_T 0)
      let s := alignCycle s
      let down := fun (p : Fin 2) (s : State) => if pst s p = pstDown then wrapPort p s else s
      delayDone (down 1 (down 0 (setRstate rDelay s)))
    else s.setFld F.NCE_STAT_CFGERR 1
  else if s.fldB F.NCE_CTRL_EN then nceOff (s.setFld F.NCE_CTRL_EN 0) else s

/-- A write of NCE_MREQ (R446, R452). -/
def nceMreqWrite (v : Word) (s : State) : State :=
  if bit v 3 then
    let m := getBits v 0 3
    if s.fldB F.HAL_STAT_ENSIGN && decide (rstate s = rSync) && modeEnabled s m && decide (m ≠ actMode s)
        && !s.fldB F.NCE_MODE_RQV && !s.fldB F.NCE_MODE_NXV then
      let s := ((s.setFld F.NCE_MODE_MREF 0).setFld F.NCE_MODE_RQ m).setFld F.NCE_MODE_RQV 1
      (s.setFld F.NCE_MODE_ORIG 1).setFld F.NCE_MODE_RQAGE 0
    else s.setFld F.NCE_MODE_MREF 1
  else s

/-! Offset and rate (R434) -/

def amax (s : State) : Int := ((s.fld F.NCE_CYC1_TCYC / 2 : Nat) : Int)
def clampI (x lo hi : Int) : Int := if x < lo then lo else if hi < x then hi else x

/-- a for a drift and an offset. -/
def adjustOf (s : State) (drift e : Int) : Int := clampI (-((drift + e / 2 + 4) / 8)) (-amax s) (amax s)

/-- One measurement of offset e. -/
def measure (e : Int) (s : State) : State :=
  let aprev := s.fldI F.NCE_ADJ_A
  let old := s.fldI F.NCE_DRIFT_DRIFT
  let g := e - s.nce.ePrev - 8 * aprev
  let drift := if s.nce.meas = 0 then 0 else if s.nce.meas = 1 then g else old + (g - old) / 4
  let s := (s.setReg R.NCE_TOFF (wrap36 e)).setReg R.NCE_DRIFT (wrap36 drift)
  let s := s.setReg R.NCE_ADJ (wrap36 (adjustOf s drift e))
  setNce (fun n => { n with meas := Nat.min 2 (n.meas + 1), ePrev := e }) s

/-- Has a cycle brought the guidon's sync frame with |e| at most lim? -/
def guidonWithin (c : NceCycle) (lim : Nat) : Bool :=
  match c.gE with
  | some e => decide (e.natAbs ≤ lim)
  | none => false

/-! State changes -/

def becomeGuidon (s : State) : State :=
  ((s.setFld F.NCE_TSTAT_GUIDON (ownNode s)).setFld F.NCE_TSTAT_GVAL 1).setFld F.NCE_TSTAT_ISG 1

def toListen (s : State) : State :=
  setRstate rListen ((s.setFld F.NCE_TSTAT_GVAL 0).setFld F.NCE_TSTAT_ISG 0)

/-- A coldstart abort of R439 that is counted. -/
def coldAbort (s : State) : State := pendSrc 206 ((toListen s).incFld F.NCE_TCNT_CSAB)

/-- PASSIVE is entered (R443, R448). -/
def toPassive (s : State) : State :=
  pendSrc 204 (hoistFlag 80 ((setRstate rPassive s).incFld F.NCE_TCNT_PASS))

def setOpmin (m : Nat) (s : State) : State :=
  if s.fld F.NCE_VER_OPMIN = m then s else pendSrc 213 (s.setFld F.NCE_VER_OPMIN m)

/-- The LISTEN timeout, in ns: 2 × TCYC + NODE × SL (R438). -/
def listenNs (s : State) : Nat := 2000 * s.fld F.NCE_CYC1_TCYC + 100 * ownNode s * s.fld F.NCE_CYC2_SL

/-- LISTEN_TIMEOUT of a candidate that may start the ring and has heard no valid frame for the timeout (R438, R439): the base
mode, corrections 0, and P = 0 while its position is not known. -/
def listenTimeout (s : State) : State :=
  if rstate s = rListen ∧ (candidates s).contains (ownNode s) ∧ !s.fldB F.NCE_TSTAT_CSINH ∧ s.nce.verAt = none
      ∧ passed s s.nce.heardAt (listenNs s) then
    let s := pendSrc 205 (setRstate rCold s)
    let s := (s.setFld F.NCE_TSTAT_GUIDON (ownNode s)).setFld F.NCE_TSTAT_GVAL 1
    let s := if posValid s (inPort s) then s else s.setFld F.NCE_OFS_T 0
    ((s.setReg R.NCE_ADJ 0).setReg R.NCE_DRIFT 0).setFld F.NCE_MODE_ACT 0
  else s

def execListenTimeout (s : State) : Host.Outcome State Fault Refusal := .next (whenClocked listenTimeout s)

/-- VERSION_HOLD_TIMEOUT (R438): frames of another major version for 2 × TCYC and no valid frame since the first of them. -/
def versionHoldTimeout (s : State) : State :=
  match s.nce.verAt with
  | none => s
  | some t => if rstate s = rListen ∧ passed s t (2000 * s.fld F.NCE_CYC1_TCYC) then setRstate rVerhold s else s

def execVersionHoldTimeout (s : State) : Host.Outcome State Fault Refusal := .next (whenClocked versionHoldTimeout s)

/-! The cycle start -/

/-- Unwrapping of a synchronised node at a cycle start with count 0 (R425), but for a port on which a LOOPED frame arrives in the
same LCLK cycle (R426). -/
def cycleUnwrap (s : State) : State :=
  let one := fun (p : Fin 2) (s : State) =>
    let h := s.nce.port[p]
    if wrappedAt s p ∧ ownReady s p ∧ h.ready ∧ !h.loopNow ∧ (s.fldB F.NCE_CTRL_AUTOUNW ∨ h.unwReq) then unwrapPort p s else s
  if synced s ∧ ownCyc s = 0 then one 1 (one 0 s) else s

/-- COLDSTART at a cycle start (R439): the first begins the coldstart cycles, each later one ends one. -/
def cycleCold (s : State) : State :=
  match s.nce.coldN with
  | none => setNce (fun n => { n with coldN := some 0, ownMiss := 0 }) s
  | some k =>
    let miss := if s.nce.cur.ownBack then 0 else s.nce.ownMiss + 1
    if 2 ≤ miss then coldAbort s
    else if k + 1 = 4 then becomeGuidon (setRstate rSync s)
    else setNce (fun n => { n with coldN := some (k + 1), ownMiss := miss }) s

/-- A valid cycle's mode: the head's, or for the head the guidon's (R440). -/
def joinMode (s : State) : Option Nat := if isHead s then some s.nce.cur.gMode else s.nce.cur.headMode

/-- INTEGRATE at a cycle start (R438, R440). -/
def cycleIntegrate (s : State) : State :=
  let c := s.nce.cur
  if !s.nce.intFull then setNce (fun n => { n with intFull := true, gMiss := 0 }) s
  else if guidonWithin c (winQ s / 2) && (isHead s || c.headOk) then
    let s := s.setFld F.NCE_MODE_ACT ((joinMode s).getD (actMode s))
    setRstate rSync (setOpmin (Nat.min (s.fld F.NCE_VER_OPMIN) (c.minVmin.getD 3)) s)
  else
    let miss := if c.gE.isNone then s.nce.gMiss + 1 else 0
    if 2 ≤ miss then toListen s else setNce (fun n => { n with gMiss := miss }) s

/-- Candidates whose sync frames arrived valid in both of two cycles; the own one counts when its frames were sent. -/
def candidateIn (s : State) (c : NceCycle) (i : Nat) : Bool :=
  if i = ownNode s then c.ownSync else c.syncSrc.contains i

/-- Loss of the guidon (R441): a node of SYNC or PASSIVE at operating version 2.1 or above. -/
def succession (s : State) : State :=
  let miss := if s.nce.cur.gE.isNone then s.nce.gMiss + 1 else 0
  let s := setNce (fun n => { n with gMiss := miss }) s
  if miss < 2 ∨ s.fld F.NCE_VER_OPMIN < 1 then s
  else
    let ok := (candidates s).filter fun i => candidateIn s s.nce.cur i && candidateIn s s.nce.prev i
    let ok := ok.filter fun i => decide (i ≠ s.fld F.NCE_TSTAT_GUIDON)
    match ok.min? with
    | none => s
    | some i =>
      let s := pendSrc 208 ((s.setFld F.NCE_TSTAT_GUIDON i).incFld F.NCE_TCNT_GCHG)
      let s := setNce (fun n => { n with gMiss := 0 }) s
      if i = ownNode s then
        let s := s.setReg R.NCE_ADJ (wrap36 (adjustOf s (s.fldI F.NCE_DRIFT_DRIFT) 0))
        becomeGuidon (s.setFld F.NCE_TSTAT_OUTC 0)
      else s

/-- SYNC at a cycle start (R443, R448). The guidon never judges itself. -/
def cycleSync (s : State) : State :=
  let c := s.nce.cur
  let s := match c.gE with
    | some e => if winQ s < e.natAbs + 400 then pendSrc 215 s else s
    | none => s
  let s :=
    if s.fldB F.NCE_TSTAT_ISG then s
    else
      let s := if guidonWithin c (winQ s - 400) then s.setFld F.NCE_TSTAT_OUTC 0 else s.incFld F.NCE_TSTAT_OUTC
      let out := decide (3 ≤ s.fld F.NCE_TSTAT_OUTC)
      let s := succession s
      if out && !s.fldB F.NCE_TSTAT_ISG then toPassive s else s
  let differs := match c.headMode with
    | some m => decide (m ≠ actMode s)
    | none => false
  let n := if differs then s.nce.modeDiff + 1 else 0
  let s := setNce (fun h => { h with modeDiff := n }) s
  if rstate s = rSync ∧ s.fld F.NCE_VER_OPMIN < 2 ∧ 3 ≤ n then toPassive s else s

/-- PASSIVE at a cycle start (R438). Below version 2.2 a cycle in a mode other than the head's does not count as good. -/
def cyclePassive (s : State) : State :=
  let c := s.nce.cur
  let modeOk := decide (2 ≤ s.fld F.NCE_VER_OPMIN) || isHead s || decide (c.headMode = some (actMode s))
  let good := guidonWithin c (winQ s / 2) && (isHead s || c.headOk) && modeOk
  let s := succession s
  let s := setNce (fun n => { n with
    passGood := if good then n.passGood + 1 else 0
    passBad := if good then 0 else n.passBad + 1 }) s
  if 8 ≤ s.nce.passGood then setRstate rSync s else if 8 ≤ s.nce.passBad then toListen s else s

/-- Mode and version at a cycle start (R446 to R448, R450). -/
def cycleModes (s : State) : State :=
  let s :=
    if s.fldB F.NCE_MODE_NXV && decide (ownCyc s % 8 = 0) then
      pendSrc 211 (s.setReg R.NCE_MODE (BitVec.ofNat 36 (s.fld F.NCE_MODE_NEXT + 2 ^ 12 * s.fld F.NCE_MODE_MREF)))
    else if s.fldB F.NCE_MODE_RQV then s.incFld F.NCE_MODE_RQAGE
    else s
  let s := match s.nce.cur.first with
    | some m =>
      if rstate s = rSync ∧ !s.fldB F.NCE_MODE_RQV ∧ !s.fldB F.NCE_MODE_NXV then
        (((s.setFld F.NCE_MODE_RQ m).setFld F.NCE_MODE_RQV 1).setFld F.NCE_MODE_ORIG 0).setFld F.NCE_MODE_RQAGE 0
      else s
    | none => s
  if synced s ∧ ownCyc s = 0 then
    setOpmin (s.nce.vmins.foldl (fun m x => Nat.min m x.2) (Nat.min 3 (s.fld F.NCE_VER_OPMIN))) s
  else s

/-- CYCLE_START (R405, R430, R438 to R450), due once train time has reached the next cycle. A frame assembled for the new cycle
stays. -/
def cycleStart (s : State) : State :=
  if rstate s = rOff ∨ cycleNow s ≤ s.nce.cycN then s
  else
    let k := cycleNow s
    let s := pendSrc 184 (s.setReg R.NCE_CYCLE (BitVec.ofNat 36 (k % 64)))
    let s := setNce (fun n => { n with cycN := k }) s
    let s := forN 2 (fun p s => setPort (Fin.ofNat 2 p) (fun h => { h with okCycles := if h.rxOk then h.okCycles + 1 else 0 }) s) s
    let s := cycleUnwrap s
    let r := rstate s
    let s := if r = rCold then cycleCold s else if r = rInteg then cycleIntegrate s else if r = rSync then cycleSync s
      else if r = rPassive then cyclePassive s else s
    let s := cycleModes s
    let a := if rstate s = rCold then 0 else s.fldI F.NCE_ADJ_A
    setNce (fun n => { n with
      prev := n.cur, cur := nceCycleReset, tx := n.tx.filter (fun t => decide (k * tcycQ s ≤ t.at_)), mIdx := 0, mcHold := none
      adjN := a.natAbs, adjBack := decide (a < 0), adjCyc := 0
      port := n.port.map fun h => { h with ready := false, noise := 0, dreqIn := false } }) s

def execCycleStart (s : State) : Host.Outcome State Fault Refusal := .next (whenClocked cycleStart s)

/-- MODE_REQUEST_TIMEOUT (R448). -/
def modeRequestTimeout (s : State) : State :=
  if s.fldB F.NCE_MODE_RQV ∧ !s.fldB F.NCE_MODE_NXV ∧ 3 ≤ s.fld F.NCE_VER_OPMIN
      ∧ Nat.max 2 (s.fld F.NCE_MCFG_MRTO) ≤ s.fld F.NCE_MODE_RQAGE then
    let s := ((s.setFld F.NCE_MODE_RQV 0).setFld F.NCE_MODE_RQ 0).setFld F.NCE_MODE_ORIG 0
    pendSrc 212 ((s.setFld F.NCE_MODE_RQAGE 0).incFld F.NCE_TCNT_MFAIL)
  else s

def execModeRequestTimeout (s : State) : Host.Outcome State Fault Refusal := .next (whenClocked modeRequestTimeout s)

/-! Transmission (R411 to R413, R418, R433) -/

/-- Does buffer b's cycle filter match a cycle count (R411)? CREP 7 acts as 6. -/
def filterMatch (s : State) (b cyc : Nat) : Bool :=
  let m := 2 ^ Nat.min 6 (s.fld (F.NCE_BCTL_CREP b))
  decide (cyc % m = s.fld (F.NCE_BCTL_CBASE b) % m)

/-- The lowest-numbered enabled buffer of a direction with a frame ID whose filter matches. -/
def bufferFor (s : State) (dir fid cyc : Nat) : Option Nat :=
  (List.range 64).find? fun b =>
    s.fldB (F.NCE_BCTL_EN b) && decide (s.fld (F.NCE_BCTL_DIR b) = dir) && decide (s.fld (F.NCE_BCTL_FID b) = fid)
      && filterMatch s b cyc

def isStatusBuf (s : State) (b : Nat) : Bool := s.fldB F.NCE_STFID_STEN && decide (s.fld F.NCE_STFID_BUF = b)

/-- Words 0 and 1 of the status frame (R33, R412). -/
def statusWords (b : Nat) (s : State) : State :=
  let w1 := s.fld F.HAL_RSTAT_HALFMAST + 2 * s.fld F.NCE_STAT_WRAP
  let w0 := if s.lstate = lsOffline ∨ s.lstate = lsSelftest then 0 else s.sentPennant
  (s.setReg (R.NCE_BPAY b 0) w0).setReg (R.NCE_BPAY b 1) (BitVec.ofNat 36 w1)

/-- RDY as it stood at the end of the last LCLK cycle (R411, R426). -/
def readyOf (s : State) (b : Nat) : Bool :=
  match s.nce.rdyWas.find? (fun x => x.1 == b) with
  | some x => x.2
  | none => s.fldB (F.NCE_BCTL_RDY b)

/-- Before a write of BCTL of buffer b: the first of an LCLK cycle keeps RDY for that cycle. -/
def noteRdy (b : Nat) (s : State) : State :=
  if s.nce.rdyWas.any (fun x => x.1 == b) then s
  else setNce (fun n => { n with rdyWas := (b, s.fldB (F.NCE_BCTL_RDY b)) :: n.rdyWas }) s

/-- The payload words that buffer b offers: none when it is not ready; a status frame that is not ready offers two. -/
def bufPayload (s : State) (b : Nat) : Option (List Word) :=
  let take := fun n => (List.range n).map fun i => s.reg (R.NCE_BPAY b i)
  if readyOf s b then some (take (Nat.min 56 (s.fld (F.NCE_BCTL_LEN b))))
  else if isStatusBuf s b then some (take 2) else none

/-- A ready buffer whose LEN is no frame length. -/
def badLen (s : State) (b : Nat) : Bool := readyOf s b && decide (56 < s.fld (F.NCE_BCTL_LEN b))

/-- The lowest-numbered ready buffer of a dynamic frame ID (R413); the status frame is always ready (R412). -/
def readyBufferFor (s : State) (fid cyc : Nat) : Option Nat :=
  (List.range 64).find? fun b =>
    s.fldB (F.NCE_BCTL_EN b) && s.fldB (F.NCE_BCTL_DIR b) && decide (s.fld (F.NCE_BCTL_FID b) = fid)
      && filterMatch s b cyc && (readyOf s b || isStatusBuf s b)

/-- The copy ends: ONCE clears RDY. -/
def copyDone (b : Nat) (s : State) : State :=
  if s.fldB (F.NCE_BCTL_ONCE b) then (noteRdy b s).setFld (F.NCE_BCTL_RDY b) 0 else s

/-- Does a frame of n words fit a static slot (R407)? -/
def fitsSlot (s : State) (n : Nat) : Bool := decide (frameLen n + gapQ + 2 * winQ s ≤ slQ s)

def setTx (t : NceTx) (s : State) : State := setNce (fun n => { n with tx := some t }) s

/-- A null frame of static slot j is prepared and counted. -/
def nullTx (j a : Nat) (b : Option Nat) (s : State) : State :=
  setTx { at_ := a, slot := j, buf := b, payload := none, sync := false } (s.incFld F.NCE_CNT2_NULLT)

/-- The train time of the sending of static slot j that the NCE assembles now: from 2.50 µs before it (R411). -/
def assemblyFor (j : Nat) (s : State) : Option Nat :=
  let x := trainQ s
  if x + 20000 < asQ s j ∨ tcycQ s = 0 then none
  else
    let a := (x + 20000 - asQ s j) / tcycQ s * tcycQ s + asQ s j
    if x < a then some a else none

/-- Has the frame of this sending time been assembled? -/
def assembled (j a : Nat) (s : State) : Bool :=
  match s.nce.tx with
  | some t => decide (t.slot = j) && decide (t.at_ = a)
  | none => false

/-- The frame of an owned static slot j for its sending at train time a, in the cycle of that time. -/
def assembleSlot (j a : Nat) (s : State) : State :=
  if schedSync s (actMode s) j then setTx { at_ := a, slot := j, buf := none, payload := none, sync := true } s
  else match bufferFor s 1 j (a / tcycQ s % 64) with
    | none => nullTx j a none s
    | some b =>
      let s := if isStatusBuf s b then statusWords b s else s
      match bufPayload s b with
      | none => nullTx j a (some b) s
      | some l =>
        if badLen s b ∨ !fitsSlot s l.length then nullTx j a (some b) s
        else setTx { at_ := a, slot := j, buf := some b, payload := some l, sync := false } (copyDone b s)

/-- FRAME_ASSEMBLY of static slot j: in SYNC any owned slot; in COLDSTART the sync slots and the head's slot 1. -/
def frameAssembly (j : Nat) (s : State) : State :=
  let may := ownsSlot s j && (decide (rstate s = rSync) || (decide (rstate s = rCold) && s.nce.coldN.isSome
    && (schedSync s (actMode s) j || (isHead s && decide (j = 1)))))
  match assemblyFor j s with
  | none => s
  | some a => if !may || assembled j a s then s else assembleSlot j a s

def execFrameAssembly (j : Fin 256) (s : State) : Host.Outcome State Fault Refusal :=
  .next (whenClocked (frameAssembly j.val) s)

/-- The static segment has ended (R405). -/
def staticEnd (s : State) : State :=
  if s.fld F.NCE_CYCLE_SEG = 0 then pendSrc 185 (s.setFld F.NCE_CYCLE_SEG 1) else s

/-- MINISLOT_BOUNDARY: the next boundary of the dynamic segment, once its time has come; the frame whose ID is MC there is
prepared (R413). -/
def minislotBoundary (s : State) : State :=
  let i := s.nce.mIdx
  if rstate s = rOff ∨ nms s ≤ i ∨ inCycle s < ds0Q s + i * mslQ s then s
  else
    let s := (staticEnd s).setFld F.NCE_CYCLE_SEG 2
    let s :=
      if i = 0 then s.setFld F.NCE_CYCLE_MC 0
      else match s.nce.mcHold with
        | some k => if k ≤ i then setNce (fun n => { n with mcHold := none }) (s.incFld F.NCE_CYCLE_MC) else s
        | none => s.incFld F.NCE_CYCLE_MC
    let held := s.nce.mcHold.isSome
    let s := setNce (fun n => { n with mIdx := i + 1 }) s
    if rstate s = rSync ∧ !held then
      let k := 256 + s.fld F.NCE_CYCLE_MC
      match readyBufferFor s k (ownCyc s) with
      | none => s
      | some b =>
        let s := if isStatusBuf s b then statusWords b s else s
        match bufPayload s b with
        | none => s
        | some l =>
          if !badLen s b ∧ i * mslQ s + apomQ s + frameLen l.length + gapQ ≤ nms s * mslQ s then
            setTx { at_ := s.nce.cycN * tcycQ s + ds0Q s + i * mslQ s + apomQ s, slot := k, buf := some b, payload := some l, sync := false } (copyDone b s)
          else pendSrc 200 (s.incFld F.NCE_CNT2_DSKIP)
    else s

def execMinislotBoundary (s : State) : Host.Outcome State Fault Refusal := .next (whenClocked minislotBoundary s)

/-- The boundary to which a frame of n words that starts after boundary i holds MC. -/
def holdTo (s : State) (i n : Nat) : Nat := (i * mslQ s + apomQ s + frameLen n + gapQ + (mslQ s - 1)) / mslQ s

/-- The words of a sync frame that starts now (R433). -/
def syncWords (s : State) : List Word :=
  let t := s.nce.ntime.toNat
  [BitVec.ofNat 36 (t / 2 ^ 36), BitVec.ofNat 36 t,
    BitVec.ofNat 36 (s.fld F.NCE_TSTAT_GUIDON + 64 * s.fld F.NCE_TSTAT_GVAL)]

/-- What a buffer shows of its frame that has been sent. -/
def bufSent (b : Nat) (null : Bool) (s : State) : State :=
  let s := ((s.setFld (F.NCE_BSTAT_CYC b) (ownCyc s)).setFld (F.NCE_BSTAT_SENT b) 1).setFldB (F.NCE_BSTAT_NULLT b) null
  let s := s.setReg (R.NCE_BTS b) (BitVec.ofNat 36 s.nce.ntime.toNat)
  if s.fldB (F.NCE_BCTL_IE b) then pendSrc 188 s else s

/-- Own frames of the last cycle: one that has not returned by then does not (R409, R410). -/
def ownAlive (s : State) (x : Nat × Nat) : Bool := decide (nowQ s ≤ x.2 + tcycQ s)

/-- FRAME_SEND of the prepared frame once its sending time has come (R408); a forwarded frame in progress on the output keeps it
from being sent (R418). -/
def frameSend (s : State) : State :=
  match s.nce.tx with
  | none => s
  | some t =>
    if trainQ s < t.at_ then s else
    let s := setNce (fun n => { n with tx := none }) s
    if pst s (outPort s) ≠ pstUp then s
    else if within (nowQ s) s.nce.port[outPort s].fwdSpan then s.incFld F.NCE_DROP_COLL
    else
      let null := !t.sync && t.payload.isNone
      let l := if t.sync then syncWords s else t.payload.getD []
      let cold := t.sync && decide (rstate s = rCold)
      let f := mkFrame (ownHeader s t.slot l.length null t.sync cold) l
      let s := setNce (fun n => { n with out := [((outPort s).val, f)], ownStart := (t.slot, nowQ s) :: n.ownStart.filter (ownAlive s) }) s
      let s := setPort (outPort s) (fun h => { h with
        ownSpan := (nowQ s - 5120, nowQ s - 5120 + frameLen l.length) }) s
      let s := if s.fldB F.NCE_MODE_RQV then
          setCur (fun c => { c with mreq := (ownNode s, s.fld F.NCE_MODE_RQ) :: c.mreq }) s
        else s
      let s := if t.sync then
          setNce (fun n => { n with lastSync := some (l.getD 0 0, l.getD 1 0) }) (setCur (fun c => { c with ownSync := true }) s)
        else s
      let s := if 256 ≤ t.slot then setNce (fun n => { n with mcHold := some (holdTo s (n.mIdx - 1) l.length) }) s else s
      let s := match t.buf with
        | some b => bufSent b null s
        | none => s
      if null then pendSrc 189 s else s

def execFrameSend (s : State) : Host.Outcome State Fault Refusal := .next (whenClocked frameSend s)

/-! The network idle segment (R421, R447) -/

/-- Command buffers that have received no valid non-null frame in this cycle. -/
def missingCommands (s : State) : Nat :=
  ((List.range 64).filter fun b =>
    s.fldB (F.NCE_BCTL_EN b) && !s.fldB (F.NCE_BCTL_DIR b) && s.fldB (F.NCE_BCTL_CMD b) && filterMatch s b (ownCyc s)
      && !s.nce.cur.bufs.contains b).length

/-- Has every node of the table sent request m in this cycle and the one before? -/
def requestAgreed (s : State) (m : Nat) : Bool :=
  (List.range 64).all fun i =>
    !admitted s i || (s.nce.cur.mreq.contains (i, m) && s.nce.prev.mreq.contains (i, m))

/-- NETWORK_IDLE_START, once a cycle from the end of the dynamic segment (R405). -/
def networkIdleStart (s : State) : State :=
  if rstate s = rOff ∨ s.fld F.NCE_CYCLE_SEG = 3 ∨ inCycle s < ds0Q s + nms s * mslQ s then s
  else
    let s := pendSrc 186 ((staticEnd s).setFld F.NCE_CYCLE_SEG 3)
    let k := if synced s then missingCommands s else 0
    let s := if k = 0 then s else pendSrc 190 (hoistFlag 83 (s.incFld F.NCE_CNT2_RCMD k))
    let m := s.fld F.NCE_MODE_RQ
    if rstate s = rSync ∧ s.fldB F.NCE_MODE_RQV ∧ !s.fldB F.NCE_MODE_NXV ∧ requestAgreed s m then
      pendSrc 210 ((s.setFld F.NCE_MODE_NEXT m).setFld F.NCE_MODE_NXV 1)
    else s

def execNetworkIdleStart (s : State) : Host.Outcome State Fault Refusal := .next (whenClocked networkIdleStart s)

/-! NTIME (R430) -/

/-- One LCLK cycle of the node: NTIME advances by 2, or by 1 or 3 in the cycles of a correction, spread evenly; the static
segment ends by its train time. -/
def nceTick (s : State) : State :=
  let n := s.nce
  let cyc := s.fld F.NCE_CYC1_TCYC * 500
  let due := decide (0 < cyc) && decide (n.adjCyc * n.adjN / cyc < (n.adjCyc + 1) * n.adjN / cyc) && decide (n.adjCyc < cyc)
  let step : DWord := if due then (if n.adjBack then 1 else 3) else 2
  let s := setNce (fun n => { n with
    ntime := n.ntime + step, adjCyc := n.adjCyc + 1, rdyWas := [], port := n.port.map fun h => { h with loopNow := false } }) s
  if rstate s ≠ rOff ∧ s.fld F.NCE_CYCLE_SEG = 0 ∧ nss s * slQ s ≤ inCycle s then staticEnd s else s

end Sys2Proof.Machine
end

