-- ==== Sys2Proof/Machine/Sram.lean ====
section
/-! DEFINITION. Fabric writes of SRAM: the response codes, the regions guarded by class, and what a unit of the lane stores
through its port (R61, R68 to R70, R137, R420, R461, R471). -/

namespace Sys2Proof.Machine

/-! Response codes (R70) -/

def respOk : Nat := 0
def respWlost : Nat := 1
def respBus : Nat := 2
def respClass : Nat := 3
def respSec : Nat := 4
def respEcc : Nat := 5
def respPoison : Nat := 6
def respTimeout : Nat := 7
/-- Not a code of R70: the access has not completed, because the write stalls on a full configuration queue (R248). -/
def respStall : Nat := 16

/-- Is a in [b, b + n)? -/
def inRange (a b n : Nat) : Bool := decide (b ≤ a) && decide (a < b + n)

/-- Speed and position words that the four descriptors of an image name (R69, R304, R305). -/
def imageWord (img : List Word) (a : Nat) : Bool :=
  (List.range 4).any fun i =>
    let d := descriptor img i
    decide (a = dSpda d) || decide (a = dPosa d)

/-- SRAM that takes writes of class 2 and above alone (R69). -/
def guardedSram (s : State) (a : Nat) : Bool :=
  (s.fldB F.XLA_CTRL_EN &&
    (inRange a (s.fld F.XLA_AGBASE_AGBASE) 128 || inRange a (s.fld F.XLA_OSBASE_OSBASE) 64
      || inRange a (s.fld F.XLA_MBASE_MBASE) (32 * s.fld F.XLA_MCFG_MBLKS)))
  || [(0 : Fin 2), 1].any fun n =>
    s.fldB (F.FCE_CTRL_EN n.val) &&
      (inRange a (s.fld (F.FCE_IMGBASE_BASE n.val)) 322 || imageWord (activeImage n s) a)

/-- Why an SRAM bank does not serve a source, whatever the access (R61, R461, R471). -/
def sramRefusal (r : Req) (s : State) (a : Nat) : Option Nat :=
  if bankOf a = 15 ∧ (!r.sec || s.fldB F.MEMC_STAT_WIPE) then some respSec
  else if marching s (bankOf a) then some respBus
  else none

/-- A stored word through its code. -/
def readWord (a : Nat) (s : State) : State × Nat × Word :=
  match eccRead a s with
  | (t, true) => (t, respOk, t.word a)
  | (t, false) => (t, respEcc, 0)

/-- A read or fetch of a word of SRAM: refusal, poison (R469), code. -/
def readSram (r : Req) (a : Nat) (s : State) : State × Nat × Word :=
  match sramRefusal r s a with
  | some e => (s, e, 0)
  | none => if poisoned s (bankOf a) then (s, respPoison, 0) else readWord a s

/-- A write of a word of SRAM: the state after it and the response. -/
def sramWrite (r : Req) (a : Nat) (v : Word) (s : State) : State × Nat :=
  match sramRefusal r s a with
  | some e => (s, e)
  | none => if r.cls < 2 ∧ guardedSram s a then (s, respClass) else (s.store a v, respOk)

/-- Consecutive words written to SRAM through the fabric; a word outside SRAM, or one that is refused, is not written. -/
def sramWords (r : Req) (a : Nat) : List Word → State → State
  | [], s => s
  | w :: l, s => sramWords r (a + 1) l (if inSram a then (sramWrite r a w s).1 else s)

/-- What the XLA issues as: source 09h, class 2 (R67, R69). -/
def xlaReq : Req := ⟨9, 2, false⟩

/-- Consecutive words of SRAM as a unit reads them: none as soon as one is not answered OK. -/
def sramReads (r : Req) : Nat → Nat → State → State × Option (List Word)
  | 0, _, s => (s, some [])
  | n + 1, a, s =>
    match (if inSram a then readSram r a s else (s, respBus, 0)) with
    | (s, e, v) =>
      match sramReads r n (a + 1) s with
      | (s, some l) => (s, if e = respOk then some (v :: l) else none)
      | (s, none) => (s, none)

/-- Consecutive words of SRAM that the XLA copies into a buffer of its own; a word that does not answer OK leaves a free value
there. -/
def sramCopy : Nat → Nat → State → State × List Word
  | 0, _, s => (s, [])
  | n + 1, a, s =>
    match (if inSram a then readSram xlaReq a s else (s, respBus, 0)) with
    | (s, e, v) =>
      let w := if e = respOk then v else s.freeVal
      match sramCopy n (a + 1) (if e = respOk then s else s.useFree) with
      | (s, l) => (s, w :: l)

end Sys2Proof.Machine
end

