-- ==== Sys2Proof/Machine/NceFrame.lean ====
section
/-! DEFINITION. The Rosmel node: frames that arrive, the guardian, delivery to the buffers, and sync frames
(R408, R409, R413 to R421, R434, R437 to R441, R444). -/

namespace Sys2Proof.Machine

/-! Delivery (R419, R420) -/

/-- A buffer's content as it becomes visible; with the mirror on it is written to SRAM too, at the class of the NCE (R68, R420). -/
def showHeld (h : NceHeld) (s : State) : State :=
  let b := h.buf
  let s := ((s.setFld (F.NCE_BSTAT_CYC b) h.cyc).setFldB (F.NCE_BSTAT_NULLR b) h.null).setFld (F.NCE_BSTAT_PATH b) h.path
  let s := s.setReg (R.NCE_BTS b) h.ts
  let s := match h.payload with
    | none => s
    | some l =>
      let s := (l.foldl (fun (a : Nat × State) x => (a.1 + 1, a.2.setReg (R.NCE_BPAY b a.1) x)) (0, s)).2
      let s := if h.ovr || s.fldB (F.NCE_BSTAT_VALID b) then s.setFld (F.NCE_BSTAT_OVR b) 1 else s
      (s.setFld (F.NCE_BSTAT_RLEN b) h.rlen).setFld (F.NCE_BSTAT_VALID b) 1
  let s := if s.fldB (F.NCE_BCTL_IE b) then pendSrc 187 s else s
  if s.fldB F.NCE_MIR_EN then
    let base := s.fld F.NCE_MIR_MBASE + 64 * b
    let q : Req := ⟨7, s.fld F.NCE_CTRL_CLS, false⟩
    let s := sramWords q (base + 1) [s.reg (R.NCE_BSTAT b), s.reg (R.NCE_BTS b)] s
    sramWords q (base + 4) ((List.range 56).map fun i => s.reg (R.NCE_BPAY b i)) s
  else s

/-- A delivery waits for the control-frame start; it takes the place of an earlier one of its buffer, whose payload a null
frame keeps. -/
def holdContent (h : NceHeld) (s : State) : State :=
  let h := match s.nce.held.find? (fun x => x.buf == h.buf) with
    | none => h
    | some o =>
      if h.null then { h with payload := o.payload, rlen := o.rlen, ovr := o.ovr }
      else { h with ovr := o.ovr || o.payload.isSome }
  setNce (fun n => { n with held := n.held.filter (fun x => x.buf != h.buf) ++ [h] }) s

/-- Held contents become visible, and NCE_SMODE captures NCE_MODE (R420, R449). -/
def nceFrameStart (s : State) : State :=
  let l := s.nce.held
  let s := l.foldl (fun s h => showHeld h s) (setNce (fun n => { n with held := [] }) s)
  s.setReg R.NCE_SMODE (BitVec.ofNat 36 (getBits (s.reg R.NCE_MODE) 0 7))

/-- The frame of an own cycle reaches its FCS on port p. -/
def deliver (p : Fin 2) (f : RFrame) (start : Nat) (s : State) : State :=
  match bufferFor s 0 (frFid f) (frCyc f) with
  | none => s
  | some b =>
    if s.nce.cur.fids.contains (frFid f) then s.incFld F.NCE_CNT2_DUP
    else
      let null := frNull f
      let s := setCur (fun c => { c with
        fids := frFid f :: c.fids
        bufs := if null then c.bufs else b :: c.bufs }) s
      let h : NceHeld :=
        { buf := b, cyc := frCyc f, rlen := frLen f, null := null, path := p.val, ts := BitVec.ofNat 36 (start / 8)
          payload := if null then none else some (f.payload.take (frLen f)), ovr := false }
      if s.fldB (F.NCE_BCTL_SNAP b) then holdContent h s else showHeld h s

/-! Forwarding (R402, R414) -/

/-- Output on which a node forwards what arrives at port p. -/
def forwardPort (p : Fin 2) (s : State) : Fin 2 := if wrappedAt s (1 - p) then p else 1 - p

/-- The frame with TRANSIT advanced by the link delay and the time it was held. -/
def advanceTransit (p : Fin 2) (held : Nat) (f : RFrame) (s : State) : RFrame :=
  let t := Nat.min (frTransit f + s.fld (F.NCE_LDLY_D p.val) + held) 0xFFFFFF
  { f with transit := BitVec.ofNat 32 (t * 2 ^ 8 + tcrcOf t) }

/-- Forward cut-through; an own frame in progress on the output when the preamble would begin ends it (R418). -/
def forward (p : Fin 2) (held : Nat) (f : RFrame) (start : Nat) (s : State) : State :=
  let o := forwardPort p s
  let pre := start + held - 5120
  if pst s o ≠ pstUp then s
  else if within pre s.nce.port[o].ownSpan then s.incFld F.NCE_DROP_COLL
  else
    let s := setPort o (fun h => { h with fwdSpan := (pre, pre + frameLen f.payload.length) }) s
    setNce (fun n => { n with out := [(o.val, advanceTransit p held f s)] }) s

/-! Positions (R408, R410, R415) -/

def isHeadFrame (f : RFrame) (s : State) : Bool := decide (frFid f = 1) && decide (frSrc f = headNode s)

/-- Distance of two instants within the cycle of T. -/
def cycDist (T x y : Nat) : Nat :=
  let d := (x % T + T - y % T) % T
  Nat.min d (T - d)

/-- The head's slot-1 frame has arrived at a port (R408, R415). -/
def learnPos (p : Fin 2) (start : Nat) (s : State) : State :=
  let T := tcycQ s
  let x := (start % T + T - asQ s 1 % T) % T
  let s := if posValid s p ∧ winQ s < cycDist T x (posOf s p) then pendSrc 198 (s.incFld F.NCE_POSCNT_CNT) else s
  updateOfs (((s.setFld (F.NCE_POS_POS p.val) x).setFld (F.NCE_POS_V p.val) 1).setFld (posvFld p) 1)

/-- ROUND as measured, and the gaps that it asks for (R410). -/
def setRound (r : Nat) (s : State) : State :=
  let s := s.setFld F.NCE_ROUND_T r
  let r := s.fld F.NCE_ROUND_T
  let bad := decide (tgapQ s < 2 * r) || decide (tcycQ s < ds0Q s + nms s * mslQ s + 2 * r + 30 * usQ)
  let s := if bad && !s.fldB F.NCE_STAT_GAPW then pendSrc 199 s else s
  s.setFldB F.NCE_STAT_GAPW bad

/-- The node's own frame returns on its sending path and is removed (R408, R409). -/
def ownReturns (p : Fin 2) (f : RFrame) (start : Nat) (s : State) : State :=
  let mine := fun (x : Nat × Nat) => decide (x.1 = frFid f) && decide (x.2 ≤ start)
  let s := match s.nce.ownStart.find? mine with
    | some x => setRound (start - x.2 + hopQ) (setNce (fun n => { n with ownStart := n.ownStart.filter fun x => !mine x }) s)
    | none => s
  if isHeadFrame f s then learnPos p start s else s

/-! The guardian (R415) -/

/-- The schedule check of a static or dynamic frame. -/
def schedFrameOk (f : RFrame) (s : State) : Bool :=
  let fid := frFid f
  decide (frCyc f = ownCyc s)
    && (if fid < 256 then schedOn s (actMode s) fid && decide (schedOwner s (actMode s) fid = frSrc f)
        else decide (fid < 256 + nms s))

/-- The minislot boundary from which a frame starts at port p on its first pass; for its second pass add ROUND to `late`. -/
def boundaryOf (p : Fin 2) (start late : Nat) (s : State) : Option Nat :=
  let T := tcycQ s
  let b := ds0Q s + apomQ s + posOf s p + late
  let y := (start % T + T - b % T + winQ s) % T
  let i := Nat.min (y / mslQ s) (nms s - 1)
  if 0 < nms s ∧ y ≤ i * mslQ s + 2 * winQ s then some i else none

/-- The window check. -/
def windowOk (p : Fin 2) (f : RFrame) (start : Nat) (s : State) : Bool :=
  let r := s.fld F.NCE_ROUND_T
  if frFid f < 256 then
    let at_ := asQ s (frFid f) + posOf s p
    decide (cycDist (tcycQ s) start at_ ≤ winQ s) || decide (cycDist (tcycQ s) start (at_ + r) ≤ winQ s)
  else (boundaryOf p start 0 s).isSome || (boundaryOf p start r s).isSome

/-- The checks of R415 after those of the header: what a frame that fails is counted in. -/
def guardFail (p : Fin 2) (f : RFrame) (start : Nat) (s : State) : Option State :=
  if !schedFrameOk f s then some (s.incFld F.NCE_DROP_SCHED)
  else if isHeadFrame f s then none
  else if posValid s p && windowOk p f start s then none
  else some (pendSrc 192 (s.incFld (F.NCE_ERR_WIN p.val)))

/-- What every frame of the ring that is valid tells a node: its minor version, and its mode request (R440, R446, R447,
R450). -/
def noteFrame (p : Fin 2) (f : RFrame) (s : State) : State :=
  let s := setCur (fun c => { c with minVmin := some (Nat.min (frVmin f) (c.minVmin.getD (frVmin f))) }) s
  if synced s then
    let s := setNce (fun n => { n with vmins := (frSrc f, frVmin f) :: n.vmins.filter fun x => x.1 != frSrc f }) s
    if frMreq f then
      let m := frRmode f
      let s := setCur (fun c => { c with mreq := (frSrc f, m) :: c.mreq }) s
      if rstate s = rSync ∧ modeEnabled s m ∧ p = inPort s ∧ s.nce.cur.first.isNone then
        if s.fldB F.NCE_MODE_NXV then
          if m = s.fld F.NCE_MODE_NEXT then s
          else setCur (fun c => { c with first := some m }) (s.incFld F.NCE_TCNT_MFAIL)
        else
          let s := setCur (fun c => { c with first := some m }) s
          if s.fldB F.NCE_MODE_RQV then s else pendSrc 209 s
      else s
    else s
  else s

/-- The head's slot-1 frame in a node that keeps the ring's time: its position, its mode, and mode follow (R408, R448). -/
def noteHead (p : Fin 2) (f : RFrame) (start : Nat) (s : State) : State :=
  let s := learnPos p start s
  if p = inPort s then
    let s := setCur (fun c => { c with headOk := true, headMode := some (frMode f) }) s
    if synced s ∧ 2 ≤ s.fld F.NCE_VER_OPMIN ∧ frMode f ≠ actMode s then
      ((s.setFld F.NCE_MODE_ACT (frMode f)).setFld F.NCE_MODE_NEXT 0).setFld F.NCE_MODE_NXV 0 |>.incFld F.NCE_TCNT_FOLW
    else s
  else s

/-- A dynamic frame on its first pass at the input of the sending path holds MC (R413). -/
def noteMinislot (p : Fin 2) (f : RFrame) (start : Nat) (s : State) : State :=
  if 256 ≤ frFid f ∧ p = inPort s then
    match boundaryOf p start 0 s with
    | some i => setNce (fun n => { n with mcHold := some (holdTo s i (frLen f)) }) s
    | none => s
  else s

/-- A frame at a synchronised node. -/
def syncedFrame (p : Fin 2) (held : Nat) (f : RFrame) (start : Nat) (s : State) : State :=
  match headFail p f s with
  | some t => t
  | none =>
    if frFid f = 0 then s
    else if frSrc f = ownNode s ∧ p = inPort s then ownReturns p f start s
    else
      match guardFail p f start s with
      | some t => t
      | none =>
        let s := noteMinislot p f start (noteFrame p f (if isHeadFrame f s then noteHead p f start s else s))
        let s := forward p held f start s
        if !fcsOk f then s.incFld (F.NCE_ERR_CRC p.val)
        else if frSrc f = ownNode s then s
        else deliver p f start s

/-- A frame at a node in DELAY, LISTEN, COLDSTART, INTEGRATE or VERHOLD (R437, R438, R444). -/
def earlyFrame (p : Fin 2) (held : Nat) (f : RFrame) (start : Nat) (s : State) : State :=
  match headFail p f s with
  | some t => t
  | none =>
    if frFid f = 0 then s
    else
      let s := if wrappedAt s p && !s.nce.port[p].loopNow then unwrapPort p s else s
      let valid := decide (frVmaj f = 2) && admitted s (frSrc f)
      let s := if valid then setNce (fun n => { n with verAt := none, heardAt := s.dlk.dtime }) (noteFrame p f s)
        else if frVmaj f ≠ 2 ∧ rstate s = rListen then
          setNce (fun n => { n with verAt := some (n.verAt.getD s.dlk.dtime) }) s
        else s
      if frSrc f = ownNode s ∧ p = inPort s then ownReturns p f start s
      else
        let timed := decide (rstate s = rCold) || decide (rstate s = rInteg)
        let s := if valid && timed && isHeadFrame f s then noteHead p f start s else s
        forward p held f start s

/-- ROSMEL_FRAME: a frame whose start was at `start` (NTIME in q) at port p; held for 1.200 µs ± 8 ns (R414). -/
def rosmelFrame (p : Fin 2) (f : RFrame) (start : Nat) (hold : Fin 129) (s : State) : State :=
  let held := 9536 + hold.val
  if !receives p s then s
  else if synced s then (if wrappedAt s p then s else syncedFrame p held f start s)
  else earlyFrame p held f start s

def execRosmelFrame (p : Fin 2) (f : RFrame) (start : Nat) (hold : Fin 129) (s : State) :
    Host.Outcome State Fault Refusal := .next (whenClocked (rosmelFrame p f start hold) s)

/-! Sync frames (R433, R434, R439 to R441) -/

def syGid (f : RFrame) : Nat := getBits (frW f 2) 0 6
def syGv (f : RFrame) : Bool := bit (frW f 2) 6

/-- A sync frame from a guidon: its SRC equals its valid GID. -/
def fromGuidon (f : RFrame) : Bool := syGv f && decide (syGid f = frSrc f)

/-- 8 × txt + transit + d: the ring's time of the arrival, in q. -/
def ringTime (p : Fin 2) (f : RFrame) (s : State) : Nat :=
  8 * ((frW f 0).toNat * 2 ^ 36 + (frW f 1).toNat) + frTransit f + s.fld (F.NCE_LDLY_D p.val)

/-- The offset of a measurement (R434). -/
def takeOffset (p : Fin 2) (f : RFrame) (start : Nat) (s : State) : State :=
  let e : Int := Int.ofNat start - Int.ofNat (ringTime p f s)
  setCur (fun c => { c with gE := some e, gMode := frMode f }) (measure e s)

/-- The node integrates on a sync frame (R440): NTIME takes the ring's time, and the step is the first measurement. -/
def integrate (p : Fin 2) (f : RFrame) (start : Nat) (s : State) : State :=
  let q := ringTime p f s / 8
  let s := setRstate rInteg s
  let s := ((s.setFld F.NCE_TSTAT_GUIDON (frSrc f)).setFld F.NCE_TSTAT_GVAL 1).setFld F.NCE_TSTAT_ISG 0
  let s := setNce (fun n => { n with
    ntime := n.ntime + BitVec.ofNat 72 q - BitVec.ofNat 72 (start / 8)
    meas := 0, cur := nceCycleReset, prev := nceCycleReset, intFull := false }) s
  let s := pendSrc 202 (alignCycle s)
  takeOffset p f (8 * q) s

/-- A sync frame at a coldstarting node (R439). -/
def syncCold (p : Fin 2) (f : RFrame) (start : Nat) (s : State) : State :=
  let own := ownNode s
  if frCstart f then
    if frSrc f = own then
      if s.nce.lastSync = some (frW f 0, frW f 1) then
        if p = inPort s then setCur (fun c => { c with ownBack := true }) s else s
      else pendSrc 207 (hoistFlag 79 ((toListen s).setFld F.NCE_TSTAT_CSINH 1))
    else if frSrc f < own then coldAbort s
    else s
  else if fromGuidon f ∧ syGid f ≠ own then integrate p f start s
  else s

/-- A sync frame at a node in SYNC or PASSIVE (R434, R441). -/
def syncRunning (p : Fin 2) (f : RFrame) (start : Nat) (s : State) : State :=
  let src := frSrc f
  let s := setCur (fun c => { c with syncSrc := if c.syncSrc.contains src then c.syncSrc else src :: c.syncSrc }) s
  if s.fldB F.NCE_TSTAT_ISG then
    if fromGuidon f ∧ src < ownNode s then
      if s.nce.prev.lowG then integrate p f start s else setCur (fun c => { c with lowG := true }) s
    else s
  else if s.fldB F.NCE_TSTAT_GVAL ∧ src = s.fld F.NCE_TSTAT_GUIDON ∧ fromGuidon f then takeOffset p f start s
  else s

/-- SYNC_FRAME: a sync frame that passes its header, version and node-table checks is measured, forwarded or not (R433). -/
def syncFrame (p : Fin 2) (f : RFrame) (start : Nat) (s : State) : State :=
  let good := receives p s && headerOk f && decide (frVmaj f = 2) && admitted s (frSrc f) && frSync f
    && decide (3 ≤ f.payload.length)
  let other := decide (frSrc f ≠ ownNode s)
  let r := rstate s
  if !good then s
  else if r = rCold then syncCold p f start s
  else if r = rListen ∨ r = rVerhold then (if fromGuidon f && other then integrate p f start s else s)
  else if r = rInteg then
    if fromGuidon f && other && decide (frSrc f = s.fld F.NCE_TSTAT_GUIDON) then takeOffset p f start s else s
  else if synced s then (if other then syncRunning p f start s else s)
  else s

def execSyncFrame (p : Fin 2) (f : RFrame) (start : Nat) (s : State) : Host.Outcome State Fault Refusal :=
  .next (whenClocked (syncFrame p f start) s)

end Sys2Proof.Machine
end

