-- ==== Sys2Proof/Machine/Rtc.lean ====
section
/-! DEFINITION. The calendar clock: ticks, trim, set, adopt, alarm and cross-check; the clock and supply monitors (R495 to
R501). -/

namespace Sys2Proof.Machine

def setRtc (f : RtcHidden → RtcHidden) (s : State) : State := { s with rtc := f s.rtc }

/-- The 63-bit time in ticks: seconds [47:0] and the sub-second count. -/
def timeOf (l h : Word) : Nat := (l.toNat + getBits h 0 12 * 2 ^ 36) * 2 ^ 15 + getBits h 12 15

def State.rtcTime (s : State) : Nat := timeOf (s.reg R.RTC_TIMEL) (s.reg R.RTC_TIMEH)
def State.alarmTime (s : State) : Nat := timeOf (s.reg R.RTC_ALML) (s.reg R.RTC_ALMH)

def setTime (t : Nat) (s : State) : State :=
  let t := t % 2 ^ 63
  let sec := t / 2 ^ 15
  (s.setReg R.RTC_TIMEL (BitVec.ofNat 36 sec)).setReg R.RTC_TIMEH (BitVec.ofNat 36 (sec / 2 ^ 36 + t % 2 ^ 15 * 2 ^ 12))

/-- RTC_CAL as a signed number; -256 acts as -255. -/
def calOf (s : State) : Int := Max.max (-255) (s.fldI F.RTC_CAL_CAL)

/-- The advance of this tick, and what is left to trim (R496): 2 instead of 1 while positive counts are left, 0 while negative
ones are. -/
def trimStep (left : Int) : Nat × Int := if 0 < left then (2, left - 1) else if left < 0 then (0, left + 1) else (1, 0)

/-- The alarm of R498 at a time reached by a tick. -/
def alarmCheck (t : Nat) (s : State) : State :=
  if s.fldB F.RTC_CTRL_ALMEN && !s.rtc.dead && decide (t = s.alarmTime) then pendSrc 12 (s.setFld F.RTC_FLG_AF 1) else s

/-- RTC_TICK (R495, R496, R499). -/
def rtcTick (s : State) : State :=
  let left := if s.rtc.ticks % 2 ^ 20 = 0 then calOf s else s.rtc.calLeft
  let (n, left) := trimStep left
  let now := s.rtcTime
  let next : Nat := (now + n) % 2 ^ 63
  let set := s.rtc.setDue
  let adopt := s.rtc.adoptDue
  let s := setRtc (fun r => { r with ticks := r.ticks + 1, calLeft := left, setDue := false, adoptDue := false, tickAt := s.dlk.dtime, stopped := false }) s
  let s := s.setFld F.RTC_STAT_XOK 1
  let after : Nat :=
    if set then timeOf (s.reg R.RTC_SETL) (s.reg R.RTC_SETH)
    else if adopt then ((Int.ofNat next - (s.reg R.RTC_XDIFF).toInt) % 2 ^ 63).toNat
    else next
  let s := if set || adopt then s.setFld F.RTC_STAT_VALID 1 else s
  let s := alarmCheck (if set then next else after) (setTime after s)
  if set || decide (next / 2 ^ 15 = now / 2 ^ 15) then s else pendSrc 13 s

def execRtcTick (s : State) : Host.Outcome State Fault Refusal := .next (rtcTick s)

/-- A write of RTC_CMD (R496, R499): SET or ADOPT acts at the next tick. -/
def rtcCmd (v : Word) (s : State) : State :=
  let s := if bit v 0 then setRtc (fun r => { r with setDue := true }) s else s
  if bit v 1 then setRtc (fun r => { r with adoptDue := true }) s else s

/-- RTC_XREF_WRITE (R499): the difference of the own snapshot from the agreed value, and its check. -/
def xrefWrite (v : Word) (s : State) : State :=
  let d := s.reg R.RTC_SNAPC - v
  let s := (s.setReg R.RTC_XREF v).setReg R.RTC_XDIFF d
  if (s.fld F.RTC_XTOL_TOL : Int) < (d.toInt.natAbs : Int) then pendSrc 14 ((hoistFlag 116 s).incFld F.RTC_XCNT_CNT) else s

/-- After a write of the alarm registers or of ALMEN (R498): an enabled alarm at or before the time is in the past. -/
def alarmWritten (s : State) : State :=
  let past := s.fldB F.RTC_CTRL_ALMEN && decide (s.alarmTime ≤ s.rtcTime)
  let s := setRtc (fun r => { r with dead := past }) s
  if past then s.setFld F.RTC_FLG_APAST 1 else s

/-- The compact time that the frame start captures (R499). -/
def rtcSnapshot (s : State) : State :=
  let t := s.rtcTime
  s.setReg R.RTC_SNAPC (BitVec.ofNat 36 (t / 2 ^ 15 % 2 ^ 21 * 2 ^ 15 + t % 2 ^ 15))

/-- RTC_CRYSTAL_STOP (R497), seen while PCLK runs: no tick for 100 µs. -/
def rtcCrystalStop (s : State) : State :=
  if clocked s && !s.rtc.stopped && elapsed s s.rtc.tickAt 100000 then
    pendSrc 14 (hoistFlag 113 (((setRtc (fun r => { r with stopped := true }) s).setFld F.RTC_FLG_XSTOP 1).setFld F.RTC_STAT_XOK 0))
  else s

def execRtcCrystalStop (s : State) : Host.Outcome State Fault Refusal := .next (rtcCrystalStop s)

/-- RTC_POWER_UP (R495, R504): the domain comes up with time 0, not valid, its registers at their Reset values. -/
def rtcPowerUp (s : State) : State :=
  { s with
    regs := s.regs.filter fun c => !decide (c.1 / 0x1000 = 0x806)
    rtc := { ticks := 0, calLeft := 0, setDue := false, adoptDue := false, tickAt := s.dlk.dtime, stopped := false, dead := false } }

def execRtcPowerUp (s : State) : Host.Outcome State Fault Refusal := .next (rtcPowerUp s)

/-- A window of 2 µs with its deviation, I8 in 0.1 % (R500): beyond 2 % it is the clock fault of R35; beyond the threshold of
WTHR, 0.25 % × (code + 1), for 10 µs it is a warning. -/
def clockWindow (dev : BitVec 8) (s : State) : State :=
  if clocked s then
    let d := dev.toInt.natAbs
    if 20 < d then clockFault s
    else
      let beyond := decide (5 * (s.fld F.CLK_CTRL_WTHR + 1) < 2 * d)
      let n := if beyond then s.pwr.clkOver + 1 else 0
      let s := { (s.setFld F.CLK_STAT_DEV dev.toNat).setFldB F.CLK_STAT_WARN beyond with pwr := { s.pwr with clkOver := n } }
      if n = 5 then pendSrc 11 (hoistFlag 113 (s.incFld F.CLK_WCNT_CNT)) else s
  else s

/-- CLOCK_WARNING: the results of successive windows. -/
def clockWarning (windows : List (BitVec 8)) (s : State) : State := windows.foldl (fun s d => clockWindow d s) s

def execClockWarning (windows : List (BitVec 8)) (s : State) : Host.Outcome State Fault Refusal :=
  .next (clockWarning windows s)

/-- SUPPLY_MONITOR (R501): monitor i (VIO, VAN, VBK) finds its supply low for 10 µs, or no longer; each 0-to-1 transition
hoists SUPF. -/
def supplyMonitor (i : Fin 3) (low : Bool) (s : State) : State :=
  if s.pwr.pstate = .off then s
  else
    let was := maskHas (s.reg R.PWR_SUP).toNat i.val
    let s := s.setReg R.PWR_SUP (putBits (s.reg R.PWR_SUP) i.val 1 (b2n low))
    if low && !was then pendSrc 15 (hoistFlag 114 s) else s

def execSupplyMonitor (i : Fin 3) (low : Bool) (s : State) : Host.Outcome State Fault Refusal :=
  .next (supplyMonitor i low s)

end Sys2Proof.Machine
end

