-- ==== Sys2Proof/Machine/SdpCtrl.lean ====
section
/-! DEFINITION. The signal datapath's block: start, halt, clear (R327, R337, R345). -/

namespace Sys2Proof.Machine

def setSdp (f : SdpHidden → SdpHidden) (s : State) : State := { s with sdp := f s.sdp }
def sdpState (s : State) : Nat := s.fld F.SDP_STAT_STATE
def sdpStopped : Nat := 0
def sdpRunning : Nat := 1
def sdpWaiting : Nat := 2
def sdpHalted : Nat := 3

/-- The active bank. -/
def sdpBankNo (s : State) : Fin 2 := Fin.ofNat 2 (s.fld F.SDP_STAT_BANK)
def sdpBank (s : State) : SdpBank := s.sdp.bank[sdpBankNo s]
def setSdpBank (f : SdpBank → SdpBank) (s : State) : State :=
  setSdp (fun h => { h with bank := h.bank.set (sdpBankNo s).val (f h.bank[sdpBankNo s]) }) s

/-- LVL shows the active bank's loop levels. -/
def showLevels (s : State) : State := s.setFld F.SDP_STAT_LVL (sdpBank s).loops.length

/-- The result of a MAC operation on its accumulator's value (R340). -/
def macResult (o : MacOp) (a : BitVec 80) : BitVec 80 :=
  match o.kind with
  | .mpy => o.prod
  | .mac => a + o.prod
  | .msu => a - o.prod

/-- Operations accumulate, except into accumulators that the same issue wrote. -/
def accumulate (ops : List MacOp) (b : SdpBank) : SdpBank :=
  ops.foldl (fun b o => { b with a := b.a.set o.acc (macResult o b.a[o.acc]) }) b

/-- A bank's pipeline drains. -/
def drainMac (b : SdpBank) : SdpBank := { accumulate b.pipe1 (accumulate b.pipe2 b) with pipe1 := [], pipe2 := [] }

/-- The SDP's writes that wait in the MRAM queue get their responses. -/
def drainSdp : Nat → State → State
  | 0, s => s
  | n + 1, s => if queuedOf 6 s = 0 then s else drainSdp n (mramWriteComplete s)

/-- A halt with a cause at a program address (R337): the outstanding transactions complete first. DESIGN CHOICE: an error response
among them is recorded in HRESP, the last one where there are several, and leaves the cause of the halt as it is (R336). -/
def sdpHalt (cause : Nat) (pc : BitVec 11) (resp : Nat) (s : State) : State :=
  let s := drainSdp 16 s
  let resp := match s.sdp.stErr.getLast? with | some e => e.code | none => resp
  let s := setSdp (fun h => { h with bank := h.bank.map drainMac, stErr := [] }) s
  let s := ((s.setFld F.SDP_STAT_STATE sdpHalted).setFld F.SDP_STAT_HCAUSE cause).setFld F.SDP_STAT_HPC pc.toNat
  pendSrc 229 (s.setFld F.SDP_STAT_HRESP resp)

/-- RUN is set from the stopped or halted state, in which no transaction is outstanding (R337). -/
def sdpStart (s : State) : State :=
  let entry := BitVec.ofNat 11 (s.fld F.SDP_ENTRY_ADDR)
  let s := setSdp (fun h => { h with bank := (h.bank.map fun b => { b with loops := [] }) }) s
  let s := ((s.setFld F.SDP_STAT_BANK 0).setFld F.SDP_STAT_INFI 0).setFld F.SDP_STAT_STATE sdpRunning
  showLevels (setSdpBank (fun b => { b with pc := entry }) s)

/-- A write of SDP_CTRL by a transaction of class cls: CLS keeps its value for 11b and for a value above the class (R68). -/
def sdpCtrlWrite (cls : Nat) (v : Word) (s : State) : State :=
  let c := getBits v 2 2
  let s := if c = 3 ∨ cls < c then s else s.setFld F.SDP_CTRL_CLS c
  let s := (s.setFldB F.SDP_CTRL_RUN (bit v 0)).setFldB F.SDP_CTRL_FIEN (bit v 1)
  let live := decide (sdpState s = sdpRunning) || decide (sdpState s = sdpWaiting)
  if bit v 0 then (if live then s else sdpStart s)
  else if live then sdpHalt 8 (sdpBank s).pc 0 s else s

/-- SDP_CMD.CLR. -/
def sdpCmd (v : Word) (s : State) : State :=
  if bit v 0 ∧ (sdpState s = sdpStopped ∨ sdpState s = sdpHalted) then
    showLevels (setSdp (fun h => { h with bank := Vector.replicate 2 sdpBankReset }) s)
  else s

/-- SDP_TIMER: PER cycles of the enabled timer have passed. -/
def sdpTimer (s : State) : State :=
  if s.fldB F.SDP_TMR_EN ∧ s.fldB F.SDP_TMR_PER then pendSrc 228 s else s

def execSdpTimer (s : State) : Host.Outcome State Fault Refusal := .next (whenClocked sdpTimer s)

end Sys2Proof.Machine
end

