-- ==== Sys2Proof/Machine/Sent.lean ====
section
/-! DEFINITION. SENT receivers and sensor supplies (R363 to R369, R372). -/

namespace Sys2Proof.Machine

def setSent (r : Fin 4) (f : SentHidden → SentHidden) (s : State) : State :=
  { s with sent := s.sent.set r.val (f s.sent[r]) }

/-! Check codes (R363) -/

/-- A CRC register of w bits, poly without its top bit, advanced over one bit of 0. -/
def crcShift (w poly c : Nat) : Nat := if 2 ^ (w - 1) ≤ c % 2 ^ w then (2 * c % 2 ^ w) ^^^ poly else 2 * c % 2 ^ w

def crcShifts (w poly : Nat) : Nat → Nat → Nat
  | 0, c => c
  | k + 1, c => crcShifts w poly k (crcShift w poly c)

/-- CRC-4, x^4 + x^3 + x^2 + 1, seed 0101b, over nibbles; the recommended form appends one 0 nibble. -/
def sentCrc4 (recommended : Bool) (nibs : List Nat) : Nat :=
  (nibs ++ if recommended then [0] else []).foldl (fun c x => crcShifts 4 0xD 4 c ^^^ x) 5

/-- CRC-6, x^6 + x^4 + x^3 + 1, seed 010101b, over 24 bits in groups of six, with six zeros appended. -/
def sentCrc6 (x : Nat) : Nat :=
  [x / 2 ^ 18 % 64, x / 2 ^ 12 % 64, x / 2 ^ 6 % 64, x % 64, 0].foldl (fun c g => crcShifts 6 0x19 6 c ^^^ g) 0x15

/-! Frames (R364, R365) -/

/-- A failure discards the frame (R364, R372): its code, the counts, SENTE, source 160 + n, searching again. -/
def sentFail (r : Fin 4) (code : Nat) (s : State) : State :=
  let s := s.setFld (F.SENT_STAT_ERRC r.val) code
  let s := if code ≤ 2 then s.incFld (F.SENT_ERR_CAL r.val) else if code = 5 then s.incFld (F.SENT_ERR_CRC r.val)
    else s.incFld (F.SENT_ERR_NIBL r.val)
  let s := pendSrc (160 + r.val) (hoistFlag 74 (s.setFld (F.SENT_STAT_SYNC r.val) 0))
  setSent r (fun h => { h with phase := .search, nibs := [], ser := [] }) s

/-- Nominal tick in ns. -/
def tickNs (r : Fin 4) (s : State) : Nat := 100 * s.fld (F.SENT_CFG_TICK r.val)

/-- Is a pulse 56 nominal ticks within 20 %? -/
def calRange (r : Fin 4) (p : Nat) (s : State) : Bool :=
  let c := 56 * tickNs r s
  decide (8 * c ≤ 10 * p) && decide (10 * p ≤ 12 * c)

/-- Ticks of a pulse against the calibration pulse. -/
def tickCount (p tc : Nat) : Nat := (112 * p + tc) / (2 * tc)

/-- A calibration pulse that ended at LTIME `t` begins a frame. -/
def beginFrame (r : Fin 4) (p : Nat) (t : DWord) (ref : Bool) (s : State) : State :=
  setSent r (fun h => { h with
    phase := .nibbles, tc := p, calStart := t - BitVec.ofNat 72 p, refFrame := ref, nibs := [] })
    (s.setFld (F.SENT_STAT_SYNC r.val) 1)

/-- The value of nibbles, the first most significant. -/
def nibsVal (l : List Nat) : Nat := l.foldl (fun a x => 16 * a + x) 0

/-! Serial messages (R366) -/

def bitsVal (l : List Bool) : Nat := l.foldl (fun a b => 2 * a + b2n b) 0

/-- A valid serial message. -/
def serialValid (r : Fin 4) (v : Nat) (s : State) : State :=
  pendSrc (156 + r.val) ((s.setReg (R.SENT_SM r.val) (BitVec.ofNat 36 v)).setFld (F.SENT_STAT_SMV r.val) 1)

def serialBad (r : Fin 4) (s : State) : State := pendSrc (160 + r.val) (s.incFld (F.SENT_ERR_SER r.val))

/-- The short message: 16 frames, bit 3 set in the first only; 4-bit ID, 8-bit data, CRC-4 from bit 2. -/
def shortSerial (r : Fin 4) (b : Bool × Bool) (s : State) : State :=
  let l := if b.1 then [b] else if s.sent[r].ser.isEmpty then [] else s.sent[r].ser ++ [b]
  if l.length = 16 then
    let v := bitsVal (l.map (·.2))
    let s := setSent r (fun h => { h with ser := [] }) s
    if sentCrc4 (s.fldB (F.SENT_CFG_CRCV r.val)) [v / 4096, v / 256 % 16, v / 16 % 16] = v % 16 then
      serialValid r (v / 16 % 256 + v / 4096 * 2 ^ 16) s
    else serialBad r s
  else setSent r (fun h => { h with ser := l }) s

/-- The pattern of bit 3 in an enhanced message: frames 1 to 6 are 1; 7, 13 and 18 are 0. -/
def enhancedPattern (l : List (Bool × Bool)) : Bool :=
  decide (l.length = 18) && (List.range 18).all fun i =>
    let b := (l.getD i (false, false)).1
    if i < 6 then b else if i = 6 ∨ i = 12 ∨ i = 17 then !b else true

/-- The enhanced message: 18 frames, the CRC-6 in bit 2 of frames 1 to 6, the 12 low data bits in bit 2 of frames 7 to 18,
configuration, ID and further data in bit 3. -/
def enhancedSerial (r : Fin 4) (b : Bool × Bool) (s : State) : State :=
  let l := (s.sent[r].ser ++ [b]).reverse.take 18 |>.reverse
  if enhancedPattern l then
    let s := setSent r (fun h => { h with ser := [] }) s
    let crc := bitsVal ((l.take 6).map (·.2))
    let rest := l.drop 6
    let x := rest.foldl (fun a p => 4 * a + 2 * b2n p.2 + b2n p.1) 0
    let d12 := bitsVal (rest.map (·.2))
    let cfg := (rest.getD 1 (false, false)).1
    let hi := bitsVal (((rest.drop 2).take 4).map (·.1))
    let lo := bitsVal (((rest.drop 7).take 4).map (·.1))
    if sentCrc6 x = crc then
      let data := if cfg then d12 + lo * 2 ^ 12 else d12
      let id := if cfg then hi else hi * 16 + lo
      serialValid r (data + id * 2 ^ 16 + 2 ^ 24 + b2n cfg * 2 ^ 25) s
    else serialBad r s
  else setSent r (fun h => { h with ser := l }) s

/-- The status nibble of a valid frame enters the serial channel. -/
def serialFrame (r : Fin 4) (status : Nat) (s : State) : State :=
  let b := (maskHas status 3, maskHas status 2)
  match s.fld (F.SENT_CFG_SER r.val) with
  | 1 => shortSerial r b s
  | 2 => enhancedSerial r b s
  | _ => s

/-- A frame that passed all checks is delivered (R365); a fast-channel value that moved restarts the locked-rotor timer (R287).
-/
def deliverFrame (r : Fin 4) (status : Nat) (data : List Nat) (s : State) : State :=
  let h := s.sent[r]
  let split := s.fldB (F.SENT_CFG_SPLIT r.val)
  let v := if split then nibsVal (data.take 3) else nibsVal data
  let v2 := if split then nibsVal ((data.drop 3).reverse) else 0
  let moved := !s.fldB (F.SENT_STAT_FCV r.val) || decide ((s.reg (R.SENT_FC r.val)).toNat % 2 ^ 24 ≠ v)
  let s := setSent r (fun h => { h with tsAt := h.calStart }) s
  let s := s.setReg (R.SENT_FC r.val) (BitVec.ofNat 36 (v + status * 2 ^ 24))
  let s := (s.setReg (R.SENT_FC2 r.val) (BitVec.ofNat 36 v2)).setReg (R.SENT_TS r.val) (h.calStart.truncate 36)
  let s := (s.setFld (F.SENT_TICK_TICK r.val) (h.tc * 16 / 56)).setFld (F.SENT_STAT_FCV r.val) 1
  let s := serialFrame r status (pendSrc (152 + r.val) s)
  comAngles (if moved then positionMoved 2 r.val s else s)

/-- The CRC nibble has been received: the frame is checked and delivered, but for the first after a search. -/
def endFrame (r : Fin 4) (nibs : List Nat) (s : State) : State :=
  let data := (nibs.drop 1).take (nibs.length - 2)
  if sentCrc4 (s.fldB (F.SENT_CFG_CRCV r.val)) data = nibs.getLastD 0 then
    let s := if s.sent[r].refFrame then s else deliverFrame r (nibs.headD 0) data s
    setSent r (fun h => { h with
      nibs := [], phase := if s.fld (F.SENT_CFG_PAUSE r.val) = 1 then .pause else .calib }) s
  else sentFail r 5 s

/-- A pulse of p ns within a frame. -/
def nibblePulse (r : Fin 4) (p : Nat) (s : State) : State :=
  let k := tickCount p s.sent[r].tc
  if 12 ≤ k ∧ k ≤ 27 then
    let nibs := s.sent[r].nibs ++ [k - 12]
    if nibs.length = s.fld (F.SENT_CFG_NIB r.val) + 2 then endFrame r nibs s
    else setSent r (fun h => { h with nibs := nibs }) s
  else sentFail r (if calRange r p s then 4 else 3) s

/-- A pulse where a calibration pulse is due: its range, then the comparison with the previous one. -/
def calibPulse (r : Fin 4) (p : Nat) (t : DWord) (s : State) : State :=
  let tc := s.sent[r].tc
  let k := tickCount p tc
  if !calRange r p s then sentFail r (if 12 ≤ k ∧ k ≤ 27 then 4 else 1) s
  else if tc < 64 * ((p : Int) - tc).natAbs then sentFail r 2 s
  else beginFrame r p t false s

/-- SENT_PULSE: an accepted falling edge ends a pulse of p ns. -/
def sentPulse (r : Fin 4) (p : Nat) (s : State) : State :=
  if !s.fldB (F.SENT_CFG_EN r.val) then s
  else
    let s := if s.fld (F.SENT_STAT_LINE r.val) = 1 then s.setFld (F.SENT_STAT_LINE r.val) 0 else s
    let s := setSent r (fun h => { h with edgeAt := s.dlk.dtime }) s
    let t := s.ltime - BitVec.ofNat 72 (100 * s.fld (F.SENT_CFG_SFT r.val))
    match s.sent[r].phase with
    | .search => if calRange r p s then beginFrame r p t true s else s
    | .nibbles => nibblePulse r p s
    | .pause =>
      let k := tickCount p s.sent[r].tc
      if 12 ≤ k ∧ k ≤ 768 then setSent r (fun h => { h with phase := .calib }) s else sentFail r 6 s
    | .calib => calibPulse r p t s

def execSentPulse (r : Fin 4) (p : Nat) (s : State) : Host.Outcome State Fault Refusal := .next (whenClocked (sentPulse r p) s)

/-- Has the line of receiver r been without an accepted falling edge for 1,000 nominal ticks, or low for 100 (R367)? An edge is
accepted SFT after the line went low. -/
def lineFaultDue (r : Fin 4) (low : Bool) (s : State) : Bool :=
  passed s s.sent[r].edgeAt (if low then 100 * tickNs r s - 100 * s.fld (F.SENT_CFG_SFT r.val) else 1000 * tickNs r s)

/-- SENT_LINE_FAULT: no falling edge for 1,000 nominal ticks, or low for 100 (R367); nothing before that time, and nothing where
LINE already says it. -/
def sentLineFault (r : Fin 4) (low : Bool) (s : State) : State :=
  let code := if low then 2 else 1
  if s.fldB (F.SENT_CFG_EN r.val) && lineFaultDue r low s && decide (s.fld (F.SENT_STAT_LINE r.val) ≠ code) then
    sentFail r 7 (s.setFld (F.SENT_STAT_LINE r.val) code)
  else s

def execSentLineFault (r : Fin 4) (low : Bool) (s : State) : Host.Outcome State Fault Refusal := .next (whenClocked (sentLineFault r low) s)

/-- SENT_LINE_HIGH: a line reported stuck low goes high (R367). -/
def sentLineHigh (r : Fin 4) (s : State) : State :=
  if s.fld (F.SENT_STAT_LINE r.val) = 2 then s.setFld (F.SENT_STAT_LINE r.val) 0 else s

def execSentLineHigh (r : Fin 4) (s : State) : Host.Outcome State Fault Refusal := .next (whenClocked (sentLineHigh r) s)

/-- May EN be set with the configuration held (R372)? -/
def sentConfigOk (r : Fin 4) (s : State) : Bool :=
  let t := s.fld (F.SENT_CFG_TICK r.val)
  let nib := s.fld (F.SENT_CFG_NIB r.val)
  decide (30 ≤ t) && decide (t ≤ 900) && decide (3 ≤ nib) && decide (nib ≤ 6)
    && decide (s.fld (F.SENT_CFG_PAUSE r.val) ≤ 1) && decide (s.fld (F.SENT_CFG_SER r.val) ≠ 3)
    && (!s.fldB (F.SENT_CFG_SPLIT r.val) || decide (nib = 6))

/-- A write of SENT_CFGn (R372): fields other than EN only while EN is 0. -/
def sentCfgWrite (r : Fin 4) (v : Word) (s : State) : State :=
  let was := s.fldB (F.SENT_CFG_EN r.val)
  let s := if was then s else s.setReg (R.SENT_CFG r.val) (v &&& 0x1FFFFFE)
  if bit v 0 then
    if was then s
    else if sentConfigOk r s then
      let s := ((s.setFld (F.SENT_CFG_EN r.val) 1).setFld (F.SENT_STAT_CFGERR r.val) 0).setFld (F.SENT_STAT_FCV r.val) 0
      setSent r (fun h => { sentReset with edgeAt := s.dlk.dtime, supAt := h.supAt }) (s.setFld (F.SENT_STAT_SMV r.val) 0)
    else s.setFld (F.SENT_STAT_CFGERR r.val) 1
  else setSent r (fun h => { sentReset with supAt := h.supAt }) ((s.setFld (F.SENT_CFG_EN r.val) 0).setFld (F.SENT_STAT_SYNC r.val) 0)

/-- The snapshot of R23 and R368: the age grows unchecked (R367), up to F_FFFFh. -/
def sentSnapshot (r : Nat) (s : State) : State :=
  if s.fldB (F.SENT_STAT_FCV r) then
    let age := Nat.min ((s.ltime.toNat - s.sent[Fin.ofNat 4 r].tsAt.toNat) / 1000) 0xFFFFF
    (s.setReg (R.SENT_SFC r) (s.reg (R.SENT_FC r))).setReg (R.SENT_SAGE r) (BitVec.ofNat 36 (age + 2 ^ 20))
  else s.setReg (R.SENT_SAGE r) 0xFFFFF

/-! Sensor supplies (R369) -/

def supFld (i : Fin 4) : Fld := ⟨R.SENT_SUPSTAT, 3 * i.val, 3⟩
def supCnt (i : Fin 4) : Fld := ⟨R.SENT_SUPCNT, 8 * i.val, 8⟩

/-- A write of SENT_SUPCTRL: a supply goes on or off with its EN bit. -/
def supctrlWrite (v : Word) (s : State) : State :=
  let s := s.setReg R.SENT_SUPCTRL (v &&& 0xFF)
  [(0 : Fin 4), 1, 2, 3].foldl (fun s i =>
    if bit v i.val then (if s.fld (supFld i) = 0 then s.setFld (supFld i) 1 else s) else s.setFld (supFld i) 0) s

/-- SENSOR_SUPPLY_FAULT of supply i: code 2 overcurrent, 3 undervoltage, 4 back-feed; an undervoltage may also end. -/
def sensorSupplyFault (i : Fin 4) (kind : Fin 3) (present : Bool) (s : State) : State :=
  let st := s.fld (supFld i)
  let code := kind.val + 2
  if !present then (if st = 3 ∧ code = 3 then s.setFld (supFld i) 1 else s)
  else if st = 0 ∨ st = 5 ∨ st = code ∨ (code = 3 ∧ st ≠ 1) then s
  else
    let auto := maskHas (s.fld F.SENT_SUPCTRL_AUTOR) i.val
    let s := s.setFld (supFld i) (if code ≠ 3 ∧ !auto then 5 else code)
    pendSrc 164 (hoistFlag 75 ((setSent i (fun h => { h with supAt := s.dlk.dtime }) s).incFld (supCnt i)))

def execSensorSupplyFault (i : Fin 4) (kind : Fin 3) (present : Bool) (s : State) : Host.Outcome State Fault Refusal :=
  .next (whenClocked (sensorSupplyFault i kind present) s)

/-- SENSOR_SUPPLY_RETRY: with AUTOR, the supply is on again 10 ms after the fault, or its switch closed again once 100 us below
5.30 V. -/
def sensorSupplyRetry (i : Fin 4) (s : State) : State :=
  let st := s.fld (supFld i)
  if ((st = 2 ∧ passed s s.sent[i].supAt 10000000) ∨ (st = 4 ∧ passed s s.sent[i].supAt 100000)) ∧ maskHas (s.fld F.SENT_SUPCTRL_AUTOR) i.val then s.setFld (supFld i) 1 else s

def execSensorSupplyRetry (i : Fin 4) (s : State) : Host.Outcome State Fault Refusal := .next (whenClocked (sensorSupplyRetry i) s)

end Sys2Proof.Machine
end

