-- ==== Sys2Proof/Machine/XlaInput.lean ====
section
/-! DEFINITION. Input agreement: the rounds of the input exchange, selection and the agreed vector (R133 to R138). -/

namespace Sys2Proof.Machine

/-- Does this lane contribute to the exchanges as a member (R120, R126)? -/
def contributes (s : State) : Bool := xlaRuns s && decide (s.lstate = lsVoting) && s.isMember

/-- Send one message on both links. -/
def sendBoth (m : XMsg) (s : State) : State :=
  { s with xla := { s.xla with sent := (farLanes s).map fun x => (x, m) } }

/-- INPUT_ROUND_1: a member sends the signed INPUT on both links; a set that is not assembled is XASM in every lane (R126,
R133). -/
def inputRound1 (s : State) : State :=
  let s := setPhase 3 { s with xla := { s.xla with sent := [] } }
  match s.xla.ownSet with
  | some vs =>
    if contributes s then
      let m := ownMsg s s.lt36 mtInput s.frame (s.fld F.XLA_MEMB_CUR) { jlane := resyncLane s } vs
      sendBoth m { s with xla := { s.xla with viewI := s.xla.viewI.set s.lane.val [m] } }
    else s
  | none => hoistFlag 6 s

/-- The relays of round 2: on each link, the message admitted from the third lane, or an empty relay (R126). -/
def sendRelays (adm : XlaPeer → Option XMsg) (s : State) : State :=
  { s with xla := { s.xla with sent := (farLanes s).map fun y =>
      (y, (adm s.xla.peer[thirdLane s y]).getD []) } }

/-- INPUT_ROUND_2. -/
def inputRound2 (s : State) : State :=
  if stepDue 2 (tI2 s) s then takeStep 2 (sendRelays (·.admI) (if s.xla.selected then s else setPhase 4 s)) else s

def execInputRound2 (s : State) : Host.Outcome State Fault Refusal := .next (whenClocked inputRound2 s)

/-- Enter a valid INPUT message, direct or relayed, into the view of its originator (R122). -/
def admitInput (link : Fin 3) (relay : Bool) (m : XMsg) (s : State) : State :=
  let x : Fin 3 := if relay then thirdLane s link else link
  let before := s.xla.viewI[x]
  let after := viewAdd before m
  let s := { s with xla := { s.xla with viewI := s.xla.viewI.set x.val after } }
  let s := noteEqv x before after s
  let s :=
    if relay then s.setPeer link fun p => { p with in2 := true }
    else
      let o := offsetOf s link m
      let s := s.setPeer link fun p => { p with in1 := true, admI := some (p.admI.getD m), offI := some o }
      s.setReg (R.XLA_TOFF link.val) o
  noteOriginator x m s

/-- INPUT_MESSAGE: a message or relay of the input exchange arrives on the link from a far lane; no words is an empty relay
(R126, R127). -/
def inputMessage (link : Fin 3) (relay symOk : Bool) (m : XMsg) (s : State) : State :=
  if !xlaRuns s ∨ link = s.lane then s
  else if relay ∧ m.isEmpty ∧ symOk then s.setPeer link fun p => { p with in2 := true }
  else
    let types := if 2 ≤ s.phase ∧ s.phase ≤ 5 then [mtInput] else []
    match checkRound s link relay symOk types (if relay then tI2 s else tI1) m with
    | some e => rejectMsg e link s
    | none => admitInput link relay m s

def execInputMessage (link : Fin 3) (relay symOk : Bool) (m : XMsg) (s : State) : Host.Outcome State Fault Refusal :=
  .next (whenClocked (inputMessage link relay symOk m) s)

/-! Selection (R134 to R136) -/

/-- Is lane x a present member: exactly one element in its view (R122)? -/
def presentI (s : State) (x : Fin 3) : Bool := memberB s x && decide (s.xla.viewI[x].length = 1)

def equivI (s : State) (x : Fin 3) : Bool := decide (2 ≤ s.xla.viewI[x].length)

/-- Raw word i of lane x; 0 for an absent lane (R137). -/
def rawI (s : State) (x : Fin 3) (i : Nat) : Word :=
  if presentI s x then ((s.xla.viewI[x].head?.map xmPayload).getD []).getD i 0 else 0

/-- Does lane x's value of variable i enter selection (R134)? -/
def qualified (s : State) (x : Fin 3) (i : Nat) : Bool :=
  presentI s x &&
    (!s.fldB (F.XLA_IQUAL_QEN i) ||
      decide (b2n (bit (rawI s x (s.fld (F.XLA_IQUAL_QIDX i))) (s.fld (F.XLA_IQUAL_QBIT i)))
        = s.fld (F.XLA_IQUAL_QPOL i)))

/-- The contributing lanes and values, in rank order. -/
def contributions (s : State) (i : Nat) : List (Fin 3 × Word) :=
  ([(0 : Fin 3), 1, 2].filter fun x => qualified s x i).map fun x => (x, rawI s x i)

/-- The exact value of a word in a rule's own signedness (R136). -/
def ruleVal (unsigned : Bool) (w : Word) : Int := if unsigned then w.toNat else w.toInt

def med3 (a b c : Int) : Int := max (min a b) (min (max a b) c)

/-- What selection gives for one variable: value, HOLD, DEV, the lanes counted in XLA_DEVx. -/
structure Selected where
  value : Word
  hold : Bool
  dev : Bool
  lanes : List (Fin 3)
deriving DecidableEq, Repr

/-- MID and MIDU (R135, R136). -/
def selMid (unsigned : Bool) (par prev : Word) (l : List (Fin 3 × Word)) : Selected :=
  let v := ruleVal unsigned
  match l with
  | [a, b, c] =>
    let m := med3 (v a.2) (v b.2) (v c.2)
    let far := if par = 0 then [] else [a, b, c].filter fun x => decide (par.toNat < (v x.2 - m).natAbs)
    ⟨wrap36 m, false, !far.isEmpty, far.map (·.1)⟩
  | [a, b] =>
    ⟨wrap36 ((v a.2 + v b.2 + 1) / 2), false,
      decide (par ≠ 0) && decide (par.toNat < (v a.2 - v b.2).natAbs), []⟩
  | [a] => ⟨a.2, false, false, []⟩
  | _ => ⟨prev, true, false, []⟩

/-- The bitwise rules: majority or AND of three, AND or OR of two, a constant for none (R135). -/
def selBits (three : Word → Word → Word → Word) (two : Word → Word → Word) (zero : Word)
    (l : List (Fin 3 × Word)) : Selected :=
  match l with
  | [a, b, c] => ⟨three a.2 b.2 c.2, false, false, []⟩
  | [a, b] => ⟨two a.2 b.2, false, false, []⟩
  | [a] => ⟨a.2, false, false, []⟩
  | _ => ⟨zero, true, false, []⟩

/-- EXACT (R135). -/
def selExact (par : Word) (l : List (Fin 3 × Word)) : Selected :=
  match l with
  | [a, b, c] =>
    if a.2 = b.2 ∨ a.2 = c.2 then ⟨a.2, false, false, []⟩
    else if b.2 = c.2 then ⟨b.2, false, false, []⟩
    else ⟨par, false, true, []⟩
  | [a, b] => if a.2 = b.2 then ⟨a.2, false, false, []⟩ else ⟨par, false, true, []⟩
  | [a] => ⟨a.2, false, false, []⟩
  | _ => ⟨par, true, false, []⟩

/-- Selection by rule (R135). EN is refused for RULE 6 and 7 (R131); they select as EXACT here. -/
def selectBy (rule : Nat) (par prev : Word) (l : List (Fin 3 × Word)) : Selected :=
  match rule with
  | 0 => selMid false par prev l
  | 1 => selMid true par prev l
  | 2 => selBits maj3 (· &&& ·) 0 l
  | 3 => selBits maj3 (· ||| ·) (-1) l
  | 4 => selBits (fun a b c => a &&& b &&& c) (· &&& ·) 0 l
  | _ => selExact par l

/-- The agreed value of variable i in the preceding frame, PAR in the first after formation (R135). -/
def prevOf (s : State) (i : Nat) : Word := s.xla.prevAgreed.getD i (s.fld (F.XLA_IPAR_PAR i) : Nat)

def selectVar (s : State) (i : Nat) : Selected :=
  selectBy (s.fld (F.XLA_IDSC_RULE i)) (s.reg (R.XLA_IPAR i)) (prevOf s i) (contributions s i)

def presMask (s : State) : Nat :=
  ([(0 : Fin 3), 1, 2].filter (presentI s)).foldl (fun m x => m + 2 ^ x.val) 0

def eqvMask (s : State) : Nat :=
  ([(0 : Fin 3), 1, 2].filter fun x => memberB s x && equivI s x).foldl (fun m x => m + 2 ^ x.val) 0

/-- The words of the agreed vector area (R137). -/
def agreedWords (s : State) (sel : List Selected) : List Word :=
  let nin := xNin s
  let cur := s.fld F.XLA_MEMB_CUR
  let joinf := b2n (decide ((cur &&& (7 ^^^ s.xla.prevMemb)) ≠ 0))
  let pres := presMask s
  let w1 := cur + pres * 2 ^ 3 + eqvMask s * 2 ^ 6 + joinf * 2 ^ 9 + b2n (decide (pres ≠ 0)) * 2 ^ 10
  let mask := fun (f : Selected → Bool) => (sel.zipIdx.foldl (fun m p => if f p.1 then m + 2 ^ p.2 else m) 0)
  let pad := fun (l : List Word) => l ++ List.replicate (24 - l.length) 0
  let raws := fun (x : Fin 3) => pad ((List.range nin).map fun i => rawI s x i)
  [s.frame, BitVec.ofNat 36 w1, BitVec.ofNat 36 (mask (·.hold)), BitVec.ofNat 36 (mask (·.dev))]
    ++ pad (sel.map (·.value)) ++ raws 0 ++ raws 1 ++ raws 2

/-- Links on which no valid message of a round came count MISS against a member far lane (R127). -/
def countMiss (r1 r2 : XlaPeer → Bool) (s : State) : State :=
  (farLanes s).foldl (fun s x =>
    if memberB s x then
      let s := if r1 s.xla.peer[x] then s else countErr .miss x s
      if r2 s.xla.peer[x] then s else countErr .miss x s
    else s) s

/-- Form and write the agreed vector from the views as they stand (R135 to R138). -/
def formAgreed (s : State) : State :=
  let s := countMiss (·.in1) (·.in2) s
  let sel := (List.range (xNin s)).map (selectVar s)
  let ws := agreedWords s sel
  let pres := presMask s
  let eqv := eqvMask s
  let s := sel.foldl (fun s v => v.lanes.foldl (fun s x => s.incFld (F.XLA_DEV_DEV x.val)) s) s
  let s := sramWords xlaReq (s.fld F.XLA_AGBASE_AGBASE) ws s
  let s := (s.setFld F.XLA_MEMB_PRES pres).setFld F.XLA_MEMB_EQV eqv
  { s with xla := { s.xla with
      selected := true, prevAgreed := sel.map (·.value)
      relWait := some { frame := s.frame, compl := decide (pres ≠ 0) } } }

/-- Is every expected message and relay in (R138)? From a member its INPUT and its relay; from another lane that takes part in
the exchanges its relay (R126); a lane that is the only member waits for none. -/
def allIn (s : State) : Bool :=
  decide (s.fld F.XLA_MEMB_CUR = s.laneBit) || (farLanes s).all fun x =>
    let p := s.xla.peer[x]
    if memberB s x then p.in1 && p.in2 else !p.heard || p.in2

/-- INPUT_SELECTION: every expected message and relay is in (R138). -/
def inputSelection (s : State) : State :=
  if xlaRuns s ∧ 1 ≤ s.xla.xstep ∧ s.xla.xstep < 3 ∧ !s.xla.selected ∧ allIn s then setPhase 5 (formAgreed s) else s

def execInputSelection (s : State) : Host.Outcome State Fault Refusal := .next (whenClocked inputSelection s)

/-- INPUT_CLOSE: at c_i selection runs with what has arrived; the mid window follows (R132, R138). -/
def inputClose (s : State) : State :=
  if stepDue 3 (cI s) s then takeStep 3 (setPhase 6 (if s.xla.selected then s else formAgreed s)) else s

def execInputClose (s : State) : Host.Outcome State Fault Refusal := .next (whenClocked inputClose s)

end Sys2Proof.Machine
end

