-- ==== Sys2Proof/Machine/XlaVote.lean ====
section
/-! DEFINITION. Command vote, membership, time target and the member side of resynchronisation (R28, R140 to R153,
R173). -/

namespace Sys2Proof.Machine

/-! Submission (R111, R140) -/

/-- The status code of XSUB: the first of 3, 1, 2 that applies, else 0 (R111); in SYNCING and WITHDRAWN 0 (R140). -/
def xsubStatus (s : State) : Nat :=
  if s.lstate = lsOffline ∨ s.lstate = lsSelftest ∨ s.lstate = lsStruck ∨ s.lstate = lsDebug then 3
  else if s.lstate = lsSyncing ∨ s.lstate = lsWithdrawn then 0
  else if s.xla.accepted.isSome then 1
  else if s.fldB F.XLA_STAT_FORMED ∧ s.frameStart.toNat + tV1 s ≤ s.ltime.toNat then 2
  else 0

/-- Submit the declared output set: on status 0 the set is copied (R111, R140). DESIGN CHOICE: a word that answers ECC or POISON is
stated nowhere; it is copied as a free value, and the status is 0 all the same. -/
def xsub (s : State) : State × Nat :=
  let c := xsubStatus s
  if c = 0 then
    match sramCopy (xNout s) (s.fld F.XLA_OSBASE_OSBASE) s with
    | (s, l) => ({ s with xla := { s.xla with accepted := some l } }, 0)
  else (s, c)

/-! The mirror capture (R152, R153) -/

def mblks (s : State) : Nat := s.fld F.XLA_MCFG_MBLKS
def setBlocks (s : State) : List Nat := (List.range (mblks s)).filter fun b => s.xla.toSend.getLsbD b

/-- The to-send bits with those of some blocks dipped. -/
def dipBlocks (bs : List Nat) (m : BitVec 256) : BitVec 256 := bs.foldl (fun m b => m &&& ~~~(BitVec.twoPow 256 b)) m

/-- The words of blocks, as the XLA copies them. -/
def copyBlocks (base : Nat) : List Nat → State → State × List (Nat × List Word)
  | [], s => (s, [])
  | b :: r, s =>
    match sramCopy 32 (base + 32 * b) s with
    | (s, l) =>
      match copyBlocks base r s with
      | (s, c) => (s, (b, l) :: c)

/-- Capture blocks: copy their words and dip their bits. -/
def captureBlocks (bs : List Nat) (final : Bool) (s : State) : State :=
  match copyBlocks (s.fld F.XLA_MBASE_MBASE) bs s with
  | (s, c) =>
  { s with xla := { s.xla with
      capture := c
      toSend := dipBlocks bs s.xla.toSend
      captureFinal := final } }

/-- Has the device dropped to a single member that no lane may join (R172)? -/
def joinBarred (s : State) : Bool := decide (popNat 3 (s.fld F.XLA_MEMB_CUR) < 2) && !s.fldB F.XLA_CTRL_HMJ

/-- The lane serves no transfer any more. -/
def endServe (s : State) : State :=
  { s with xla := { s.xla with served := none, serving := false, capture := [], captureFinal := false } }

/-- The capture at the deadline of a member that serves a lane (R153, R156): the flags its OUTPUT carries. A transfer that the
lane may no longer join by is abandoned (R172). -/
def mirrorCapture (s : State) : State × MsgFlags :=
  let ended := s.xla.captureFinal || (match s.xla.served with | some x => memberB s x | none => false)
  let s := if ended then endServe s else s
  match s.xla.served with
  | none => (s, {})
  | some x =>
    let s :=
      if s.xla.serving then s
      else { s with xla := { s.xla with m1 := s.frame, mseq := 0, serving := true } }
    let d := (setBlocks s).length
    let s := ((s.setFld F.XLA_RSTAT_LEFT d).setFld F.XLA_RSTAT_ATTEMPT (s.xla.m1.toNat % 2 ^ 12)).setFld
      F.XLA_RSTAT_MSRC (s.fld F.XLA_MEMB_CUR)
    if joinBarred s then (setRphase 6 (endServe s), { mabort := true, jlane := x.val })
    else if d ≤ s.fld F.XLA_MCFG_KFIN then
      (setRphase 4 (captureBlocks (setBlocks s) true s), { jfin := true, jlane := x.val })
    else if s.frame = s.xla.m1 + (s.fld F.XLA_MCFG_MLIM : Nat) then
      (setRphase 6 (endServe s), { mabort := true, jlane := x.val })
    else
      (setRphase 3 (captureBlocks ((setBlocks s).take (kcap s)) false s), { jlane := x.val })

/-- Has the lane measured the delay to every far lane that is a member? -/
def delaysMeasured (s : State) : Bool := (farLanes s).all fun x => !memberB s x || s.xla.peer[x].delayOk

/-- Does the lane request resynchronisation in its STATE (R153, R200)? In SYNCING only after its step of LTIME (R30). -/
def requestsResync (s : State) : Bool :=
  (s.xla.resync || s.fldB F.XLA_CTRL_AUTOJ) && !s.fldB F.LSC_STAT_JINH
    && decide (s.lstate = lsSyncing ∨ s.lstate = lsWithdrawn) && delaysMeasured s
    && (decide (s.lstate = lsWithdrawn) || s.xla.stepped) && !s.xla.attempt && s.hal.isoLeft.isNone

/-- VOTE_ROUND_1: a member with an accepted set sends OUTPUT, every other lane STATE; members take the mirror capture
(R141, R153). -/
def voteRound1Send (s : State) : State :=
  let memb := s.fld F.XLA_MEMB_CUR
  let (s, fl) := if contributes s then mirrorCapture s else (endServe s, ({} : MsgFlags))
  match contributes s, s.xla.accepted with
  | true, some set =>
    let m := ownMsg s s.lt36 mtOutput s.frame memb fl set
    sendBoth m { s with xla := { s.xla with viewV := s.xla.viewV.set s.lane.val [m] } }
  | _, _ =>
    let rq := requestsResync s
    let s := if rq ∧ s.fld F.XLA_RSTAT_RPHASE ≠ 2 then setRphase 2 s else s
    let m := ownMsg s s.lt36 mtState s.frame memb { jreq := rq, jlane := resyncLane s } []
    sendBoth m { s with xla := { s.xla with viewV := s.xla.viewV.set s.lane.val [m] } }

/-! Received OUTPUT and STATE -/

def admitVote (link : Fin 3) (relay : Bool) (m : XMsg) (s : State) : State :=
  let x : Fin 3 := if relay then thirdLane s link else link
  let before := s.xla.viewV[x]
  let after := viewAdd before m
  let s := { s with xla := { s.xla with viewV := s.xla.viewV.set x.val after } }
  let s := noteEqv x before after s
  let s :=
    if relay then s.setPeer link fun p => { p with vt2 := true }
    else
      let o := offsetOf s link m
      let s := s.setPeer link fun p => { p with vt1 := true, admV := some (p.admV.getD m), offV := some o }
      s.setReg (R.XLA_TOFF link.val) o
  let s := if xmType m = mtState then s.setPeer x fun p => { p with jreq := p.jreq || xmJreq m } else s
  noteOriginator x m s

/-- A message or relay of the vote exchange arrives; no words is an empty relay (R126, R127, R142). -/
def voteMessage (link : Fin 3) (relay symOk : Bool) (m : XMsg) (s : State) : State :=
  if !xlaRuns s ∨ link = s.lane then s
  else if relay ∧ m.isEmpty ∧ symOk then s.setPeer link fun p => { p with vt2 := true }
  else
    let types := if 6 ≤ s.phase ∧ s.phase ≤ 8 then [mtOutput, mtState] else []
    match checkRound s link relay symOk types (if relay then tV2 s else tV1 s) m with
    | some e => rejectMsg e link s
    | none => admitVote link relay m s

def execOutputMessage (link : Fin 3) (relay symOk : Bool) (m : XMsg) (s : State) : Host.Outcome State Fault Refusal :=
  .next (whenClocked (voteMessage link relay symOk m) s)

def execStateMessage (link : Fin 3) (relay symOk : Bool) (m : XMsg) (s : State) : Host.Outcome State Fault Refusal :=
  .next (whenClocked (voteMessage link relay symOk m) s)

/-- VOTE_ROUND_2: relays of the vote round 1 messages (R126). -/
def voteRound2 (s : State) : State :=
  if stepDue 6 (tV2 s) s then takeStep 6 (sendRelays (·.admV) (setPhase 8 s)) else s

def execVoteRound2 (s : State) : Host.Outcome State Fault Refusal := .next (whenClocked voteRound2 s)

/-! The vote (R142, R143) -/

def equivV (s : State) (x : Fin 3) : Bool := memberB s x && decide (2 ≤ s.xla.viewV[x].length)

/-- The OUTPUT of a member with exactly one element in its view. -/
def outputOf (s : State) (x : Fin 3) : Option XMsg :=
  if memberB s x then
    match s.xla.viewV[x] with
    | [m] => if xmType m = mtOutput then some m else none
    | _ => none
  else none

def ranks : List (Fin 3) := [0, 1, 2]

def maskOf (f : Fin 3 → Bool) : Nat := (ranks.filter f).foldl (fun m x => m + 2 ^ x.val) 0

/-- Result of the comparison: outcome, the common payload where there is one, the odd lanes by difference. -/
structure VoteResult where
  outcome : Nat
  set : Option (List Word)
  diff : Nat
deriving DecidableEq, Repr

/-- The outcome table of R142. -/
def voteOutcome (s : State) : VoteResult :=
  let pres := ranks.filterMap fun x => (outputOf s x).map fun m => (x, xmPayload m)
  match pres with
  | [a, b, c] =>
    if a.2 = b.2 ∧ b.2 = c.2 then ⟨0, some a.2, 0⟩
    else if a.2 = b.2 then ⟨1, some a.2, 2 ^ c.1.val⟩
    else if a.2 = c.2 then ⟨1, some a.2, 2 ^ b.1.val⟩
    else if b.2 = c.2 then ⟨1, some b.2, 2 ^ a.1.val⟩
    else ⟨3, none, 0⟩
  | [a, b] =>
    if a.2 = b.2 then ⟨if ranks.any (equivV s) then 1 else 0, some a.2, 0⟩
    else ⟨3, none, 0⟩
  | [a] => ⟨2, some a.2, 0⟩
  | _ => ⟨4, none, 0⟩

/-- Address of a committed buffer (R158, XLA_OSBASE). -/
def bufAddr (s : State) (b : Nat) : Nat := s.fld F.XLA_OSBASE_OSBASE + 16 + 16 * b

/-- The committed set in the active buffer. -/
def committedSet (s : State) : List Word := s.words (bufAddr s (s.fld F.XLA_COMMIT_BUF)) (xNout s)

/-- The lane that a member's OUTPUT names with JFIN, and whether one abandons a resynchronisation (R145, R156). -/
def jfinLane (s : State) : Option (Fin 3) :=
  (ranks.find? fun x => match outputOf s x with
    | some m => xmJfin m && decide (xmJlane m < 3)
    | none => false).bind fun x => (outputOf s x).bind fun m =>
      ranks.find? fun y => decide (y.val = xmJlane m)

def mabortLane (s : State) : Option (Fin 3) :=
  (ranks.find? fun x => match outputOf s x with
    | some m => xmMabort m && decide (xmJlane m < 3)
    | none => false).bind fun x => (outputOf s x).bind fun m =>
      ranks.find? fun y => decide (y.val = xmJlane m)

/-- Does the pennant of frame n say something of member x as a member: x was one in frame n - 1, which the pennant
describes, or this is frame 0, in which it describes the present (R33, R145)? DEDUCED: a lane in the frame of its join still
shows the state from which it joined. -/
def pennantCounts (s : State) (x : Fin 3) : Bool := maskHas s.xla.prevMemb x.val || decide (s.frame = 0)

/-- Is member x's pennant one of another lane state than VOTING (R145)? The own pennant is the one this lane sends. -/
def pennantOut (s : State) (x : Fin 3) : Bool :=
  if !pennantCounts s x then false
  else if x = s.lane then decide (penLstate s.sentPennant ≠ lsVoting)
  else s.xla.peer[x].memb.isSome && decide (penLstate s.xla.peer[x].pennant ≠ lsVoting)

def absentV (s : State) (x : Fin 3) : Bool := memberB s x && !equivV s x && (outputOf s x).isNone

def absentBefore (s : State) (x : Fin 3) : Bool :=
  if x = s.lane then s.xla.ownAbsPrev else s.xla.peer[x].absPrev

/-- Removed as absent (R173): OUTPUT absent in frames n - 1 and n, or a pennant outside VOTING. -/
def removedAbsent (s : State) (x : Fin 3) : Bool :=
  memberB s x && ((absentV s x && absentBefore s x) || pennantOut s x)

/-- The members of the next frame (R145), given the odd lanes. -/
def nextMembers (s : State) (odd : Nat) : Nat :=
  let keep := maskOf fun x => memberB s x && !maskHas odd x.val && !maskHas (eqvMask s) x.val && !removedAbsent s x
  match jfinLane s with
  | some x => keep ||| 2 ^ x.val
  | none => keep

/-! Time target (R28) -/

def offsetMeasured (s : State) (x : Fin 3) : Option Int :=
  let p := s.xla.peer[x]
  if p.delayOk then (p.offV.orElse fun _ => p.offI).map (·.toInt) else none

/-- The target g at the vote close (R28). -/
def timeTarget (s : State) : Option Int :=
  let ms := (farLanes s).filterMap fun x => if memberB s x then offsetMeasured s x else none
  if s.isMember ∧ s.lstate = lsVoting then
    if s.rstate = rsHalfMast then none
    else match ms with
      | [a, b] => some (med3 0 a b)
      | [a] => some (a / 2)
      | _ => none
  else match ms with
    | [a, b] => some ((a + b) / 2)
    | [a] => some a
    | _ => none

/-- The value nearest to t whose low 36 bits are those of e. -/
def nearestTo (t e : DWord) : DWord := t + BitVec.ofInt 72 (e.truncate 36 - t.truncate 36 : Word).toInt

/-- A SYNCING lane steps its LTIME once by its first target after formation (R30); its FRAME_EPOCH and the start of the running
frame move with it, and stand in the members' numbering again (R22). -/
def stepOnce (g : Option Int) (s : State) : State :=
  match g with
  | some d =>
    if s.lstate = lsSyncing ∧ !s.xla.stepped then
      let by_ : DWord := BitVec.ofInt 72 d
      let e := nearestTo (s.xla.frameEpoch + by_) (s.xla.epoch.getD (s.xla.frameEpoch + by_))
      { s with ltime := s.ltime + by_, frameStart := e + BitVec.ofNat 72 (s.frame.toNat * xT s)
               xla := { s.xla with stepped := true, target := none, frameEpoch := e } }
    else { s with xla := { s.xla with target := some d } }
  | none => { s with xla := { s.xla with target := none } }

/-! Serving a resynchronisation (R152, R153) -/

/-- The highest-ranked lane that requests in this vote: STATE with JREQ from a non-member; a lane whose JOIN shows another frame
length fails its join (R21). -/
def requester (s : State) : Option (Fin 3) :=
  (farLanes s).find? fun x => s.xla.peer[x].jreq && !memberB s x && decide (s.xla.peer[x].tframe = xT s)

/-- A member begins a transfer when none runs; to a single member only with HMJ (R153, R172). -/
def beginServe (s : State) : State :=
  if contributes s ∧ s.xla.served.isNone ∧ !joinBarred s then
    match requester s with
    | some x =>
      { s with xla := { s.xla with
          served := some x, toSend := BitVec.ofNat 256 (2 ^ mblks s - 1)
          capture := [], serving := false, captureFinal := false } }
    | none => s
  else s

/-! The isolation rule (R173) -/

/-- Does the rule apply: only this lane remains, and some member was removed as absent? -/
def isolationApplies (s : State) (odd next : Nat) : Bool :=
  decide (next = s.laneBit) && decide (s.lstate = lsVoting)
    && (farLanes s).any fun x => removedAbsent s x && !maskHas odd x.val && !maskHas (eqvMask s) x.val

/-- The isolation rule (R173): not while this lane holds the ensign in DUPLEX; else the claim is released, the lane withdraws and
counts the frames of its test. DESIGN CHOICE: its CUR is 0 from the next frame on, and it stays 0 where the test ends without solo
formation, until the lane joins by a resynchronisation; the spec does not say how it learns the members again. -/
def isolate (s : State) : State :=
  if s.fldB F.HAL_STAT_ENSIGN ∧ s.rstate = rsDuplex then s
  else
    let s := hoistFlag 15 (releaseClaim s)
    let n := s.fld F.HAL_CTRL_ISOT
    let s := withdraw s
    let seen := decide (s.obs &&& (7 ^^^ s.laneBit) ≠ 0)
    ({ s with hal := { s.hal with isoLeft := some (Nat.max n 2), isoClaimSeen := seen } }.setFld F.XLA_MEMB_NEXT 0)

/-- Write the voted set to the inactive committed buffer (R143). -/
def writeVoted (r : VoteResult) (s : State) : State :=
  let set := r.set.getD (committedSet s)
  let s := sramWords xlaReq (bufAddr s (1 - s.fld F.XLA_COMMIT_BUF)) set s
  { s with xla := { s.xla with commitDue := some (r.set.isNone, decide (r.outcome = 2)) } }

/-- Remember absence for the next vote (R145). -/
def noteAbsence (s : State) : State :=
  let own := absentV s s.lane
  let s := (farLanes s).foldl (fun s x => let a := absentV s x; s.setPeer x fun p => { p with absPrev := a }) s
  { s with xla := { s.xla with ownAbsPrev := own } }

/-- Does attempt `att` run at the joining lane (R154)? -/
def inAttempt (s : State) (att : Nat) : Bool := s.xla.attempt && decide (s.fld F.XLA_RSTAT_ATTEMPT = att)

/-- An attempt begins with its first MIRROR message, or with its JFIN when the first capture is the final one; within 10 s of
the preceding one it is an event of R157. -/
def beginAttempt (att : Nat) (s : State) : State :=
  if inAttempt s att then s
  else
    let close := match s.xla.attemptAt with
      | some t => decide (s.ltime.toNat < t.toNat + 10000000000)
      | none => false
    let s := { s with xla := { s.xla with
      attempt := true, attemptAt := some s.ltime, copies := [], nextMseq := 0, finalFrame := none, failedAtt := none } }
    let s := setRphase 3 ((s.setFld F.XLA_RSTAT_ATTEMPT att).setFld F.XLA_RSTAT_MSRC 0)
    if close then resyncEvent s else s

/-- JFIN names this lane (R155): it becomes a member at the next frame, unless the attempt that JFIN ends has failed here. -/
def acceptJfin (s : State) : State :=
  if s.xla.failedAtt.isSome then { s with xla := { s.xla with failedAtt := none } }
  else
    let s := if s.xla.attempt then s else beginAttempt (s.frame.toNat % 2 ^ 12) s
    if s.xla.attempt ∧ (s.lstate = lsSyncing ∨ s.lstate = lsWithdrawn) then
      setRphase 4 { s with xla := { s.xla with voteNext := true, finalFrame := some s.frame, resync := false } }
    else s

/-- Has the frame come by which the captures of the attempt had to be final (R156): MLIM frames after the first, which ATTEMPT names
by its low 12 bits? -/
def limitReached (s : State) : Bool :=
  s.xla.attempt && s.xla.finalFrame.isNone
    && decide ((s.frame.toNat + 4096 - s.fld F.XLA_RSTAT_ATTEMPT) % 4096 = s.fld F.XLA_MCFG_MLIM)

/-- What JFIN and MABORT mean to the lane they name (R155, R156); an attempt whose last capture in time was not the final one fails
without MABORT as well. -/
def joinDecision (s : State) : State :=
  if !decide (s.lstate = lsSyncing ∨ s.lstate = lsWithdrawn) then s
  else
    let s := if jfinLane s = some s.lane then acceptJfin s else s
    if mabortLane s = some s.lane then
      if s.xla.attempt then failAttempt s else { s with xla := { s.xla with failedAtt := none } }
    else if limitReached s then failAttempt s
    else s

/-- XLA_VOTE after a vote (R158). -/
def voteWord (s : State) (r : VoteResult) (odd : Nat) (selfodd sheq : Bool) : Word :=
  let set := r.set.getD (committedSet s)
  let agree := maskOf fun x => match outputOf s x with | some m => decide (xmPayload m = set) | none => false
  BitVec.ofNat 36 (agree + odd * 2 ^ 3 + maskOf (absentV s) * 2 ^ 6
    + maskOf (fun x => equivV s x || maskHas (eqvMask s) x.val) * 2 ^ 9 + r.outcome * 2 ^ 12
    + b2n selfodd * 2 ^ 15 + b2n sheq * 2 ^ 16)

/-- The vote with a given result: registers, committed buffer, membership, withdrawal, SAFE, time target (R28, R142 to
R147, R173). -/
def applyVote (r : VoteResult) (s : State) : State :=
  let s := countMiss (·.vt1) (·.vt2) s
  let odd := r.diff ||| maskOf (equivV s)
  let own := s.lane
  let selfodd := memberB s own && (maskHas r.diff own.val || equivV s own || maskHas (eqvMask s) own.val)
  let eqv := eqvMask s ||| maskOf (equivV s)
  let voted := r.set.getD (committedSet s)
  let sheq := !contributes s && decide (s.xla.accepted = some voted)
  let next := nextMembers s odd
  let iso := isolationApplies s odd next
  let g := timeTarget s
  let rsNext := maskHas next own.val
  let s := s.setReg R.XLA_VOTE (voteWord s r odd selfodd sheq)
  let s := writeVoted r s
  let s := (s.setFld F.XLA_MEMB_NEXT next).setFld F.XLA_MEMB_EQV eqv
  let s := s.setFld F.XLA_TREL_VOTE (s.ltime.toNat - s.frameStart.toNat)
  let s := pendSrc 26 s
  let s := if next ≠ s.fld F.XLA_MEMB_CUR then pendSrc 29 s else s
  let s := if r.outcome = 3 then hoistFlag 10 s else s
  let s := if r.outcome = 3 ∧ s.xla.nomajPrev then safeCause 1 s else s
  let s := beginServe (noteAbsence (joinDecision (stepOnce g s)))
  let leave := s.xla.leave
  let s := { s with xla := { s.xla with voted := true, nomajPrev := decide (r.outcome = 3), leave := false } }
  if selfodd then withdrawOdd s
  else if leave then (if s.lstate = lsVoting then pendSrc 27 (withdraw s) else withdraw s)
  else if iso ∧ rsNext then isolate s
  else s

/-- VOTE_CLOSE: the views are final (R142). -/
def voteClose (s : State) : State :=
  if stepDue 7 (cV s) s ∧ !frameReached s (xT s - 500) then
    takeStep 7 (setPhase 9 (if s.xla.voted then s else applyVote (voteOutcome s) s))
  else s

def execVoteClose (s : State) : Host.Outcome State Fault Refusal := .next (whenClocked voteClose s)

/-- VOTE_INCOMPLETE: a vote not complete by T - 0.50 µs has outcome 4 (R143). -/
def voteIncomplete (s : State) : State :=
  if stepDue 7 (xT s - 500) s ∧ !s.xla.voted then takeStep 7 (setPhase 9 (applyVote ⟨4, none, 0⟩ s)) else s

def execVoteIncomplete (s : State) : Host.Outcome State Fault Refusal := .next (whenClocked voteIncomplete s)

/-- ISOLATION_TEST_END: after ISOT frames (R173); a claim counts until the last of them ends. -/
def isolationTestEnd (s : State) : State :=
  if s.hal.isoLeft = some 0 ∧ frameReached s (xT s) ∧ s.lstate = lsWithdrawn then
    let seen := s.hal.isoClaimSeen
    let s := { s with hal := { s.hal with isoLeft := none, isoClaimSeen := false } }
    if seen then { s with xla := { s.xla with resync := true } }
    else noteNext s ({ s with xla := { s.xla with voteNext := true, prevAgreed := [] } }.setFld F.XLA_MEMB_NEXT s.laneBit)
  else s

def execIsolationTestEnd (s : State) : Host.Outcome State Fault Refusal := .next (whenClocked isolationTestEnd s)

end Sys2Proof.Machine
end

