-- ==== Sys2Proof/Machine/XlaSync.lean ====
section
/-! DEFINITION. Link delay, formation, mirror messages and the joining side of resynchronisation (R30, R149 to R157). -/

namespace Sys2Proof.Machine

/-! JOIN (R149, R150) -/

/-- Is the lane READY (R150)? -/
def xlaReady (s : State) : Bool :=
  s.fldB F.XLA_CTRL_EN && decide (s.lstate = lsSyncing ∨ s.lstate = lsVoting ∨ s.lstate = lsWithdrawn)

/-- The epoch a JOIN carries: the running one, else the proposed or adopted one. -/
def joinEpoch (s : State) : DWord :=
  if s.fldB F.XLA_STAT_FORMED then s.xla.frameEpoch else s.xla.epoch.getD 0

/-- The JOIN to far lane x whose start symbol goes out at `tx` (R124, R149). -/
def joinMsg (s : State) (tx : Word) (x : Fin 3) : XMsg :=
  let lj := s.xla.peer[x].lastJoin.getD (0, 0)
  let formed := s.fldB F.XLA_STAT_FORMED
  let p2 := b2n (xlaReady s) + b2n (s.xla.founding && !formed) * 2 + b2n (s.xla.accepting.isSome && !formed) * 4
    + xT s * 2 ^ 18
  let e := (joinEpoch s).toNat
  let memb := if formed then s.fld F.XLA_MEMB_CUR else s.xla.announced.getD 0
  ownMsg s tx mtJoin 0 memb { jlane := resyncLane s } [lj.1, lj.2, BitVec.ofNat 36 p2, BitVec.ofNat 36 (e / 2 ^ 36), BitVec.ofNat 36 e]

/-- Are 20 µs over since the last JOIN (R149)? -/
def joinSendDue (s : State) : Bool :=
  match s.xla.joinAt with
  | some t => passed s t 20000
  | none => true

/-- JOIN_SEND: a lane whose frame numbering does not run sends JOIN on both links every 20 µs (R126, R149). -/
def joinSend (s : State) : State :=
  if s.fldB F.XLA_CTRL_EN ∧ !s.fldB F.XLA_STAT_FORMED ∧ (s.lstate = lsSyncing ∨ s.lstate = lsWithdrawn) ∧ joinSendDue s then
    { s with xla := { s.xla with
        sent := (farLanes s).map fun x => (x, joinMsg s s.lt36 x), joinAt := some s.dlk.dtime } }
  else s

def execJoinSend (s : State) : Host.Outcome State Fault Refusal := .next (whenClocked joinSend s)

/-- The delay of one answered JOIN: ((t4 - t1) - (t3 - t2)) / 2 modulo 2^36, rounded down (R149). -/
def delaySample (t1 t2 t3 t4 : Word) : Word := ((t4 - t1) - (t3 - t2)) >>> 1

/-- The mean of 8 samples, accepted when their spread is at most 10 ns (R149). -/
def delayMean (l : List Word) : Option Nat :=
  let ns := l.map (·.toNat)
  let hi := ns.foldl Nat.max 0
  let lo := ns.foldl Nat.min (2 ^ 36)
  if l.length = 8 ∧ hi ≤ lo + 10 then some (ns.sum / 8) else none

/-- A delay sample from far lane x (R149): after eight, XLA_LDLY shows an accepted mean. -/
def addSample (x : Fin 3) (d : Word) (s : State) : State :=
  let l := d :: s.xla.peer[x].samples
  if l.length < 8 then s.setPeer x fun p => { p with samples := l }
  else
    let s' := s.setPeer x fun p => { p with samples := [] }
    match delayMean l with
    | some m => (s'.setPeer x fun p => { p with delayOk := true }).setFld ⟨R.XLA_LDLY, 12 * x.val, 12⟩ m
    | none => s'

/-- Does the lane count x as a peer for formation (R150)? -/
def isPeer (s : State) (x : Fin 3) : Bool :=
  let p := s.xla.peer[x]
  p.ready && p.delayOk && decide (p.tframe = xT s) && decide (p.setver = s.fld F.XLA_SET_SETVER) && decide (p.vmaj = 1)

/-- LTIME rounded up to a multiple of 1,000 ns, plus 40 × T (R150). -/
def proposeEpoch (s : State) : DWord :=
  BitVec.ofNat 72 ((s.ltime.toNat + 999) / 1000 * 1000 + 40 * xT s)

/-- LTIME stepped to a founder's, whose low 36 bits are TXTIME + D and which lies before its epoch (R30, R150). -/
def stepToFounder (tx : Word) (d : Nat) (epoch : DWord) (s : State) : State :=
  let low : Word := tx + BitVec.ofNat 36 d
  let back := (BitVec.ofNat 36 epoch.toNat - low).toNat
  { s with ltime := epoch - BitVec.ofNat 72 back }

/-- Formation on a JOIN from x while no frame is formed (R150, R151): a higher-ranked peer takes over as founder; a
founder's epoch is adopted with a step of LTIME; the highest-ranked lane proposes an epoch; a peer ends a solo
formation. -/
def formationJoin (x : Fin 3) (m : XMsg) (s : State) : State :=
  if !xlaReady s ∨ !isPeer s x then s
  else
    let s := if s.xla.solo then { s with xla := { s.xla with solo := false, epoch := none } } else s
    let higher := (farLanes s).filter fun y => isPeer s y && decide (y < s.lane)
    match higher with
    | f :: _ =>
      let s := { s with xla := { s.xla with founding := false } }
      if f = x ∧ s.xla.peer[x].founder then
        let e : DWord := s.xla.peer[x].epoch
        let s : State := if xmMemb m ≠ 0 then { s with xla := { s.xla with announced := some (xmMemb m) } } else s
        if s.xla.accepting = some x ∧ s.xla.epoch = some e then s
        else
          let s := if s.lstate = lsSyncing then stepToFounder (xmTx m) (ldly s x) e s else s
          { s with xla := { s.xla with epoch := some e, accepting := some x
                                       announced := if xmMemb m ≠ 0 then some (xmMemb m) else none } }
      else s
    | [] =>
      if s.xla.founding then s
      else { s with xla := { s.xla with founding := true, accepting := none, announced := none,
                                        epoch := some (proposeEpoch s) } }

/-- Is a JOIN one of a lane whose frame numbering runs: MEMB shows its view, and it neither founds nor accepts (R124, R149)? -/
def joinFormed (m : XMsg) : Bool :=
  decide (xmMemb m ≠ 0) && !bit ((xmPayload m).getD 2 0) 1 && !bit ((xmPayload m).getD 2 0) 2

/-- A lane without frame numbering takes the numbering of a peer whose numbering runs. In SYNCING it counts frames in its own time
until the one step of R30; in WITHDRAWN, which makes no step, from the peer's FRAME_EPOCH. The events of the running frame are
passed over. DESIGN CHOICE: the spec does not say how a lane that is late for frame 0 comes to number frames; log. -/
def adoptNumbering (x : Fin 3) (m : XMsg) (s : State) : State :=
  if !s.fldB F.XLA_STAT_FORMED ∧ xlaReady s ∧ isPeer s x ∧ joinFormed m then
    let e : DWord := s.xla.peer[x].epoch
    let el := (xmTx m + BitVec.ofNat 36 (ldly s x) - e.truncate 36 : Word).toNat
    let n := el / xT s
    let own := s.ltime - BitVec.ofNat 72 el
    let fe := if s.lstate = lsSyncing then own else nearestTo own e
    { s with frame := BitVec.ofNat 36 n, frameStart := fe + BitVec.ofNat 72 (n * xT s), pennant := pennantOf (n - 1) s
             xla := { s.xla with frameEpoch := fe, epoch := some e, founding := false, accepting := none, announced := none
                                 prevAgreed := [], xstep := 8 } }
      |>.setFld F.XLA_STAT_FORMED 1
      |>.setFld F.XLA_MEMB_CUR (xmMemb m)
      |>.setFld F.XLA_MEMB_NEXT (xmMemb m)
  else s

/-- Fields of a valid JOIN from x (R149). -/
def takeJoin (x : Fin 3) (m : XMsg) (s : State) : State :=
  let p := xmPayload m
  let p2 := p.getD 2 0
  let t4 := s.lt36
  let t1 := p.getD 0 0
  let t2 := p.getD 1 0
  let s := if t1 = 0 ∧ t2 = 0 then s else addSample x (delaySample t1 t2 (xmTx m) t4) s
  s.setPeer x fun q => { q with
    lastJoin := some (xmTx m, t4), answerDue := true, ready := bit p2 0, founder := bit p2 1
    accept := bit p2 2 && decide (s.xla.epoch = some (BitVec.ofNat 72 (pairNat (p.getD 3 0) (p.getD 4 0))))
    tframe := getBits p2 18 18, setver := xmSetver m, vmaj := xmVmaj m
    epoch := BitVec.ofNat 72 (pairNat (p.getD 3 0) (p.getD 4 0)), annMemb := xmMemb m, pennant := xmPennant m }

/-- JOIN_MESSAGE: checked neither against FRAME nor against a window (R127, R149). -/
def joinMessage (link : Fin 3) (symOk : Bool) (m : XMsg) (s : State) : State :=
  if !xlaReady s ∨ link = s.lane then s
  else match checkHead s link false symOk [mtJoin] m with
    | some e => rejectMsg e link s
    | none =>
      let s := takeJoin link m s
      if s.fldB F.XLA_STAT_FORMED then (if joinFormed m then noteOriginator link m s else s)
      else
        let s := adoptNumbering link m s
        if s.fldB F.XLA_STAT_FORMED then s else formationJoin link m s

def execJoinMessage (link : Fin 3) (symOk : Bool) (m : XMsg) (s : State) : Host.Outcome State Fault Refusal :=
  .next (whenClocked (joinMessage link symOk m) s)

/-- Is the proposed epoch 10 × T away or less? -/
def acceptTime (s : State) : Bool :=
  match s.xla.epoch with
  | some e => decide (e.toNat ≤ s.ltime.toNat + 10 * xT s)
  | none => false

/-- ACCEPT_DEADLINE: 10 × T before the epoch the founder fixes the members of frame 0, or proposes a new epoch (R150). -/
def acceptDeadline (s : State) : State :=
  if s.xla.founding ∧ !s.fldB F.XLA_STAT_FORMED ∧ xlaReady s ∧ s.xla.announced.isNone ∧ acceptTime s then
    let acc := maskOf fun x => decide (x ≠ s.lane) && isPeer s x && s.xla.peer[x].accept
    if acc ≠ 0 then { s with xla := { s.xla with announced := some (acc + s.laneBit) } }
    else { s with xla := { s.xla with epoch := some (proposeEpoch s) } }
  else s

def execAcceptDeadline (s : State) : Host.Outcome State Fault Refusal := .next (whenClocked acceptDeadline s)

/-- Is the lane READY for SOLOT ms (R151)? -/
def soloDue (s : State) : Bool :=
  match s.xla.readyAt with
  | some t => passed s t (s.fld F.XLA_CTRL_SOLOT * 1000000)
  | none => false

/-- SOLO_TIMEOUT: a SOLO lane that finds no peer within SOLOT ms of becoming READY proposes an epoch alone (R151). -/
def soloTimeout (s : State) : State :=
  if s.fldB F.XLA_CTRL_SOLO ∧ xlaReady s ∧ s.lstate = lsSyncing ∧ !s.fldB F.XLA_STAT_FORMED ∧ soloDue s
      ∧ (farLanes s).all (fun x => !isPeer s x) ∧ !s.xla.solo then
    { s with xla := { s.xla with solo := true, founding := false, epoch := some (proposeEpoch s) } }
  else s

def execSoloTimeout (s : State) : Host.Outcome State Fault Refusal := .next (whenClocked soloTimeout s)

/-- The members of frame 0 as this lane knows them when its epoch comes, if it is one of them (R150, R151). -/
def formationMembers (s : State) : Option Nat :=
  if s.xla.solo then some s.laneBit
  else match s.xla.announced with
    | some m =>
      if (s.xla.founding || s.xla.accepting.isSome) && maskHas m s.lane.val then some m else none
    | none => none

/-! MIRROR (R153, R154) -/

/-- The MIRROR message for a captured block (R154). -/
def mirrorMsg (s : State) (tx : Word) (mseq : Nat) (b : Nat × List Word) : XMsg :=
  let p0 := b.1 % 2 ^ 8 + s.xla.m1.toNat % 2 ^ 12 * 2 ^ 8 + mseq % 2 ^ 12 * 2 ^ 20 + b2n s.xla.captureFinal * 2 ^ 32
  ownMsg s tx mtMirror s.frame (s.fld F.XLA_MEMB_CUR) { jlane := resyncLane s }
    (BitVec.ofNat 36 p0 :: b.2)

/-- TXTIME of message k of a window whose messages are MIRRORs, 0.10 µs apart (R124, R132). -/
def txAt (s : State) (k : Nat) : Word := s.lt36 + BitVec.ofNat 36 (4550 * k)

/-- Send captured blocks to the lane served, and take them off the list; a lane that is no member sends none (R126). -/
def sendMirror (n : Nat) (s : State) : List (Fin 3 × XMsg) × State :=
  match contributes s, s.xla.served with
  | true, some x =>
    let bs := s.xla.capture.take n
    let ms := bs.zipIdx.map fun p => (x, mirrorMsg s (txAt s p.2) (s.xla.mseq + p.2) p.1)
    (ms, { s with xla := { s.xla with capture := s.xla.capture.drop n, mseq := s.xla.mseq + bs.length } })
  | _, _ => ([], s)

/-- What is left of a window that ends t ns after the frame start. -/
def roomTo (t : Int) (s : State) : Int := s.frameStart.toNat + t - s.ltime.toNat

/-- The lanes that get a JOIN in this mid window: from a member those that await an answer, from any other lane both; and only
where the JOIN ends within the window after the `k` MIRRORs on the link of the lane served (R126, R132, R149). -/
def joinLanes (k : Nat) (s : State) : List (Fin 3) :=
  (farLanes s).filter fun x =>
    (s.xla.peer[x].answerDue || !s.isMember)
      && decide (((if s.xla.served = some x then 4550 * k else 0) + msgTime 5 : Nat) ≤ roomTo ((tV1 s : Int) - 100) s)

/-- MID_WINDOW_START: the rest of the captured blocks, then JOIN (R126, R132, R149, R153, R155). -/
def midWindowStart (s : State) : State :=
  if stepDue 4 (cI s + 50) s then
    let (ms, t) := sendMirror (mirrorFit (roomTo ((tV1 s : Int) - 100) s)) s
    let to_ := joinLanes ms.length s
    let js := to_.map fun x => (x, joinMsg s (if s.xla.served = some x then txAt s ms.length else s.lt36) x)
    let t := to_.foldl (fun t x => t.setPeer x fun p => { p with answerDue := false }) t
    takeStep 4 { t with xla := { t.xla with sent := ms ++ js } }
  else s

def execMidWindowStart (s : State) : Host.Outcome State Fault Refusal := .next (whenClocked midWindowStart s)

/-- TAIL_WINDOW_START: the first captured blocks, as many as the window takes (R132, R153 KCAP). -/
def tailWindowStart (s : State) : State :=
  if stepDue 8 (cV s + 50) s then
    let (ms, s) := sendMirror (mirrorFit (roomTo ((xT s + tI1 : Nat) - 100 : Int) s)) s
    takeStep 8 { s with xla := { s.xla with sent := ms } }
  else s

def execTailWindowStart (s : State) : Host.Outcome State Fault Refusal := .next (whenClocked tailWindowStart s)

/-! Joining side (R154 to R157) -/

def mirBlock (m : XMsg) : Nat := getBits ((xmPayload m).getD 0 0) 0 8
def mirAttempt (m : XMsg) : Nat := getBits ((xmPayload m).getD 0 0) 8 12
def mirSeq (m : XMsg) : Nat := getBits ((xmPayload m).getD 0 0) 20 12
def mirFinal (m : XMsg) : Bool := bit ((xmPayload m).getD 0 0) 32

/-- Is the lane on the joining side of a resynchronisation? -/
def joining (s : State) : Bool :=
  decide (s.lstate = lsSyncing ∨ s.lstate = lsWithdrawn) || (decide (s.lstate = lsVoting) && s.xla.finalFrame.isSome)

/-- An attempt fails at the joining lane; where it votes already, in the frame of its join, it is WITHDRAWN again (R155, R156). -/
def failJoin (s : State) : State :=
  failAttempt (if s.lstate = lsVoting ∧ s.xla.finalFrame.isSome then setLaneState lsWithdrawn s else s)

/-- How far an MSEQ lies past another, modulo 2^12. -/
def seqPast (a b : Nat) : Nat := (a + 4096 - b % 4096) % 4096

/-- Write one received block; a single copy hoists XMSNG (R154). -/
def writeBlock (c : MirrorCopy) (single : Bool) (s : State) : State :=
  let s := sramWords xlaReq (s.fld F.XLA_MBASE_MBASE + 32 * c.block) c.words s
  let s := { s with xla := { s.xla with nextMseq := (c.mseq + 1) % 4096, copies := s.xla.copies.filter (·.mseq ≠ c.mseq) } }
  if single then hoistFlag 11 s else s

/-- Number of members that send blocks to this lane. -/
def mirrorSources (s : State) : Nat := ((farLanes s).filter (memberB s)).length

/-- Take the copies of the next MSEQ: the two members' equal copies, or at the end of a window (or with one member) a single one; two
unequal copies fail the attempt (R154, R156). -/
def drainCopies (windowEnd : Bool) : Nat → State → State
  | 0, s => s
  | n + 1, s =>
    if !s.xla.attempt then s
    else match s.xla.copies.filter (fun c => c.mseq = s.xla.nextMseq) with
      | a :: b :: _ =>
        if a.block = b.block ∧ a.words = b.words then drainCopies windowEnd n (writeBlock a false s) else failJoin s
      | [a] =>
        if windowEnd ∨ mirrorSources s = 1 then drainCopies windowEnd n (writeBlock a true s) else s
      | [] => if windowEnd ∧ !s.xla.copies.isEmpty then failJoin s else s

/-- The end of a mid or tail window at the joining lane: single copies are taken, a gap fails the attempt (R154, R156). -/
def mirrorWindowEnd (s : State) : State := drainCopies true (s.xla.copies.length + 1) s

/-- Hold a copy that has come on a link. One that repeats what the same member has sent already is left aside; one that differs
from it fails the attempt (R156). -/
def holdCopy (c : MirrorCopy) (s : State) : State :=
  match s.xla.copies.find? fun d => d.lane = c.lane ∧ d.mseq = c.mseq with
  | some d => if d = c then s else failJoin s
  | none =>
    if 2048 ≤ seqPast c.mseq s.xla.nextMseq then s
    else { s with xla := { s.xla with copies := s.xla.copies ++ [c] } }

/-- A valid MIRROR at the joining lane (R154 to R157). -/
def takeMirror (link : Fin 3) (m : XMsg) (s : State) : State :=
  if s.xla.failedAtt = some (mirAttempt m) then s
  else
  let s := beginAttempt (mirAttempt m) s
  if !s.xla.attempt then s
  else if mblks s ≤ mirBlock m then failJoin s
  else if mirFinal m ∧ s.xla.finalFrame.isNone then failJoin s
  else
    let s := s.setFld F.XLA_RSTAT_MSRC (s.fld F.XLA_RSTAT_MSRC ||| 2 ^ link.val)
    let c : MirrorCopy := ⟨link, mirSeq m, mirBlock m, mirFinal m, (xmPayload m).drop 1⟩
    let s := holdCopy c s
    drainCopies false (s.xla.copies.length + 1) (if mirFinal m then setRphase 4 s else s)

/-- FRAME and window of a MIRROR: the current frame in its mid or tail window, or the preceding frame in the part of its
tail window that runs on (R127, R132). -/
def checkMirror (s : State) (link : Fin 3) (symOk : Bool) (m : XMsg) : Option XErr :=
  let types := if s.phase = 6 ∨ s.phase = 9 ∨ s.phase = 2 ∨ s.phase = 7 then [mtMirror] else []
  match checkHead s link false symOk types m with
  | some e => some e
  | none =>
    if xmFrame m = s.frame then (if inMid s link || inTail s link then none else some .outw)
    else if xmFrame m + 1 = s.frame ∧ inTailCarried s link then none
    else some .stale

/-- MIRROR_MESSAGE. -/
def mirrorMessage (link : Fin 3) (symOk : Bool) (m : XMsg) (s : State) : State :=
  if !xlaRuns s ∨ link = s.lane then s
  else match checkMirror s link symOk m with
    | some e => rejectMsg e link s
    | none =>
      let s := if xmFrame m = s.frame then noteOriginator link m s else s
      if joining s ∧ xmJlane m = s.lane.val then takeMirror link m s else s

def execMirrorMessage (link : Fin 3) (symOk : Bool) (m : XMsg) (s : State) : Host.Outcome State Fault Refusal :=
  .next (whenClocked (mirrorMessage link symOk m) s)

/-- INPUT_ROUND_1, with the end of the preceding tail window at the joining lane (R132, R133). -/
def inputRound (s : State) : State :=
  if stepDue 1 tI1 s then
    let s := mirrorWindowEnd s
    takeStep 1 (inputRound1 { s with xla := { s.xla with midBase := s.xla.nextMseq } })
  else s

def execInputRound1 (s : State) : Host.Outcome State Fault Refusal := .next (whenClocked inputRound s)

/-! The release (R137, R138, R155) -/

/-- Does the lane become a member by a join in the running frame? -/
def joinFrame (s : State) : Bool :=
  match s.xla.finalFrame with
  | some f => decide (s.frame = f + 1)
  | none => false

/-- Final blocks that have come in the mid window, from either member. -/
def finalBlocks (s : State) : Nat :=
  (s.xla.copies.map fun c => seqPast (c.mseq + 1) s.xla.midBase).foldl Nat.max (seqPast s.xla.nextMseq s.xla.midBase)

/-- Are the final blocks in: after the last that has come, no further message has begun within WIN of its time (R155: 0.25 µs at
the default WIN)? -/
def finalIn (s : State) : Bool := frameReached s (cI s + 50 + finalBlocks s * 4550 + xWin s)

/-- The release itself. -/
def releaseFrame (r : Release) (wlost : Nat) (s : State) : State :=
  let s := s.incFld F.XLA_WLCNT_WL wlost
  let s := s.setFld F.XLA_TREL_REL (s.ltime.toNat - s.frameStart.toNat)
  pendSrc 25 { s with lsc := { s.lsc with release := some r }, xla := { s.xla with relWait := none } }

/-- The joining lane has its final blocks: the attempt is done, and the count of its first member frames begins (R155, R156). -/
def joinDone (s : State) : State :=
  setRphase 5 { s with xla := { s.xla with finalFrame := none, attempt := false, copies := [], since := some 0 } }

/-- FRAME_WAIT_RELEASE: the last write of the area has completed, after a number of repeated writes (R137, R138). In the frame of a
join the release waits for the final blocks; a gap or unequal copies among them fail the attempt (R155, R156). -/
def frameWaitRelease (wlost : Nat) (s : State) : State :=
  match s.xla.relWait with
  | none => s
  | some r =>
    if !joinFrame s then releaseFrame r wlost s
    else if !finalIn s then s
    else
      let s := mirrorWindowEnd s
      if s.xla.attempt then releaseFrame r wlost (joinDone s) else s

def execFrameWaitRelease (wlost : Nat) (s : State) : Host.Outcome State Fault Refusal := .next (whenClocked (frameWaitRelease wlost) s)

/-- No release has come by the end of the mid window of the frame of a join: a final block is missing, and the attempt fails
(R155, R156). -/
def finalMissing (s : State) : State := if joinFrame s then failJoin s else s

/-- VOTE_ROUND_1, with the end of the mid window at the joining lane (R132, R141, R155). -/
def voteRound1 (s : State) : State :=
  if stepDue 5 (tV1 s) s then
    takeStep 5 (voteRound1Send (setPhase 7 (finalMissing (mirrorWindowEnd { s with xla := { s.xla with sent := [] } }))))
  else s

def execVoteRound1 (s : State) : Host.Outcome State Fault Refusal := .next (whenClocked voteRound1 s)

/-- RESYNC_BLOCK_TIMEOUT: a final block has not arrived by the end of the mid window of f + 1 (R155, R156): no release, the
attempt fails and the lane is WITHDRAWN. -/
def resyncBlockTimeout (s : State) : State := if frameReached s (tV1 s - 100) then finalMissing s else s

def execResyncBlockTimeout (s : State) : Host.Outcome State Fault Refusal := .next (whenClocked resyncBlockTimeout s)

/-! XLA_CMD, EN and the key block (R131, R158, R159, R570) -/

/-- Fetch the key block from the sealed bank (R159): LOADED, ZERO and KVER. DESIGN CHOICE: where a word of it is not answered OK (a
wipe, a destructive march, a poisoned bank, an uncorrectable word), the keys and LOADED stay as they are; the spec does not say
what a failed fetch does. -/
def keyFetch (s : State) : State :=
  match sramReads ⟨9, 3, true⟩ 13 0xFFFF0 s with
  | (s, none) => s
  | (s, some ws) =>
    let keyAt := fun (i : Nat) => ((ws.drop (4 * i)).take 4).foldl (fun a w => a * 2 ^ 32 + getBits w 0 32) 0
    let ks := [keyAt 0, keyAt 1, keyAt 2]
    let s := { s with xla := { s.xla with
      keys := #v[BitVec.ofNat 128 (keyAt 0), BitVec.ofNat 128 (keyAt 1), BitVec.ofNat 128 (keyAt 2)] } }
    ((s.setFld F.XLA_KEYSTAT_LOADED 1).setFldB F.XLA_KEYSTAT_ZERO (ks.any (· = 0))).setFld F.XLA_KEYSTAT_KVER
      (getBits (wAt ws 12) 0 16)

/-- The configuration check of R131 (with R21). -/
def xlaConfigOk (s : State) : Bool :=
  let t := xT s
  let nin := xNin s
  let nout := xNout s
  let per := s.fld (F.PWM_PER_PER 0)
  let ag := s.fld F.XLA_AGBASE_AGBASE
  let os := s.fld F.XLA_OSBASE_OSBASE
  let mb := s.fld F.XLA_MBASE_MBASE
  decide (1 ≤ nin) && decide (nin ≤ 24) && decide (1 ≤ nout) && decide (nout ≤ 16)
    && decide (100 ≤ xWin s) && decide (xWin s ≤ 1000) && decide (25000 ≤ t) && decide (t ≤ 200000)
    && ((List.range 8).any fun k => decide (t = (k + 1) * 2 * per))
    && decide (cI s + 1450 ≤ tV1 s) && decide (cV s + 50 + 1000 ≤ t)
    && decide (ag % 128 = 0) && decide (ag + 128 ≤ 0xF0000) && decide (os % 64 = 0) && decide (os + 64 ≤ 0xF0000)
    && decide (mb % 32 = 0) && decide (mb + 32 * mblks s ≤ 0xF0000) && decide (mblks s ≤ 256)
    && s.fldB F.XLA_KEYSTAT_LOADED && !s.fldB F.XLA_KEYSTAT_ZERO
    && ((List.range nin).all fun i => decide (s.fld (F.XLA_IDSC_RULE i) ≤ 5))

/-- Peers, formation and transfers afresh (R570); the lane becomes READY, and a step of LTIME made in this stay in SYNCING stands
(R30). -/
def xlaAfresh (s : State) : State :=
  { s with xla := { xlaReset with keys := s.xla.keys, events := s.xla.events, attemptAt := s.xla.attemptAt,
                                  stepped := s.xla.stepped, readyAt := some s.dlk.dtime, sent := s.xla.sent } }

/-- Are the start-up steps up to the overlay per straps complete (R162, R506), and nothing holds the lane in SELFTEST (R390)? -/
def startupDone (s : State) : Bool := decide (7 ≤ s.fld F.BIST_STAT_STEP) && !flagSet s 78

/-- Setting XLA_CTRL.EN (R131, R162): the key block is fetched when none is loaded; on success the exchange starts, and a
lane in SELFTEST whose start-up has come this far enters SYNCING. -/
def xlaSetEn (s : State) : State :=
  let s := if s.fldB F.XLA_KEYSTAT_LOADED then s else keyFetch s
  if xlaConfigOk s then
    let s := xlaAfresh s
    let s := setRphase 1 (setPhase 1 ((s.setFld F.XLA_CTRL_EN 1).setFld F.XLA_STAT_CFGERR 0))
    if s.lstate = lsSelftest ∧ startupDone s then setLaneState lsSyncing (s.setFld F.BIST_STAT_STEP 8) else s
  else (s.setFld F.XLA_CTRL_EN 0).setFld F.XLA_STAT_CFGERR 1

/-- Clearing XLA_CTRL.EN (R570); in WITHDRAWN it fails an attempt in progress (R163). -/
def xlaClearEn (s : State) : State :=
  let s := ((s.setFld F.XLA_CTRL_EN 0).setFld F.XLA_STAT_FORMED 0).setFld F.XLA_STAT_MEMBER 0
  let s := setPhase 0 s
  let s := { s with xla := { s.xla with relWait := none } }
  if s.lstate = lsVoting then setLaneState lsWithdrawn s
  else if s.lstate = lsWithdrawn ∧ s.xla.attempt then failAttempt s
  else s

/-- A write of XLA_CTRL (R158): the options, then EN. -/
def xlaCtrlWrite (v : Word) (s : State) : State :=
  let was := s.fldB F.XLA_CTRL_EN
  let s := s.setReg R.XLA_CTRL ((v &&& 0xFFFE) ||| (if was then 1 else 0))
  if bit v 0 then (if was then s else xlaSetEn s) else if was then xlaClearEn s else s

/-- A write of XLA_CMD (R158). -/
def xlaCmd (v : Word) (s : State) : State :=
  let s := if bit v 0 then { s with xla := { s.xla with resync := true } } else s
  let s := if bit v 1 then { s with xla := { s.xla with leave := true } } else s
  let s := if bit v 2 then
      let s := { s with xla := { s.xla with
        failedAtt := attemptLeft s, resync := false, attempt := false, copies := [], finalFrame := none, voteNext := false } }
      setRphase 0 s
    else s
  if bit v 3 ∧ !s.fldB F.XLA_CTRL_EN then keyFetch s else s

end Sys2Proof.Machine
end

