-- ==== Sys2Proof/Machine/RegWrite.lean ====
section
/-! DEFINITION. What a fabric read or write does at each register of the block windows (R10, R39, R40 and the register
rules of the blocks). -/

namespace Sys2Proof.Machine

/-! Writes -/

/-- May the source reach what R61 keeps for secure mode: class 3 and, for a core, STATUS.SEC = 1 (R61, R68)? -/
def sealOk (r : Req) : Bool := decide (3 ≤ r.cls) && (decide (4 ≤ r.src) || r.sec)

/-- A write of a register by the access codes of its fields (R10). A hoist of the same LCLK cycle as the dip of a W1C bit acts after
it and wins (R12). -/
def defaultWrite (a : Nat) (row : RegRow) (v : Word) (s : State) : State :=
  let m := BitVec.ofNat 36 (row.rw ||| (if s.rwlLocked then 0 else row.rwl))
  let x := (s.reg a &&& ~~~m) ||| (v &&& m)
  let x := x &&& ~~~(v &&& BitVec.ofNat 36 row.w1c)
  s.setReg a (x ||| (v &&& BitVec.ofNat 36 row.w1s))

/-- `f` while c is 0, otherwise no effect: registers that accept writes only while a unit is disabled. -/
def notWhile (c : Bool) (f : State → State) (s : State) : State := if c then s else f s

/-- SYS (R274, R535): the emergency matrix and the chopper settings act at once. -/
def writeSys (o : Nat) (v : Word) (d : State → State) (s : State) : State :=
  match o with
  | 0x009 => if bit v 0 then warmReset s else s
  | 0x020 => notWhile s.rwlLocked (ovlcfgWrite v) s
  | 0x118 => emtestWrite v s
  | _ => if 0x100 ≤ o ∧ o ≤ 0x11A then matrixEval (chopEval (d s)) else d s

def writePwr (o : Nat) (v : Word) (d : State → State) (s : State) : State :=
  match o with
  | 0x001 => pwrCmd v s
  | 0x006 => domoffWrite v s
  | _ => d s

/-- RTC (R496, R498, R504): writes of the alarm and of its enable are checked against the time. -/
def writeRtc (o : Nat) (v : Word) (d : State → State) (s : State) : State :=
  match o with
  | 0x00A => rtcCmd v s
  | 0x00C => xrefWrite v s
  | 0x000 => alarmWritten (d s)
  | 0x007 => alarmWritten (d s)
  | 0x008 => alarmWritten (d s)
  | _ => d s

/-- XLA (R158): offsets 002h to 00Ah and 040h to 097h only while EN is 0; a field of XLA_WCFG refuses 1xb, and a new code shows
in the trip of a lane in SYNCING, WITHDRAWN or DEBUG (R235). -/
def writeXla (o : Nat) (v : Word) (d : State → State) (s : State) : State :=
  match o with
  | 0x000 => xlaCtrlWrite v s
  | 0x00B => xlaCmd v s
  | 0x00A =>
    notWhile (s.fldB F.XLA_CTRL_EN) (fun s =>
      let s := if bit v 1 then s else s.setFld F.XLA_WCFG_WB0 (getBits v 0 2)
      laneTrips (if bit v 3 then s else s.setFld F.XLA_WCFG_WB1 (getBits v 2 2))) s
  | _ => if (2 ≤ o ∧ o ≤ 9) ∨ (0x40 ≤ o ∧ o ≤ 0x97) then notWhile (s.fldB F.XLA_CTRL_EN) d s else d s

/-- HAL (R189): LIMPT above 600 acts as 600; a safe action written in SAFE acts in the trip of its bank (R168, R235). -/
def writeHal (o : Nat) (v : Word) (d : State → State) (s : State) : State :=
  match o with
  | 0x002 => halCmd v s
  | 0x004 =>
    let s := d s
    if 600 < s.fld F.HAL_HMCFG_LIMPT then s.setFld F.HAL_HMCFG_LIMPT 600 else s
  | 0x006 => laneTrips (d s)
  | _ => d s

/-- FLT (R191): a 1 in FLT_BUNTk dips its flag, latched flags apart (R184). -/
def writeFlt (o : Nat) (v : Word) (d : State → State) (s : State) : State :=
  if o < 4 then (List.range 36).foldl (fun s i => if bit v i then dipFlag (36 * o + i) s else s) s
  else if o = 0x21 then notWhile s.rwlLocked (logCfgWrite v) s
  else d s

def writeLsc (o : Nat) (v : Word) (d : State → State) (s : State) : State := if o = 2 then lscCmd v s else d s

def writeInt (o : Nat) (v : Word) (d : State → State) (s : State) : State :=
  if 0x100 ≤ o ∧ o < 0x108 then intPendWrite (o - 0x100) v s else if o = 0x110 then intSwiWrite v s else d s

/-- PWM (R221, R223, R252): the period register of PWM1 and the offset register of PWM0 do not exist beside the other
bank's; dead time, pulse limits and refresh change only while EN is 0. -/
def writePwm (n : Fin 2) (o : Nat) (v : Word) (d : State → State) (s : State) : State :=
  match o with
  | 0x000 => pwmCtrlWrite n v s
  | 0x002 => notWhile (decide (n = 1)) d s
  | 0x003 => notWhile (decide (n = 0)) d s
  | 0x012 => pwmLoadWrite v s
  | 0x013 => pwmTripWrite n v s
  | 0x014 => pwmCmdWrite n v s
  | _ => if 4 ≤ o ∧ o ≤ 6 then notWhile (s.fldB (F.PWM_CTRL_EN n.val)) d s else d s

def writeDlk (o : Nat) (v : Word) (d : State → State) (s : State) : State :=
  match o with
  | 0x000 => dlkCtrlWrite v s
  | 0x005 => dlkCmd v s
  | _ => d s

def writeFce (n : Fin 2) (o : Nat) (v : Word) (d : State → State) (s : State) : State :=
  match o with
  | 0x000 => fceCtrlWrite n v s
  | 0x004 => fceCmd n v s
  | 0x008 => fceRcfgWrite n v s
  | _ => if o = 3 ∨ (5 ≤ o ∧ o ≤ 7) then notWhile (!fceOpen n s) d s else d s

def writeCom (o : Nat) (v : Word) (d : State → State) (s : State) : State :=
  let n : Fin 2 := if o < 0x20 then 0 else 1
  match o % 0x20 with
  | 0x00 => comModeWrite n v s
  | 0x02 => comAcfgWrite n v s
  | 0x05 => comSwangWrite n v s
  | _ => d s

def writeQep (n : Fin 2) (o : Nat) (v : Word) (d : State → State) (s : State) : State :=
  match o with
  | 0x000 => qepCtrlWrite n v s
  | 0x003 => qepPosWrite n v s
  | 0x00D => qepCmpWrite n v s
  | 0x00E => qepCmpcfgWrite n v s
  | 0x011 => qepDoctlWrite n v s
  | _ => d s

def writeSent (o : Nat) (v : Word) (d : State → State) (s : State) : State :=
  if o = 0 then supctrlWrite v s
  else if 0x10 ≤ o ∧ o % 0x10 = 0 then sentCfgWrite (Fin.ofNat 4 (o / 0x10 - 1)) v s
  else d s

/-- SIO (R384, R395): configuration registers only while EN is 0. -/
def writeSio (o : Nat) (v : Word) (d : State → State) (s : State) : State :=
  match o with
  | 0x000 => sioCtrlWrite v s
  | 0x007 => sioOutswWrite v s
  | 0x009 => sioCmd v s
  | _ => if 0x10 ≤ o then notWhile (s.fldB F.SIO_CTRL_EN) d s else d s

/-- NCE_STAT.ISHEAD after a write of the own or the head node ID (R427). -/
def updateIshead (s : State) : State :=
  s.setFldB F.NCE_STAT_ISHEAD (decide (s.fld F.NCE_NODE_NODE = s.fld F.NCE_HEAD_HEAD))

/-- NCE (R427, R453): offsets 003h to 008h, NCE_CAND, NCE_MCFG and the schedule table only while EN is 0; bit 0 of MEN is
always 1, and word 0 of each mode's schedule is none. -/
def writeNce (o : Nat) (v : Word) (d : State → State) (s : State) : State :=
  let on := s.fldB F.NCE_CTRL_EN
  match o with
  | 0x000 => nceCtrlWrite v s
  | 0x002 => updateIshead (d s)
  | 0x003 => notWhile on (fun s => updateIshead (d s)) s
  | 0x010 => nceCmd v s
  | 0x02A => nceMreqWrite v s
  | 0x02B => notWhile on (fun s => (d s).setFld ⟨R.NCE_MCFG, 0, 1⟩ 1) s
  | _ =>
    if 0x800 ≤ o then notWhile (on || decide (o % 0x100 = 0)) d s
    else if (4 ≤ o ∧ o ≤ 8) ∨ o = 0x21 then notWhile on d s
    else d s

/-- Frame buffers (R428): the payload of a receive buffer is read-only; a new RDY is seen from the next LCLK cycle on (R426). -/
def writeBuf (o : Nat) (d : State → State) (s : State) : State :=
  if o % 0x40 = 0 then d (noteRdy (o / 0x40) s)
  else if 4 ≤ o % 0x40 then notWhile (!s.fldB (F.NCE_BCTL_DIR (o / 0x40))) d s else d s

/-- SDP (R335, R345): the memories take a whole new code word; the program memory only while the SDP does not run. -/
def writeSdp (r : Req) (o : Nat) (v : Word) (d : State → State) (s : State) : State × Nat :=
  if o = 0 then (sdpCtrlWrite r.cls v s, respOk)
  else if o = 4 then (sdpCmd v s, respOk)
  else if 0x800 ≤ o ∧ (sdpState s = sdpRunning ∨ sdpState s = sdpWaiting) then (s, respBus)
  else if 0x400 ≤ o then (dropUpset (0x850000 + o) (d s), respOk)
  else (d s, respOk)

/-- DMA (R68, R481): a class above that of the write leaves CLS unchanged. -/
def writeDma (r : Req) (o : Nat) (v : Word) (d : State → State) (s : State) : State :=
  if o < 0x20 ∧ o % 4 = 3 then
    dmaCtlWrite (Fin.ofNat 8 (o / 4)) (if r.cls < getBits v 3 2 then putBits v 3 2 3 else v) s
  else d s

/-- GDC (R41, R248): the write is carried to the gate-drive die; with 16 waiting it stalls. -/
def writeGdc (o : Nat) (row : RegRow) (v : Word) (s : State) : State × Nat :=
  let m := row.rw ||| row.w1c
  if m = 0 then (s, respOk)
  else if cfgFull s then (s, respStall)
  else (enqueueCfg 0 o (v &&& BitVec.ofNat 36 m) s, respOk)

/-- `f`, unless the configuration write that it sends to the die finds the queue full: the access then stalls (R248, R253). -/
def unlessFull (f : State → State) (s : State) : State × Nat := if cfgFull s then (s, respStall) else (f s, respOk)

/-- Does a write of PWMn_CTRL copy a dead time into the die: EN is set, and not refused? -/
def copiesDt (n : Fin 2) (o : Nat) (v : Word) (s : State) : Bool :=
  decide (o = 0) && bit v 0 && !s.fldB (F.PWM_CTRL_EN n.val) && pwmConfigOk n s

/-- A write of a listed register, past its class check. -/
def writeReg (r : Req) (a : Nat) (row : RegRow) (v : Word) (s : State) : State × Nat :=
  let o := a % 0x1000
  let d := defaultWrite a row v
  match a / 0x1000 with
  | 0x800 => (writeSys o v d s, respOk)
  | 0x801 => (writePwr o v d s, respOk)
  | 0x803 => if o = 2 ∨ o = 3 then (if !sealOk r then (s, respSec) else (if o = 2 then lcyCmd v s else s, respOk)) else (d s, respOk)
  | 0x804 => (if o = 0xB then bistCmd v s else d s, respOk)
  | 0x805 =>
    if o = 8 then
      if bit v 0 && decide (r.cls < 3) && maskHas (s.fld F.MEMC_MCFG_BANKS) 15 then (s, respSec) else (memcCmd v s, respOk)
    else (d s, respOk)
  | 0x806 => (writeRtc o v d s, respOk)
  | 0x810 => (writeLsc o v d s, respOk)
  | 0x811 => (writeXla o v d s, respOk)
  | 0x812 => (writeHal o v d s, respOk)
  | 0x813 => (writeFlt o v d s, respOk)
  | 0x820 => if copiesDt 0 o v s then unlessFull (writePwm 0 o v d) s else (writePwm 0 o v d s, respOk)
  | 0x821 => if copiesDt 1 o v s then unlessFull (writePwm 1 o v d) s else (writePwm 1 o v d s, respOk)
  | 0x822 => if o = 2 then unlessFull (dlkLlpatWrite v) s else (writeDlk o v d s, respOk)
  | 0x823 => writeGdc o row v s
  | 0x824 => (writeFce 0 o v d s, respOk)
  | 0x825 => (writeFce 1 o v d s, respOk)
  | 0x826 => (writeCom o v d s, respOk)
  | 0x830 => (writeQep 0 o v d s, respOk)
  | 0x831 => (writeQep 1 o v d s, respOk)
  | 0x833 => (writeSent o v d s, respOk)
  | 0x834 => (writeSio o v d s, respOk)
  | 0x840 => (writeNce o v d s, respOk)
  | 0x841 => (writeBuf o d s, respOk)
  | 0x850 => writeSdp r o v d s
  | 0x851 => (writeDma r o v d s, respOk)
  | 0x852 => (writeInt o v d s, respOk)
  | _ => (d s, respOk)

/-! Reads -/

/-- A read that captures other registers for the source's later reads (R293, R365, R453, R496). -/
def captureRegs (src : Nat) (as : List (Nat × Word)) (s : State) : State :=
  as.foldl (fun s p => s.capture src p.1 p.2) s

/-- NTIME [71:36] and [35:0]. -/
def ntimeHi (s : State) : Word := BitVec.ofNat 36 (s.nce.ntime.toNat / 2 ^ 36)
def ntimeLo (s : State) : Word := BitVec.ofNat 36 s.nce.ntime.toNat

/-- The registers that a read of ISN_IUn or SENT_FCn captures. -/
def capturedBy (a : Nat) : List Nat :=
  let isn := fun n => [R.ISN_IV n, R.ISN_IW n, R.ISN_TS n, R.ISN_QUAL n]
  let sent := fun n => [R.SENT_FC2 n, R.SENT_TS n]
  if a = R.ISN_IU 0 then isn 0
  else if a = R.ISN_IU 1 then isn 1
  else match (List.range 4).find? fun n => a = R.SENT_FC n with
    | some n => sent n
    | none => []

/-- A register whose capture serves one read (R453, R496). -/
def onceCaptured (a : Nat) : Bool := decide (a = R.NCE_NTH) || decide (a = R.RTC_TIMEH)

def dropCapture (src a : Nat) (s : State) : State :=
  { s with caps := s.caps.filter fun c => !(c.1 == src && c.2.1 == a) }

/-- Resynchronisation events within the last 10 s (R157, R158). -/
def recentEvents (s : State) : Nat := (s.xla.events.filter fun t => decide (s.ltime.toNat < t.toNat + 10000000000)).length

/-- The value of a register now, before captures. -/
def liveReg (a : Nat) (s : State) : Word :=
  let o := a % 0x1000
  match a / 0x1000 with
  | 0x852 =>
    if o < 0x100 then intCfgWord s o
    else if 0x100 ≤ o ∧ o < 0x108 then intPendWord s (o - 0x100)
    else if 0x120 ≤ o ∧ o < 0x125 then topWord s (o - 0x120)
    else s.reg a
  | 0x811 => if o = 0x010 then putBits (s.reg a) 0 2 (Nat.min 3 (recentEvents s)) else s.reg a
  | 0x813 => if o = 0x00E then BitVec.ofNat 36 (fltSum s * 2 ^ 16) else s.reg a
  | 0x840 => if o = 0x027 then ntimeLo s else if o = 0x028 then ntimeHi s else s.reg a
  | 0x804 => if 2 ≤ o ∧ o ≤ 4 then BitVec.ofNat 36 (putAge s (o - 2)) else s.reg a
  | 0x821 => if o = 2 then s.reg (R.PWM_PER 0) else s.reg a
  | 0x826 => if a = R.COM_STAT 0 then comStatWord 0 s else if a = R.COM_STAT 1 then comStatWord 1 s else s.reg a
  | 0x820 => if o = 3 then 0 else s.reg a
  | 0x853 => if o = 0 then putBits (s.reg a) 0 1 (b2n (portOpen s)) else s.reg a
  | _ => s.reg a

/-- Does a source take the latest sample of a register whatever it has captured: the snapshot of R23 and the FCEs with ISN
registers (R293)? -/
def latestTaken (src a : Nat) : Bool := (src == 4 || src == 5 || src == 9) && decide (a / 0x1000 = 0x827)

/-- A read of a listed register: the value, and what the read does (captures, RC fields cleared). -/
def readReg (r : Req) (a : Nat) (row : RegRow) (s : State) : State × Word :=
  let v := if latestTaken r.src a then liveReg a s else (s.captured r.src a).getD (liveReg a s)
  let s := if onceCaptured a then dropCapture r.src a s else s
  let s := if latestTaken r.src a then s else captureRegs r.src ((capturedBy a).map fun b => (b, s.reg b)) s
  let s := if a = R.NCE_NTL then s.capture r.src R.NCE_NTH (ntimeHi s) else s
  let s := if a = R.RTC_TIMEL then s.capture r.src R.RTC_TIMEH (s.reg R.RTC_TIMEH) else s
  let s := if row.rc = 0 then s else s.setReg a (s.reg a &&& ~~~(BitVec.ofNat 36 row.rc))
  (s, v)

/-- A read of a word of the SDP's memories through its check bits (R335). -/
def readSdpMem (a : Nat) (s : State) : State × Nat × Word :=
  match upsetAt s a with
  | none => (s, respOk, s.reg a)
  | some (.oneBit _) => (hoistFlag 108 s, respOk, s.reg a)
  | some _ => (hoistFlag 109 s, respEcc, 0)

end Sys2Proof.Machine
end

