-- ==== Sys2Proof/Machine/Bus.lean ====
section
/-! DEFINITION. The memory fabric: what an access of any source to any address does, and its response (R39, R40, R66 to
R76, R456 to R466, R469, R492, R523). -/

namespace Sys2Proof.Machine

/-! Regions -/

/-- The regions of R523 that the life cycle protects in SEALED. -/
def sealedRegion (a : Nat) : Bool :=
  inRange a 0x200000 0x100000 || inRange a 0x300000 0x1E00 || inRange a 0x302000 0x100 || inRange a 0x3FFF00 0x100

/-- Source of the service-port loader, and of BIST for its own records; neither is a fabric unit of R67. -/
def srcLoader : Nat := 10
def srcBist : Nat := 11

/-- May a source write an MRAM word (R520, R523)? -/
def mramWritable (s : State) (src a : Nat) : Bool :=
  if sealedRegion a then decide (s.lcState ≠ lcSealed) && decide (s.lcState ≠ lcScrapped)
  else if inRange a 0x302100 0x5F00 then decide (s.lcState = lcTest)
  else if inRange a 0x3FC000 0x3EF0 then decide (src = srcLoader)
  else if inRange a 0x3FFEF0 0x10 then decide (src = srcBist)
  else true

/-! Blocks that refuse writes below class 2 (R68) -/

def classBlocks : List Nat :=
  [0x800, 0x801, 0x802, 0x804, 0x805, 0x810, 0x811, 0x812, 0x820, 0x821, 0x822, 0x823, 0x824, 0x825, 0x826, 0x827,
   0x830, 0x831, 0x832, 0x833, 0x834, 0x840, 0x841, 0x852]

/-- An access to an unpowered window wakes its domain (R493). -/
def wakeWindow (a : Nat) (s : State) : State :=
  match domainOf a with
  | some d => domainWake d s
  | none => s

/-! Reads -/

/-- A read of a word of MRAM: a queued write answers first (R463). -/
def readMram (a : Nat) (s : State) : State × Nat × Word :=
  match queued s a with
  | some v => (s, respOk, v)
  | none => readWord a s

/-- A read of a register or of a word of the SDP's memories. -/
def readDevice (r : Req) (a : Nat) (s : State) : State × Nat × Word :=
  match regRow? a with
  | none => (s, respBus, 0)
  | some row =>
    let s := wakeWindow a s
    if a = R.LCY_KOUT ∨ a = R.LCY_CMD then
      if !sealOk r then (s, respSec, 0)
      else if a = R.LCY_KOUT then
        let p := koutRead s
        (p.1, respOk, p.2)
      else (s, respOk, 0)
    else if 0x850400 ≤ a ∧ a < 0x851000 then readSdpMem a s
    else
      let p := readReg r a row s
      (p.1, respOk, p.2)

/-- A read of one word: the state after it, the response code, the data. -/
def busRead (r : Req) (a : Nat) (s : State) : State × Nat × Word :=
  if inSram a then readSram r a s
  else if inMram a then readMram a s
  else if inAom a then readWord a s
  else readDevice r a s

/-! Writes -/

/-- Why a word of AOM takes no fabric write (R492). -/
def aomFixed (a : Nat) : Bool := decide (0x400C00 ≤ a)

/-- A write of one word: the state after it and the response code. -/
def busWrite (r : Req) (a : Nat) (v : Word) (s : State) : State × Nat :=
  if inSram a then sramWrite r a v s
  else if inMram a then
    if mramWritable s r.src a then (mramEnqueue r.src a v s, respOk) else (s, respSec)
  else if inAom a then
    if aomFixed a then (s, respBus) else (s.setWord a v, respOk)
  else
    match regRow? a with
    | none => (s, respBus)
    | some row =>
      let s := wakeWindow a s
      if r.cls < 2 ∧ classBlocks.contains (a / 0x1000) then (s, respClass) else writeReg r a row v s

/-! Atomics (R74, R105) -/

/-- The response of an atomic that leaves the old word (R105). DESIGN CHOICE: the spec does not say whether a CAS that does not
replace needs what its write would need; here a word whose write would be refused is refused all the same, CLASSV for guarded
SRAM below class 2 and BUSERR for the fixed words of AOM. -/
def unwritten (r : Req) (a : Nat) (s : State) : Nat :=
  if inAom a ∧ aomFixed a then respBus else if inSram a ∧ r.cls < 2 ∧ guardedSram s a then respClass else respOk

/-- An atomic read-modify-write; `f` gives the new word, or none to leave the old one. -/
def busAtomic (r : Req) (a : Nat) (f : Word → Option Word) (s : State) : State × Nat × Word :=
  if inSram a ∨ inAom a then
    match busRead r a s with
    | (t, e, x) =>
      if e = respOk then
        match f x with
        | some v =>
          match busWrite r a v t with
          | (u, e) => (u, e, x)
        | none => (t, unwritten r a t, x)
      else (t, e, x)
  else (s, respBus, 0)

/-- The word that an atomic leaves; none leaves the old one (R105). -/
def atomNew (op : Moagar.AtomOp) (b x : Word) (old : Word) : Option Word :=
  match op with
  | .swap => some b
  | .aadd => some (old + b)
  | .cas => if old = x then some b else none

/-! Transactions (R66, R70) -/

/-- The header of an access: the source's lowest free tag, its code and class, the operation and the address. -/
def header (r : Req) (op a : Nat) (s : State) : Request :=
  { tag := (freeTag r.src s).getD 0, src := BitVec.ofNat 5 r.src, cls := BitVec.ofNat 2 r.cls, op := BitVec.ofNat 4 op
    addr := BitVec.ofNat 24 a }

/-- A transaction that reaches its target: the state after it and its response; none while it stalls. `sec` is the core's
STATUS.SEC (R61), `b` and `x` are the data of a write or an atomic. The operation codes 6 to 15, which are not used, answer
BUSERR. -/
def transact (q : Request) (sec : Bool) (b x : Word) (s : State) : State × Option Response :=
  let r : Req := ⟨q.src.toNat, q.cls.toNat, sec⟩
  let a := q.addr.toNat
  let reply := fun (p : State × Nat × Word) => (p.1, some (⟨q.tag, q.src, BitVec.ofNat 4 p.2.1, p.2.2⟩ : Response))
  match q.op.toNat with
  | 0 => reply (busRead r a s)
  | 1 =>
    match busWrite r a b s with
    | (t, e) => if e = respStall then (t, none) else reply (t, e, 0)
  | 2 => reply (busAtomic r a (atomNew .swap b x) s)
  | 3 => reply (busAtomic r a (atomNew .aadd b x) s)
  | 4 => reply (busAtomic r a (atomNew .cas b x) s)
  | 5 => reply (busRead r a s)
  | _ => reply (s, respBus, 0)

/-! Accesses as they arrive -/

/-- Is an address that of a stored word, which an upset can change? -/
def hasCode (a : Nat) : Bool := inSram a || inMram a || inAom a || (decide (0x850400 ≤ a) && decide (a < 0x851000))

/-- What the access finds: an upset of the stored word has arisen by then. -/
def arriveAt (f : Arrive) (a : Nat) (s : State) : State :=
  match f with
  | .upset u => if hasCode a then setUpset a u s else s
  | _ => s

/-- A transaction that the fabric may fail to answer: the response code, `respStall` while there is no response, and the data. -/
def access (f : Arrive) (r : Req) (op a : Nat) (b x : Word) (s : State) : State × Nat × Word :=
  if f = .timeout then (s, respTimeout, 0)
  else if 2 ^ 24 ≤ a then (s, respBus, 0)
  else
    match transact (header r op a s) r.sec b x (if op = 1 then s else arriveAt f a s) with
    | (t, some p) => (t, p.code.toNat, p.data)
    | (t, none) => (t, respStall, 0)

def busReadA (f : Arrive) (r : Req) (a : Nat) (s : State) : State × Nat × Word := access f r 0 a 0 0 s

def busWriteA (f : Arrive) (r : Req) (a : Nat) (v : Word) (s : State) : State × Nat :=
  match access f r 1 a v 0 s with
  | (t, e, _) => (t, e)

/-- The operation code of an atomic (R66). -/
def atomCode : Moagar.AtomOp → Nat
  | .swap => 2
  | .aadd => 3
  | .cas => 4

def busAtomicA (f : Arrive) (r : Req) (op : Moagar.AtomOp) (a : Nat) (b x : Word) (s : State) : State × Nat × Word :=
  access f r (atomCode op) a b x s

/-! Instruction fetch (R71) -/

/-- May instructions be fetched from an address in the given mode? -/
def fetchable (sec : Bool) (a : Nat) : Bool := decide (a < 0xF0000) || (sec && decide (a < 0x100000)) || inMram a

/-- A fetch of one word: a transaction of operation 5 (R91). -/
def busFetch (f : Arrive) (r : Req) (a : Nat) (s : State) : State × Nat × Word := access f r 5 a 0 0 s

end Sys2Proof.Machine
end

