-- ==== Sys2Proof/Machine/Core36.lean ====
section
/-! DEFINITION. A Moagar-36 core: its registers and status, what it issues as, taking a trap, a secure fault and an
interrupt, the returns from them, and debug entry (R56 to R90, R216). -/

namespace Sys2Proof.Machine

open Sys2Proof.Moagar

/-! Registers (R56, R57) -/

def stIE : Nat := 0
def stSEC : Nat := 1
def stTH : Nat := 2
def stACT : Nat := 3
def stSCL : Nat := 11
def stOVT : Nat := 13
def stDZT : Nat := 14
def stSPLIT : Nat := 15

/-- The value of a general register: g0 reads as 0. -/
def Core.getG (c : Core) (r : GReg) : Word := if r = 0 then 0 else c.g[r]

/-- A write of a general register: one to g0 is discarded. -/
def Core.setG (c : Core) (r : GReg) (v : Word) : Core := if r = 0 then c else { c with g := c.g.set r.val v }

def Core.getC (c : Core) (k : Fin 64) : Word := c.c[k]
def Core.setC (c : Core) (k : Fin 64) (v : Word) : Core := { c with c := c.c.set k.val v }

def Core.st (c : Core) (i : Nat) : Bool := bit (c.getC 0) i
def Core.setSt (c : Core) (i : Nat) (b : Bool) : Core := c.setC 0 (putBits (c.getC 0) i 1 (b2n b))
def Core.act (c : Core) : Nat := getBits (c.getC 0) stACT 8
def Core.scl (c : Core) : Nat := getBits (c.getC 0) stSCL 2
def Core.sec (c : Core) : Bool := c.st stSEC

/-- FLAGS after an update. -/
def Core.flags (c : Core) (u : FlagUpd) : Core := c.setC 1 (u.apply (c.getC 1))

/-- Z alone (R105, R110, R111, R113). -/
def Core.setZ (c : Core) (z : Bool) : Core := c.flags { z := some z }

/-- The next instruction (R91). -/
def Core.next (c : Core) : Core := { c with pc := c.pc + 1 }

/-- The next instruction, except for one that a debugger supplied, whose end leaves PC (R216). -/
def Core.pass (c : Core) : Core := if c.dhalt then c else c.next

/-- g1 to g(n-1) cleared. -/
def Core.clearG (c : Core) (n : Nat) : Core := { c with g := Vector.ofFn fun (i : Fin 32) => if i.val < n then 0 else c.g[i] }

/-- SSCR0 to SSCR3 cleared. -/
def Core.clearSscr (c : Core) : Core := (((c.setC 28 0).setC 29 0).setC 30 0).setC 31 0

/-! Pairs (R67, R85, R192 to R214) -/

def attached (s : State) : Bool := s.fldB F.DBG_STAT_ATTACHED

/-- Does the core run beside its pair's other core without comparison, in a split pair or single? -/
def alone (s : State) (k : Fin 4) : Bool := s.split[pairOfCore k] || decide (s.pst (pairOfCore k) = psSingle)

/-- Replace a core's record; in a joined pair both cores hold it. -/
def State.setCore (s : State) (k : Fin 4) (c : Core) : State :=
  if alone s k || attached s then s.setCoreOnly k c
  else (s.setCoreOnly (leadOf (pairOfCore k)) c).setCoreOnly (shadowOf (pairOfCore k)) c

/-- Does the core issue on its own: every core that runs, but not the shadow of a joined pair? -/
def issuesAlone (s : State) (k : Fin 4) : Bool := alone s k || decide (k = leadOf (pairOfCore k))

/-- What a core issues its accesses as (R67, R68, R206): class min(SCL, 1) with STATUS.SPLIT. -/
def coreReq (c : Core) (k : Fin 4) : Req := ⟨k.val, if c.st stSPLIT then Nat.min c.scl 1 else c.scl, c.sec⟩

/-! Traps (R88) -/

def trILL : Nat := 0x01
def trPRIV : Nat := 0x02
def trFETCH : Nat := 0x03
def trADDR : Nat := 0x04
def trSECV : Nat := 0x05
def trCLASSV : Nat := 0x06
def trECC : Nat := 0x07
def trPOISON : Nat := 0x08
def trBUSERR : Nat := 0x09
def trTIMEOUT : Nat := 0x0A
def trSTERR : Nat := 0x0B
def trDZ : Nat := 0x0C
def trOVF : Nat := 0x0D
def trSECF : Nat := 0x0E
def trSWT : Nat := 0x0F
def trBRK : Nat := 0x10
def trPAIR : Nat := 0x11

/-- The trap that a core takes on a response (R70). -/
def trapOfResp (e : Nat) : Nat :=
  if e = respClass then trCLASSV
  else if e = respSec then trSECV
  else if e = respEcc then trECC
  else if e = respPoison then trPOISON
  else if e = respTimeout then trTIMEOUT
  else trBUSERR

/-- Why a trap is taken. -/
structure Cause where
  code : Nat
  detail : Nat
  tval : Word
  impr : Bool
  slot : Bool
deriving DecidableEq, Repr

def causeWord (t : Cause) : Word :=
  BitVec.ofNat 36 (t.code + t.detail % 2 ^ 8 * 2 ^ 6 + b2n t.impr * 2 ^ 14 + b2n t.slot * 2 ^ 15)

/-- Trap entry: PC, STATUS, cause and address saved, TH set, on at VBASE + CODE. -/
def trapEntry (c : Core) (pc : Word) (t : Cause) : Core :=
  let c1 := (((c.setC 5 pc).setC 6 (c.getC 0)).setC 7 (causeWord t)).setC 8 t.tval
  { c1.setSt stTH true with pc := c.getC 3 + BitVec.ofNat 36 t.code, wait := .none, slot0 := none, bpSkip := false, afterIret := false }

/-- A secure fault (R65): the session's registers are cleared, SEC falls, and trap SECF is taken in normal mode with
TEPC = SEC_EPC, or it is a double trap. -/
def secureFault (k : Fin 4) (detail : Nat) (impr slot : Bool) (s : State) : State :=
  let c := s.cores[k]
  let c := { (c.clearG 32).clearSscr.setSt stSEC false with firstSec := false }
  if c.st stTH then doubleTrap k (s.setCore k c)
  else s.setCore k (trapEntry c (c.getC 26) ⟨trSECF, detail, 0, impr, slot⟩)

/-- Taking a trap (R65, R88, R89). -/
def takeTrap (k : Fin 4) (t : Cause) (s : State) : State :=
  let c := s.cores[k]
  if c.sec then secureFault k t.code t.impr t.slot s
  else if c.st stTH then doubleTrap k s
  else s.setCore k (trapEntry c c.pc t)

/-- Return from a trap: PC and STATUS from TEPC and TSTAT, TH dipped; SEC and SPLIT stay (R88). -/
def trapReturn (c : Core) : Core :=
  let keep := (c.getC 0) &&& (maskBits stSEC 1 ||| maskBits stSPLIT 1)
  let st := (c.getC 6) &&& ~~~(maskBits stSEC 1 ||| maskBits stSPLIT 1 ||| maskBits stTH 1) &&& 0xFFFF
  { c.setC 0 (st ||| keep) with pc := c.getC 5 }

/-! Interrupts (R78 to R84) -/

/-- Highest level set in a mask of 8. -/
def highestLevel (m : Nat) : Nat := ((List.range 8).reverse.find? fun l => maskHas m l).getD 0

/-- May a core take a source of a level (R78)? -/
def takeable (c : Core) (level : Nat) : Bool :=
  (c.st stIE || decide (level = 7)) && !c.st stTH && !c.sec && decide (c.act < 2 ^ level)

/-- Save registers of a level. -/
def lepc (l : Nat) : Fin 64 := Fin.ofNat 64 (32 + l % 8)
def lstat (l : Nat) : Fin 64 := Fin.ofNat 64 (40 + l % 8)

/-- Entry of the handler of a source of a level: PC and STATUS saved, ACT bit set (R80). -/
def interruptSave (c : Core) (l : Nat) : Core :=
  let c1 := (c.setC (lepc l) c.pc).setC (lstat l) (c.getC 0)
  { c1.setSt (stACT + l % 8) true with wait := .none, slot0 := none, bpSkip := false, afterIret := false }

/-- Return from a handler: PC and STATUS from LEPC and LSTAT of the highest active level; SEC and SPLIT stay. -/
def interruptReturn (c : Core) : Core :=
  let l := highestLevel c.act
  let mask := maskBits stSEC 1 ||| maskBits stSPLIT 1
  { c.setC 0 (((c.getC (lstat l)) &&& ~~~mask &&& 0xFFFF) ||| ((c.getC 0) &&& mask)) with pc := c.getC (lepc l) }

/-- The clocks of the cores run again (R483). -/
def leaveIdle (s : State) : State :=
  if s.pwr.pstate = .idle then { s with pwr := { s.pwr with pstate := .run } } else s

/-- IDLE begins when every running core waits in WFI and IDLEEN is 1 (R483). -/
def enterIdle (s : State) : State :=
  if s.pwr.pstate = .run ∧ s.fldB F.PWR_CTRL_IDLEEN ∧ allWait s ∧ s.cores.toList.any coreRuns then
    { s with pwr := { s.pwr with pstate := .idle } }
  else s

/-- The source that the core would take now: the one that wins arbitration among those it may take (R78, R79). -/
def takeNow (s : State) (k : Fin 4) : Option Nat :=
  winner s (fun n => sourceFor s (codesOf s (targetOf k)) n && takeable s.cores[k] (s.fld (F.INT_CFG_LEVEL n)))

/-! Debug entry (R198, R216) -/

/-- The core halts in debug mode: the cause is recorded, its outstanding transactions are abandoned, and a wait ends: a WFI is
issued again after the resume, as are WAITF and JOIN, which never left it. -/
def debugEntry (k : Fin 4) (cause num : Nat) (s : State) : State :=
  let c := s.cores[k]
  let c := if c.wait = .wfi then { c with pc := c.pc - 1 } else c
  let c1 := ((c.setC 49 (BitVec.ofNat 36 (cause + 8 * num))).setC 58 c.pc).setC 59 (c.getC 0)
  let s := (abandon k.val s).setCore k
    { c1 with dhalt := true, wait := .none, stErr := [], slot0 := none, bpSkip := false, afterIret := false }
  let p := pairOfCore k
  pendSrc (16 + p.val) (s.setFld ⟨R.DBG_STAT, 2 + k.val, 1⟩ 1)

end Sys2Proof.Machine
end

