-- ==== Sys2Proof/Machine/MoagarExec.lean ====
section
/-! DEFINITION. The effect of each Moagar-36 instruction, and its issue at PC: fetch, breakpoints, pairing, result or trap
(R91 to R119). -/

namespace Sys2Proof.Machine

open Sys2Proof.Moagar

/-- What becomes of an instruction: it completes with the core and the lane as given; it takes a trap with the core's sticky
flags as given; it does not issue yet; or the lane is as given, the instruction having settled the core itself. -/
inductive MStep
  | done (c : Core) (s : State)
  | trap (c : Core) (code detail : Nat) (tval : Word) (s : State)
  | stall
  | settled (s : State)

/-! Results (R53, R55, R59) -/

/-- Trap ILL. -/
def illegal (c : Core) (s : State) : MStep := .trap c trILL 0 0 s

/-- Registers written and flags updated, or trap DZ or OVF in their place with the sticky flags hoisted (R53). -/
def result (c : Core) (fl : FlagUpd) (w : Core → Core) (s : State) : MStep :=
  if fl.dz && c.st stDZT then .trap (c.flags fl.sticky) trDZ 0 0 s
  else if fl.ov && c.st stOVT then .trap (c.flags fl.sticky) trOVF 0 0 s
  else .done ((w c).flags fl).next s

/-- A pair of registers written (R47). -/
def Core.setPair (c : Core) (rd : GReg) (hi lo : Word) : Core := (c.setG rd hi).setG (rd + 1) lo

def mulEff (op : MulOp) (rd ra rb rc : GReg) (c : Core) (s : State) : MStep :=
  let a := c.getG ra
  let b := c.getG rb
  let one := fun (o : AluOut) => result c o.fl (fun c => c.setG rd o.res) s
  let two := fun (o : PairOut) => if pairOk rd.val then result c o.fl (fun c => c.setPair rd o.hi o.lo) s else illegal c s
  match op with
  | .mul => one (aluMul a b)
  | .muls => one (aluMuls a b)
  | .mulw => two (aluMulw a b)
  | .mulwu => two (aluMulwu a b)
  | .mulq => one (aluMulq a b)
  | .mulqw => one (aluMulqw a b)
  | .madq => one (aluMadq a b (c.getG rc))

/-- A division: quotient first, then remainder, which stays when both name one register (R101). -/
def divEff (op : DivOp) (rd rc ra rb : GReg) (c : Core) (s : State) : MStep :=
  let o := aluD op (c.getG ra) (c.getG rb)
  result c o.fl (fun c => (c.setG rd o.q).setG rc o.r) s

def oxEff (rd ra : GReg) (j : BitVec 4) (sz : BitVec 2) (sx : Bool) (c : Core) (s : State) : MStep :=
  if pairOk ra.val then
    match oxOf (c.getG ra) (c.getG (ra + 1)) j sz sx with
    | some v => .done (c.setG rd v).next s
    | none => illegal c s
  else illegal c s

def oiEff (rd rb : GReg) (j : BitVec 4) (sz : BitVec 2) (c : Core) (s : State) : MStep :=
  if pairOk rd.val then
    match oiOf (c.getG rd) (c.getG (rd + 1)) (c.getG rb) j sz with
    | some p => .done (c.setPair rd p.1 p.2).next s
    | none => illegal c s
  else illegal c s

/-! Loads, stores, atomics (R72, R103 to R105) -/

def isDevice (a : Nat) : Bool := decide (0x800000 ≤ a)

/-- Does an access of n transactions wait: the core has too few free tags, or a device access would pass an earlier access (R67,
R72)? -/
def accessWaits (n : Nat) (c : Core) (k : Fin 4) (a : Nat) (s : State) : Bool :=
  decide (16 < inFlight c k s + n) || (isDevice a && decide (inFlight c k s ≠ 0))

/-- The trap of an error response to a load (R70). -/
def respTrap (c : Core) (e a : Nat) (s : State) : MStep := .trap c (trapOfResp e) e (BitVec.ofNat 36 a) s

/-- The effective address of a load or store, or trap ADDR. -/
def withAddr (c : Core) (ea : Word) (s : State) (f : Nat → MStep) : MStep :=
  if addrOk ea then f ea.toNat else .trap c trADDR 0 (addrLow ea) s

def ldEff (rd ra : GReg) (imm : BitVec 20) (f : Arrive) (k : Fin 4) (c : Core) (s : State) : MStep :=
  withAddr c (eaOf (c.getG ra) (immArith imm)) s fun a =>
    if accessWaits 1 c k a s then .stall
    else
      match busReadA f (coreReq c k) a s with
      | (t, e, v) => if e = respOk then .done (c.setG rd v).next t else respTrap c e a t

/-- A posted store: an error response stays on its way (R76). -/
def post (f : Arrive) (k : Fin 4) (c : Core) (a : Nat) (v : Word) (s : State) : Option (Core × State) :=
  match busWriteA f (coreReq c k) a v s with
  | (t, e) =>
    if e = respStall then none
    else some (if e = respOk then c else { c with stErr := c.stErr ++ [⟨(freeTag k.val s).getD 0, a, e⟩] }, t)

def stEff (rs ra : GReg) (imm : BitVec 20) (f : Arrive) (k : Fin 4) (c : Core) (s : State) : MStep :=
  withAddr c (eaOf (c.getG ra) (immArith imm)) s fun a =>
    if accessWaits 1 c k a s then .stall
    else
      match post f k c a (c.getG rs) s with
      | some (c, t) => .done c.next t
      | none => .stall

/-- Both addresses of LDP or STP, or trap ADDR (R104). -/
def withPair (c : Core) (r : GReg) (ea : Word) (s : State) (f : Nat → MStep) : MStep :=
  if !pairOk r.val then illegal c s
  else if !addrOk ea then .trap c trADDR 0 (addrLow ea) s
  else if !addrOk (ea + 1) then .trap c trADDR 0 (addrLow (ea + 1)) s
  else f ea.toNat

/-- Both transactions issue, whatever the first one answers (R104). -/
def ldpEff (rd ra : GReg) (imm : BitVec 20) (f1 f2 : Arrive) (k : Fin 4) (c : Core) (s : State) : MStep :=
  withPair c rd (eaOf (c.getG ra) (immArith imm)) s fun a =>
    if accessWaits 2 c k a s then .stall
    else
      match busReadA f1 (coreReq c k) a s with
      | (t, e, v) =>
        match busReadA f2 (coreReq c k) (a + 1) t with
        | (u, e2, w) =>
          if e ≠ respOk then respTrap c e a u
          else if e2 ≠ respOk then respTrap c e2 (a + 1) u
          else .done (c.setPair rd v w).next u

def stpEff (rs ra : GReg) (imm : BitVec 20) (f1 f2 : Arrive) (k : Fin 4) (c : Core) (s : State) : MStep :=
  withPair c rs (eaOf (c.getG ra) (immArith imm)) s fun a =>
    if accessWaits 2 c k a s then .stall
    else
      match post f1 k c a (c.getG rs) s with
      | none => .stall
      | some (c1, t) =>
        match post f2 k c1 (a + 1) (c.getG (rs + 1)) t with
        | some (c2, u) => .done c2.next u
        | none => .stall

def atomEff (op : AtomOp) (rd ra rb rc : GReg) (f : Arrive) (k : Fin 4) (c : Core) (s : State) : MStep :=
  withAddr c (c.getG ra) s fun a =>
    if accessWaits 1 c k a s then .stall
    else
      match busAtomicA f (coreReq c k) op a (c.getG rb) (c.getG rc) s with
      | (t, e, old) =>
        if e = respOk then
          let c1 := c.setG rd old
          .done (if op = .cas then c1.setZ (decide (old = c.getG rc)) else c1).next t
        else respTrap c e a t

/-! Control transfer (R106) -/

/-- A transfer to a target, or trap ADDR at the transferring instruction. -/
def transfer36 (c : Core) (target : Word) (w : Core → Core) (s : State) : MStep :=
  if addrOk target then .done { w c with pc := target } s else .trap c trADDR 0 (addrLow target) s

def bcondEff (cond : BitVec 4) (off : BitVec 24) (c : Core) (s : State) : MStep :=
  match condHolds (c.getC 1) cond with
  | none => illegal c s
  | some true => transfer36 c (c.pc + off.signExtend 36) id s
  | some false => .done c.next s

/-- CALL and CALLR write PC + 1 to g31. -/
def link (c : Core) : Core := c.setG 31 (c.pc + 1)

/-! Control registers (R57, R107, R108) -/

/-- Lead core's number while joined, own number while split (R57, R58). -/
def coreNumber (c : Core) (k : Fin 4) : Nat := if c.st stSPLIT then k.val else (leadOf (pairOfCore k)).val

def coreId (c : Core) (k : Fin 4) (s : State) : Word :=
  BitVec.ofNat 36 (coreNumber c k + b2n (c.st stSPLIT) * 2 ^ 4 + s.lane.val * 2 ^ 5 + 2 * 2 ^ 8)

def hi36 (x : DWord) : Word := BitVec.ofNat 36 (x.toNat / 2 ^ 36)
def lo36 (x : DWord) : Word := BitVec.ofNat 36 x.toNat

/-- A secure control register (R57). -/
def secureReg (k : Nat) : Bool := [24, 25, 28, 29, 30, 31].contains k

/-- A control register as MFC reads it; reading c11 latches c12 for its next read. -/
def readCtl (c : Core) (k : Fin 4) (n : Fin 64) (s : State) : Core × Word :=
  match n.val with
  | 2 => (c, coreId c k s)
  | 9 => (c, lo36 s.cycle)
  | 10 => (c, hi36 s.cycle)
  | 11 => ((c.setC 12 (hi36 s.ltime)).setC 11 1, lo36 s.ltime)
  | 12 => if c.getC 11 = 1 then (c.setC 11 0, c.getC 12) else (c, hi36 s.ltime)
  | 13 => (c, s.frame)
  | 14 => (c, BitVec.ofNat 36 (Nat.min (inFlight c k s) 16))
  | 15 => (c, 0)
  | _ => (c, if 48 = n.val ∨ 60 ≤ n.val then 0 else c.getC n)

def mfcEff (rd : GReg) (n : BitVec 6) (k : Fin 4) (c : Core) (s : State) : MStep :=
  let i := n.toNat
  if 48 ≤ i ∧ !c.dhalt then illegal c s
  else if secureReg i && !c.sec then .trap c trPRIV i 0 s
  else
    let p := readCtl c k (Fin.ofNat 64 i) s
    .done (p.1.setG rd p.2).next s

/-- STATUS after an MTC: IE, SCL, OVT and DZT. -/
def statusWrite (old v : Word) : Word :=
  let m : Word := maskBits stIE 1 ||| maskBits stSCL 2 ||| maskBits stOVT 1 ||| maskBits stDZT 1
  (old &&& ~~~m) ||| (v &&& m)

/-- FLAGS after an MTC: Z, N, C, V written, OV and DZ dipped where 1 is written (R60). -/
def flagsWrite (old v : Word) : Word := (v &&& 0xF) ||| (old &&& 0x30 &&& ~~~v)

/-- Read-only control registers outside the debug range. -/
def roReg (k : Nat) : Bool := decide (k = 2) || (decide (9 ≤ k) && decide (k ≤ 15)) || decide (k = 26) || decide (k = 27)

/-- Bits that a control register holds. -/
def ctlMask (k : Nat) : Word :=
  if k = 7 then 0xFFFF
  else if k = 24 ∨ k = 25 then 0xFFFFFF
  else if 50 ≤ k ∧ k ≤ 55 then 0x800FFFFFF
  else if k = 56 then 0xF
  else 0xFFFFFFFFF

/-- A halted core goes on (R216). -/
def debugResume (k : Fin 4) (s : State) : State :=
  let c := s.cores[k]
  if c.dhalt then
    s.setCore k { c with dhalt := false, bpSkip := true } |>.setFld ⟨R.DBG_STAT, 2 + k.val, 1⟩ 0
  else s

/-- A debug register written (R216): IBP, DWP, DWCTRL and DDATA; DSTAT, DPC and DSTATUS are read-only; c60 to c63 ignore
writes. -/
def debugReg (n : Nat) : Bool := decide (50 ≤ n) && decide (n ≤ 57)

def mtcEff (n : BitVec 6) (ra : GReg) (k : Fin 4) (c : Core) (s : State) : MStep :=
  let i := n.toNat
  let v := c.getG ra
  let r : Fin 64 := Fin.ofNat 64 i
  if 48 ≤ i then
    if !c.dhalt then illegal c s
    else if i = 48 then (if bit v 2 then .settled (debugResume k (s.setCore k c)) else .done c.next s)
    else if i = 49 ∨ i = 58 ∨ i = 59 then .trap c trPRIV i 0 s
    else if debugReg i then .done (c.setC r (v &&& ctlMask i)).next s
    else .done c.next s
  else if roReg i || (secureReg i && !c.sec) then .trap c trPRIV i 0 s
  else if i = 0 then
    if getBits v stSCL 2 = 3 ∧ !c.sec then .trap c trPRIV i 0 s
    else .done (c.setC 0 (statusWrite (c.getC 0) v)).next s
  else if i = 1 then .done (c.setC 1 (flagsWrite (c.getC 1) v)).next s
  else if i = 25 ∧ s.rwlLocked then .done c.next s
  else .done (c.setC r (v &&& ctlMask i)).next s

/-! System instructions (R107 to R116) -/

def wfiEff (k : Fin 4) (c : Core) (s : State) : MStep :=
  if routed s k then .done c.next s
  else .settled (enterIdle (s.setCore k { c.next with wait := .wfi, slot0 := none }))

/-- Is the core of the safety pair, and the pair not split (R114)? -/
def safetyIssuer (s : State) (k : Fin 4) : Bool :=
  isSafety s (pairOfCore k) && !alone s k

/-- A release is consumed: frame number, Z (R110). -/
def consume (rd : GReg) (r : Release) (c : Core) (s : State) : Core × State :=
  ({ ((c.setG rd r.frame).setZ r.compl).pass with wait := .none }, { s with lsc := { s.lsc with release := none } })

/-- WAITF consumes a release at once, or waits; a source that can be taken goes before the release (R83). -/
def waitfEff (rd : GReg) (k : Fin 4) (c : Core) (s : State) : MStep :=
  if safetyIssuer s k then
    let s := s.setFld F.LSC_STAT_JINH 0
    match (if (takeNow s k).isSome then none else s.lsc.release) with
    | some r => (fun p => .done p.1 p.2) (consume rd r c s)
    | none => .settled (s.setCore k { c with wait := .waitf rd, slot0 := none })
  else .trap c trPAIR 0 0 s

/-- XSUB. DEDUCED: from an issuer that R114 bars it takes trap PAIR before any access issues, so no response CLASSV comes to
it; a split core, whose class is 1 at most (R206), would otherwise never take PAIR. The address that its access carries is stated nowhere, so TVAL of its trap CLASSV is a free value (R88, R111). -/
def xsubEff (rd : GReg) (k : Fin 4) (c : Core) (s : State) : MStep :=
  if !safetyIssuer s k then .trap c trPAIR 0 0 s
  else if inFlight c k s ≠ 0 then .stall
  else if (coreReq c k).cls < 2 then .trap c trCLASSV respClass s.freeVal s.useFree
  else
    let p := xsub s
    .done ((c.setG rd (BitVec.ofNat 36 p.2)).setZ (decide (p.2 = 0))).next p.1

/-- SPLIT is forbidden to the safety pair in these lane states (R114). -/
def splitForbidden (s : State) : Bool :=
  decide (s.lstate = lsSyncing) || decide (s.lstate = lsVoting) || decide (s.lstate = lsWithdrawn)

def splitEff (rd : GReg) (k : Fin 4) (c : Core) (s : State) : MStep :=
  let p := pairOfCore k
  if c.st stSPLIT || c.sec || (isSafety s p && splitForbidden s) then .trap c trPAIR 0 0 s
  else
    let c1 := { (c.setSt stSPLIT true).next with slot0 := none }
    let own := fun (i : Fin 4) => c1.setG rd (BitVec.ofNat 36 i.val)
    let s := (s.setCoreOnly (leadOf p) (own (leadOf p))).setCoreOnly (shadowOf p)
      { own (shadowOf p) with stErr := [], run := s.cores[shadowOf p].run }
    let s := { s with split := s.split.set p.val true }
    .settled (if attached s then s else setPst p psSplit s)

/-- The timeout of a JOIN expired before the other core arrived: on split, with rd = 1 and Z = 0 (R113). -/
def joinExpired (rd : GReg) (c : Core) : Core :=
  { ((c.setG rd 1).setZ false).pass with wait := .none, joinLeft := none, joinOver := false }

/-- JOIN begins or resumes its wait; the timeout counts from its first issue, through a handler too (R113). -/
def joinEff (rd ra : GReg) (k : Fin 4) (c : Core) (s : State) : MStep :=
  if !c.st stSPLIT || c.sec then .trap c trPAIR 0 0 s
  else if c.joinOver then .done (joinExpired rd c) s
  else
    let n := getBits (c.getG ra) 0 24
    let left := match c.joinLeft with | some l => some l | none => some (if n = 0 then none else some n)
    .settled (s.setCore k { c with wait := .join rd, joinLeft := left, slot0 := none })

/-- HOIST and DIP are posted device writes to FLT; n above 143 is undefined (R115). -/
def flagEff (n : BitVec 8) (f : Nat → State → State) (k : Fin 4) (c : Core) (s : State) : MStep :=
  if 143 < n.toNat then illegal c s
  else if inFlight c k s ≠ 0 then .stall
  else .done c.next (f n.toNat s)

/-- SENTER: the gate word is read as a secure-class load before secure mode begins (R63, R116). -/
def senterEff (g : BitVec 6) (f : Arrive) (k : Fin 4) (c : Core) (s : State) : MStep :=
  if c.sec then .settled (secureFault k 0x40 false false (s.setCore k c))
  else
    withAddr c ((c.getC 25) + BitVec.ofNat 36 g.toNat) s fun a =>
      if accessWaits 1 c k a s then .stall
      else
        match busReadA f ⟨k.val, 3, true⟩ a s with
        | (t, e, v) =>
          if e ≠ respOk then respTrap c e a t
          else
            let c1 := ((c.setC 26 (c.pc + 1)).setC 27 (c.getC 24)).setSt stSEC true
            let c1 := { c1 with firstSec := false }
            if addrOk v then .done { c1 with pc := v } t
            else .settled (secureFault k 0x41 false false (t.setCore k c1))

/-- SEXIT. -/
def leaveSecure (c : Core) : Core := { c.setSt stSEC false with pc := c.getC 26, firstSec := false }

def sexitEff (zero : Bool) (c : Core) (s : State) : MStep :=
  if c.sec then .done (leaveSecure (if zero then (c.clearG 30).clearSscr else c)) s
  else .trap c trPRIV 0xFF 0 s

/-! The effect of an instruction -/

def mexec (i : MInstr) (f1 f2 : Arrive) (k : Fin 4) (c : Core) (s : State) : MStep :=
  match i with
  | .rrr op rd ra rb rc =>
    let o := aluR op (c.getG ra) (c.getG rb) (c.getG rc)
    result c o.fl (fun c => if op = .cmp then c else c.setG rd o.res) s
  | .rri op rd ra imm =>
    let o := aluI op (c.getG ra) imm
    result c o.fl (fun c => if op = .cmpi then c else c.setG rd o.res) s
  | .shi rd ra kind n =>
    match aluShi (c.getG ra) kind n with
    | some o => result c o.fl (fun c => c.setG rd o.res) s
    | none => illegal c s
  | .li rd imm => .done (c.setG rd (liOf imm)).next s
  | .lhi rd imm => .done (c.setG rd (lhiOf imm)).next s
  | .mul op rd ra rb rc => mulEff op rd ra rb rc c s
  | .div op rd rc ra rb => divEff op rd rc ra rb c s
  | .cvt op rd ra =>
    let o := aluC op (c.getG ra)
    result c o.fl (fun c => c.setG rd o.res) s
  | .ox rd ra j sz sx => oxEff rd ra j sz sx c s
  | .oi rd rb j sz => oiEff rd rb j sz c s
  | .ld rd ra imm => ldEff rd ra imm f1 k c s
  | .st rs ra imm => stEff rs ra imm f1 k c s
  | .ldp rd ra imm => ldpEff rd ra imm f1 f2 k c s
  | .stp rs ra imm => stpEff rs ra imm f1 f2 k c s
  | .atom op rd ra rb rc => atomEff op rd ra rb rc f1 k c s
  | .bcond cond off => bcondEff cond off c s
  | .call off => transfer36 c (c.pc + off.signExtend 36) link s
  | .jr ra imm => transfer36 c (eaOf (c.getG ra) (immArith imm)) id s
  | .callr ra imm => transfer36 c (eaOf (c.getG ra) (immArith imm)) link s
  | .nop => .done c.next s
  | .fence => if inFlight c k s = 0 then .done c.next s else .stall
  | .mfc rd n => mfcEff rd n k c s
  | .mtc n ra => mtcEff n ra k c s
  | .trap imm => .trap c trSWT imm.toNat 0 s
  | .brk => if attached s then .settled (debugEntry k 3 0 (s.setCore k c)) else .trap c trBRK 0 c.pc s
  | .tret => if c.st stTH then .done (trapReturn c) s else illegal c s
  | .iret => if c.act = 0 then illegal c s else .done (interruptReturn c) s
  | .wfi => wfiEff k c s
  | .waitf rd => waitfEff rd k c s
  | .xsub rd => xsubEff rd k c s
  | .split rd => splitEff rd k c s
  | .join rd ra => joinEff rd ra k c s
  | .hoist n => flagEff n softHoist k c s
  | .dip n => flagEff n dipFlag k c s
  | .senter g => senterEff g f1 k c s
  | .sexit => sexitEff false c s
  | .sexitz => sexitEff true c s
  | .undef => illegal c s

/-! Pairing (R59, R95) -/

/-- System instructions, LDP, STP, atomics and divisions issue alone. DESIGN CHOICE: so does an undefined encoding, of which the
conditions of R95 say nothing: its trap ILL is always that of slot 0. -/
def issuesInPairs (i : MInstr) : Bool :=
  match i with
  | .rrr .. | .rri .. | .shi .. | .li .. | .lhi .. | .mul .. | .cvt .. | .ox .. | .oi .. | .ld .. | .st .. => true
  | .bcond .. | .call .. | .jr .. | .callr .. => true
  | _ => false

def isMem (i : MInstr) : Bool := match i with | .ld .. | .st .. => true | _ => false
def isMul (i : MInstr) : Bool := match i with | .mul .. => true | _ => false
def isTransfer (i : MInstr) : Bool := match i with | .bcond .. | .call .. | .jr .. | .callr .. => true | _ => false

/-- General registers that an instruction of a pair writes. -/
def writesOf (i : MInstr) : List GReg :=
  match i with
  | .rrr op rd _ _ _ => if op = .cmp then [] else [rd]
  | .rri op rd _ _ => if op = .cmpi then [] else [rd]
  | .shi rd .. | .li rd _ | .lhi rd _ | .cvt _ rd _ | .ox rd .. | .ld rd .. => [rd]
  | .mul op rd .. => if op = .mulw ∨ op = .mulwu then [rd, rd + 1] else [rd]
  | .oi rd .. => [rd, rd + 1]
  | .call _ | .callr .. => [31]
  | _ => []

/-- General registers that an instruction of a pair reads. -/
def readsOf (i : MInstr) : List GReg :=
  match i with
  | .rrr _ _ ra rb rc => [ra, rb, rc]
  | .mul _ _ ra rb rc => [ra, rb, rc]
  | .rri _ _ ra _ | .shi _ ra _ _ | .cvt _ _ ra | .ld _ ra _ | .jr ra _ | .callr ra _ => [ra]
  | .ox _ ra .. => [ra, ra + 1]
  | .oi rd rb .. => [rb, rd, rd + 1]
  | .st rs ra _ => [rs, ra]
  | _ => []

/-- What the next instruction is checked against, when this one can stand in slot 0. -/
def pairSlot (i : MInstr) : Option Slot0 :=
  if issuesInPairs i && !isTransfer i then
    some { writes := ((writesOf i).filter (· ≠ 0)).map (·.val), mem := isMem i, mul := isMul i }
  else none

/-- Does the instruction issue in slot 1 beside the one before it? -/
def inSlot1 (prev : Option Slot0) (i : MInstr) : Bool :=
  match prev with
  | none => false
  | some p =>
    issuesInPairs i && !(p.mem && isMem i) && !(p.mul && isMul i) && (readsOf i).all fun r => !p.writes.contains r.val

/-! Breakpoints and watchpoints (R216) -/

def bpAddr (w : Word) (a : Nat) : Bool := bit w 35 && decide (getBits w 0 24 = a)

/-- The matching instruction breakpoint. -/
def ibpMatch (c : Core) : Option Nat :=
  (List.range 4).find? fun i => decide (c.pc.toNat < 2 ^ 24) && bpAddr (c.getC (Fin.ofNat 64 (50 + i))) c.pc.toNat

/-- Word addresses that an instruction reads or writes. -/
def dataAddrs (i : MInstr) (c : Core) : List (Nat × Bool × Bool) :=
  let at_ := fun (ra : GReg) (imm : BitVec 20) => (eaOf (c.getG ra) (immArith imm)).toNat
  match i with
  | .ld _ ra imm => [(at_ ra imm, true, false)]
  | .st _ ra imm => [(at_ ra imm, false, true)]
  | .ldp _ ra imm => [(at_ ra imm, true, false), (at_ ra imm + 1, true, false)]
  | .stp _ ra imm => [(at_ ra imm, false, true), (at_ ra imm + 1, false, true)]
  | .atom _ _ ra _ _ => [((c.getG ra).toNat, true, true)]
  | _ => []

/-- The matching data watchpoint. -/
def dwpMatch (i : MInstr) (c : Core) : Option Nat :=
  (List.range 2).find? fun n =>
    let m := getBits (c.getC 56) (2 * n) 2
    (dataAddrs i c).any fun d =>
      bpAddr (c.getC (Fin.ofNat 64 (54 + n))) d.1 && ((d.2.1 && maskHas m 0) || (d.2.2 && maskHas m 1))

/-! Issue (R91, R198) -/

/-- After an IRET a source that the restored state permits is taken before the next instruction (R80); a core halted by a
debugger takes none. -/
def mustTake (s : State) (k : Fin 4) : Bool := s.cores[k].afterIret && !s.cores[k].dhalt && (takeNow s k).isSome

def isIret (i : MInstr) : Bool := match i with | .iret => true | _ => false

/-- May the core issue now? The instruction before has ended by then, with all it writes: none reads a value not yet produced
(R96). -/
def canIssue (s : State) (k : Fin 4) : Bool :=
  decide (s.pwr.pstate = .run) && issuesAlone s k && decide (s.cores[k].run = .running)
    && decide (s.cores[k].wait = .none) && !mustTake s k

/-- An instruction of the core's stream or, in debug mode, one that the debugger supplies: its effect on the lane. -/
def runInstr (i : MInstr) (f1 f2 : Arrive) (k : Fin 4) (s : State) : State :=
  let c := s.cores[k]
  let slot := inSlot1 c.slot0 i
  match mexec i f1 f2 k c s with
  | .done c1 t => t.setCore k { c1 with slot0 := if slot then none else pairSlot i, bpSkip := false, afterIret := isIret i }
  | .trap c1 code detail tval t => takeTrap k ⟨code, detail, tval, false, slot⟩ (t.setCore k c1)
  | .stall => s
  | .settled t => t

/-- The fetch of the instruction at PC, as the fabric answers it (R71, R91): none when it may issue, else its trap. -/
def fetchTrap (f : Arrive) (k : Fin 4) (s : State) : State × Option Cause :=
  let c := s.cores[k]
  if addrOk c.pc && fetchable c.sec c.pc.toNat then
    match busFetch f (coreReq c k) c.pc.toNat s with
    | (t, e, _) => if e = respOk then (t, none) else (t, some ⟨trapOfResp e, e, c.pc, false, false⟩)
  else (s, some ⟨trFETCH, 0, c.pc, false, false⟩)

/-- An instruction that the debugger supplies is not fetched; PC moves on a control transfer only (R216). -/
def runSupplied (i : MInstr) (f1 f2 : Arrive) (k : Fin 4) (s : State) : State :=
  let pc := s.cores[k].pc
  let t := runInstr i f1 f2 k s
  let c := t.cores[k]
  if c.pc = pc + 1 then t.setCore k { c with pc := pc, slot0 := none } else t

/-- A matching breakpoint or watchpoint: debug entry with a debugger attached, else trap BRK, unless the instruction itself meets
a cause of a lower code (R88, R216). -/
def breakHit (k : Fin 4) (cause num : Nat) (slot : Bool) (i : MInstr) (f1 f2 : Arrive) (s : State) : State :=
  let c := s.cores[k]
  if attached s then debugEntry k cause num s
  else
    match mexec i f1 f2 k c s with
    | .stall => s
    | .trap c1 code detail tval t =>
      if code < trBRK then takeTrap k ⟨code, detail, tval, false, inSlot1 c.slot0 i⟩ (t.setCore k c1)
      else takeTrap k ⟨trBRK, 0, c.pc, false, slot⟩ s
    | _ => takeTrap k ⟨trBRK, 0, c.pc, false, slot⟩ s

/-- Issue of an instruction whose fetch the fabric answers as `f`: the core fetches at PC, a breakpoint or watchpoint stops it,
or it runs. -/
def issueAt (f : Arrive) (k : Fin 4) (i : MInstr) (f1 f2 : Arrive) (s : State) : State :=
  if canIssue s k then
    let c := s.cores[k]
    if c.dhalt then runSupplied i f1 f2 k s
    else
      match fetchTrap f k s with
      | (t, some tr) => takeTrap k tr t
      | (t, none) =>
        match (if c.bpSkip then none else ibpMatch c), (if c.bpSkip then none else dwpMatch i c) with
        | some n, _ => breakHit k 4 n false i f1 f2 t
        | none, some n => breakHit k 5 n (inSlot1 c.slot0 i) i f1 f2 t
        | none, none => runInstr i f1 f2 k t
  else s

/-- Issue of an instruction whose fetch is answered in time. -/
def issue (k : Fin 4) (i : MInstr) (f1 f2 : Arrive) (s : State) : State := issueAt .ok k i f1 f2 s

end Sys2Proof.Machine
end

