-- ==== Sys2Proof/Machine/CoreEvents.lean ====
section
/-! DEFINITION. What happens to a core beside the issue of its own instructions: the ends of its waits, the completion of a
JOIN, an imprecise store error, the end of a secure budget, and the debugger's control of it (R65, R76, R83, R109 to R113,
R212 to R216). -/

namespace Sys2Proof.Machine

open Sys2Proof.Moagar

/-- Would the word at PC issue in slot 1 beside the instruction before it, so that the core stands within a pair (R81, R95)? -/
def inPair (s : State) (k : Fin 4) : Bool :=
  let c := s.cores[k]
  c.slot0.isSome && addrOk c.pc && fetchable c.sec c.pc.toNat &&
    match busFetch .ok (coreReq c k) c.pc.toNat s with
    | (_, e, v) => decide (e = respOk) && inSlot1 c.slot0 (decode v)

/-- Does the core stand at a boundary at which an interrupt can be taken? Not within a pair (R81), and not during the copy of a
JOIN (R113). -/
def atBoundary (s : State) (k : Fin 4) : Bool :=
  clocked s && !inPair s k && issuesAlone s k && decide (s.cores[k].run = .running) && !s.cores[k].dhalt && !joinCopying (pairOfCore k) s

/-- INTERRUPT_ENTRY: the core takes the source that wins arbitration among those it may take (R79, R80). -/
def interruptEntry (k : Fin 4) (s : State) : State :=
  let c := s.cores[k]
  if atBoundary s k then
    match takeNow s k with
    | none => s
    | some n =>
      let c1 := interruptSave c (s.fld (F.INT_CFG_LEVEL n))
      let s := leaveIdle (acknowledge n s)
      let a := c.getC 4 + BitVec.ofNat 36 n
      -- a word that cannot be read leaves the handler's address open: a free value
      match (if addrOk a then busReadA .ok (coreReq c k) a.toNat s else (s, respBus, 0)) with
      | (s, e, v) =>
        let w := if e = respOk then v else s.freeVal
        let s := if e = respOk then s else s.useFree
        s.setCore k { c1 with pc := addrLow w }
  else s

def execInterruptEntry (k : Fin 4) (s : State) : Host.Outcome State Fault Refusal := .next (interruptEntry k s)

/-- Does the core run, waiting or not? -/
def coreLive (s : State) (k : Fin 4) : Bool := clocked s && issuesAlone s k && decide (s.cores[k].run = .running)

/-- STORE_ERROR_RESPONSE: the oldest error response to a posted store arrives; the core takes STERR at the next instruction
not yet retired (R76). -/
def storeErrorResponse (k : Fin 4) (s : State) : State :=
  let c := s.cores[k]
  match c.stErr with
  | [] => s
  | e :: r =>
    if coreLive s k then
      takeTrap k ⟨trSTERR, e.code, BitVec.ofNat 36 e.addr, true, false⟩ (leaveIdle (s.setCore k { c with stErr := r }))
    else s

def execStoreErrorResponse (k : Fin 4) (s : State) : Host.Outcome State Fault Refusal := .next (storeErrorResponse k s)

/-- SEC_BUDGET_EXPIRY: SEC_LEFT of a session with a budget has reached 0 (R63 to R65). -/
def secBudgetExpiry (k : Fin 4) (s : State) : State :=
  let c := s.cores[k]
  if coreLive s k && c.sec && !c.firstSec && decide (c.getC 24 ≠ 0) && decide (c.getC 27 = 0) then
    secureFault k 0x3F false false (leaveIdle s)
  else s

def execSecBudgetExpiry (k : Fin 4) (s : State) : Host.Outcome State Fault Refusal := .next (secBudgetExpiry k s)

/-- WFI_RESUME: an enabled source routed to the core's target is pending; the clocks of the cores run again (R109, R483). -/
def wfiResume (k : Fin 4) (s : State) : State :=
  if coreLive s k && decide (s.cores[k].wait = .wfi) && routed s k then
    leaveIdle (s.setCore k { s.cores[k] with wait := .none })
  else s

def execWfiResume (k : Fin 4) (s : State) : Host.Outcome State Fault Refusal := .next (wfiResume k s)

/-- WAITF_RESUME: a waiting WAITF consumes the release, unless a source can be taken, which goes first (R83, R110). -/
def waitfResume (k : Fin 4) (s : State) : State :=
  match s.cores[k].wait, s.lsc.release with
  | .waitf rd, some r =>
    if coreLive s k && (takeNow s k).isNone then
      let p := consume rd r s.cores[k] s
      p.2.setCore k p.1
    else s
  | _, _ => s

def execWaitfResume (k : Fin 4) (s : State) : Host.Outcome State Fault Refusal := .next (waitfResume k s)

/-- Control registers that JOIN copies (R113). -/
def joinCopies (i : Nat) : Bool := decide (i ≤ 1) || (decide (3 ≤ i) && decide (i ≤ 8)) || (decide (16 ≤ i) && decide (i ≤ 47))

/-- The shadow's record after the copy. -/
def joinCopy (lead shadow : Core) : Core :=
  { lead with c := Vector.ofFn fun (i : Fin 64) => if joinCopies i.val then lead.c[i] else shadow.c[i] }

/-- JOIN_COMPLETE: both cores wait in JOIN with no access outstanding; the lead's registers are copied, and the pair goes on
in lock-step after the lead's JOIN (R212, R213). -/
def joinComplete (p : Fin 2) (s : State) : State :=
  let a := s.cores[leadOf p]
  let b := s.cores[shadowOf p]
  match a.wait, b.wait with
  | .join rd, .join _ =>
    if clocked s && joinCopying p s then
      let c := ((a.setSt stSPLIT false).setG rd 0).setZ true
      let c := { c.pass with wait := .none, joinLeft := none, slot0 := none }
      let s := (s.setCoreOnly (leadOf p) c).setCoreOnly (shadowOf p) (joinCopy c b)
      let s := { s with split := s.split.set p.val false }
      if attached s then s else setPst p psJoined s
    else s
  | _, _ => s

def execJoinComplete (p : Fin 2) (s : State) : Host.Outcome State Fault Refusal := .next (joinComplete p s)

/-- JOIN_TIMEOUT: the timeout has run out before the other core arrived; the core goes on split with rd = 1 and Z = 0. An
arrival in that cycle completes the join (R113). -/
def joinTimeout (k : Fin 4) (s : State) : State :=
  let c := s.cores[k]
  match c.wait with
  | .join rd =>
    if coreLive s k && (c.joinOver || decide (c.joinLeft = some (some 0)) && !joinWaits s.cores[otherCore k]) then
      s.setCore k (joinExpired rd c)
    else s
  | _ => s

def execJoinTimeout (k : Fin 4) (s : State) : Host.Outcome State Fault Refusal := .next (joinTimeout k s)

/-! The debugger (R214 to R216) -/

/-- The word at a core's PC as the step executes it. -/
def stepWord (k : Fin 4) (s : State) : MInstr :=
  let c := s.cores[k]
  if addrOk c.pc then decode (busFetch .ok (coreReq c k) c.pc.toNat s).2.2 else .undef

/-- A halt of a core by the debugger (cause 1), or the end of a step (cause 2). -/
def debugHalt (k : Fin 4) (cause : Nat) (s : State) : State :=
  if attached s && coreLive s k && !s.cores[k].dhalt then debugEntry k cause 0 (leaveIdle s) else s

/-- DCTRL.STEP: one instruction pair, then a halt with cause 2. -/
def debugStep (k : Fin 4) (s : State) : State :=
  if s.cores[k].dhalt then
    let s := debugResume k s
    let s := s.setCore k { s.cores[k] with slot0 := none }
    let s1 := issue k (stepWord k s) .ok .ok s
    -- the second instruction of the pair, when it can stand in slot 1 (R95)
    let s2 := if inSlot1 s1.cores[k].slot0 (stepWord k s1) then issue k (stepWord k s1) .ok .ok s1 else s1
    debugHalt k 2 s2
  else s

/-- The effect of DCTRL. DESIGN CHOICE: of several bits set in one write the debugger's takes HALT before STEP before RESUME, and
an MTC of the halted core, which cannot be asked to halt again, takes RESUME before STEP; the spec gives no order (R216). -/
def debugControl (k : Fin 4) (v : Word) (s : State) : State :=
  if bit v 0 then debugHalt k 1 s
  else if bit v 1 then debugStep k s
  else if bit v 2 then debugResume k s
  else s

/-- MTC. To DCTRL in debug mode, STEP executes one pair (R216). -/
def execMtc (k : Fin 4) (n : BitVec 6) (ra : GReg) (s : State) : Host.Outcome State Fault Refusal :=
  let t := issue k (.mtc n ra) .ok .ok s
  .next (if n = 48 ∧ canIssue s k ∧ s.cores[k].dhalt ∧ bit (s.cores[k].getG ra) 1 ∧ !bit (s.cores[k].getG ra) 2 then debugStep k t else t)

end Sys2Proof.Machine
end

