-- ==== Sys2Proof/Machine/DmaRun.lean ====
section
/-! DEFINITION. The transfers of the DMA: words moved, end, error and stop (R477, R478, R481). -/

namespace Sys2Proof.Machine

/-- Source and destination after one more word. -/
def dmaStep (r : DmaRun) : DmaRun :=
  { r with
    src := if r.sinc then (r.src + 1) % 2 ^ 24 else r.src
    dst := if r.dinc then (r.dst + 1) % 2 ^ 24 else r.dst
    cnt := r.cnt - 1
    moved := r.moved + 1 }

/-- What the DMA issues its accesses as. -/
def dmaReq (r : DmaRun) : Req := ⟨8, r.cls, false⟩

/-- One word: its read, then its write, each as the fabric answers it; the first response code that is not OK. -/
def dmaWord (fr fw : Arrive) (r : DmaRun) (s : State) : State × Nat :=
  match busReadA fr (dmaReq r) r.src s with
  | (s, e, v) => if e = respOk then busWriteA fw (dmaReq r) r.dst v s else (s, e)

/-- Move up to n words; the run after them and the response that stopped it, OK when none did. -/
def dmaCopy : Nat → DmaRun → State → State × DmaRun × Nat
  | 0, r, s => (s, r, respOk)
  | n + 1, r, s =>
    if r.cnt = 0 then (s, r, respOk)
    else
      match dmaWord .ok .ok r s with
      | (t, e) => if e = respOk then dmaCopy n (dmaStep r) t else (t, r, e)

/-- Words still to move, as DMA_STATc shows them. -/
def dmaLeft (c : Fin 8) (r : DmaRun) (s : State) : State :=
  { s.setFld (F.DMA_STAT_LEFT c.val) r.cnt with dma := s.dma.set c.val (some r) }

/-- The channel is disabled at the end of a transfer that software started, or by an error. -/
def dmaOff (c : Fin 8) (s : State) : State := s.setFld (F.DMA_CTL_EN c.val) 0

/-- DMA_TRANSFER_END: the last write of the transfer completes; `wlost` writes were repeated (R477, R478). -/
def dmaTransferEnd (c : Fin 8) (wlost : Nat) (s : State) : State :=
  match s.dma[c] with
  | none => s
  | some r =>
    match dmaCopy r.cnt r s with
    | (t, r', e) =>
      if e = respOk then
        let t := dmaIdle c (dmaLeft c r' (t.incFld F.DMA_WLCNT_CNT wlost))
        pendSrc (232 + c.val) (if t.fldB (F.DMA_CTL_TEN c.val) then t else dmaOff c t)
      else s

def execDmaTransferEnd (c : Fin 8) (wlost : Nat) (s : State) : Host.Outcome State Fault Refusal :=
  .next (whenClocked (dmaTransferEnd c wlost) s)

/-- The channel stops with a response code (R478). -/
def dmaFail (c : Fin 8) (e : Nat) (s : State) : State :=
  let s := (s.setFld (F.DMA_STAT_RESP c.val) e).setFld (F.DMA_STAT_ERR c.val) 1
  pendSrc (240 + c.val) (dmaOff c (dmaIdle c s))

/-- DMA_ERROR: `k` words after those already moved, the read or the write of a word gets an error response other than
WLOST; `fr` and `fw` are how the fabric answers that word (R478). -/
def dmaError (c : Fin 8) (k : Nat) (fr fw : Arrive) (s : State) : State :=
  match s.dma[c] with
  | none => s
  | some r =>
    match dmaCopy k r s with
    | (t, r', e) =>
      if e = respOk then
        if r'.cnt = 0 then s
        else
          match dmaWord fr fw r' t with
          | (u, e) => if e = respOk ∨ e = respStall then s else dmaFail c e (dmaLeft c r' u)
      else if e = respStall then s
      else dmaFail c e (dmaLeft c r' t)

def execDmaError (c : Fin 8) (k : Nat) (fr fw : Arrive) (s : State) : Host.Outcome State Fault Refusal :=
  .next (whenClocked (dmaError c k fr fw) s)

/-- DMA_STOP: after `k` more words a write of EN = 0 arrives (R478). -/
def dmaStop (rq : Req) (c : Fin 8) (k : Nat) (s : State) : State :=
  let s := match s.dma[c] with
    | none => s
    | some r =>
      match dmaCopy k r s with
      | (t, r', e) => if e = respOk then dmaLeft c r' t else s
  (busWrite rq (R.DMA_CTL c.val) (putBits (s.reg (R.DMA_CTL c.val)) 0 1 0) s).1

def execDmaStop (rq : Req) (c : Fin 8) (k : Nat) (s : State) : Host.Outcome State Fault Refusal :=
  .next (whenClocked (dmaStop rq c k) s)

end Sys2Proof.Machine
end

