-- ==== Sys2Proof/Machine/Fce.lean ====
section
/-! DEFINITION. The runs of a Field Control Engine and the check of a loaded image (R299 to R322). -/

namespace Sys2Proof.Machine

/-- What an engine issues as (R67, R301). -/
def fceReq (n : Fin 2) (s : State) : Req := ⟨4 + n.val, s.fld (F.FCE_CFG_CLS n.val), false⟩

/-- Reads in order: the state after them, whether all were OK, the words. -/
def readAll (r : Req) : List Nat → State → State × Bool × List Word
  | [], s => (s, true, [])
  | a :: as, s =>
    match busReadA .ok r a s with
    | (s, e, v) =>
      match readAll r as s with
      | (s, ok, l) => (s, decide (e = respOk) && ok, v :: l)

/-! Acquire (R301, R302, R317, R321) -/

/-- The lane's SAFE action for the bank; none outside SAFE (R168). -/
def safeAction (n : Fin 2) (s : State) : Option Nat :=
  if s.hal.safe then some (if n = 0 then s.fld F.HAL_SAFECFG_SB0 else s.fld F.HAL_SAFECFG_SB1) else none

/-- Does the engine regulate under R321: action hold or release? -/
def safeRegulates (n : Fin 2) (s : State) : Bool :=
  match safeAction n s with
  | some a => decide (2 ≤ a)
  | none => false

/-- The descriptor that stands for IDLE in a catching run with COMHO. -/
def idleDsc : List Word := List.replicate 32 0

/-- What a run works on: descriptor number and words (number 4 is the IDLE of COMHO), its TYPE as the run treats it, whether
it tracks, the angle difference of the sample, the words read from the set, speed and position. -/
structure FceIn where
  index : Nat
  dsc : List Word
  type : Nat
  track : Bool
  refs : List Word
  omega : Word
  pos : Word
  ok : Bool
deriving DecidableEq, Repr

/-- Is the bank tripped by any source (R235)? -/
def bankTripped (n : Fin 2) (s : State) : Bool :=
  decide (s.fld (F.PWM_STAT_TSTATE n.val) ≠ 0) || decide (resolvedTrip n.val s ≠ 0)

/-- The values of the acquire cycle that come over the fabric, and the descriptor that they select. -/
def acquire (n : Fin 2) (s : State) : State × FceIn :=
  let r := fceReq n s
  let img := activeImage n s
  let base := s.fld F.XLA_OSBASE_OSBASE + 16 + 16 * s.fld F.XLA_COMMIT_BUF
  let track := bankTripped n s || s.fce[n].last.isNone
  let held := safeRegulates n s
  let phase := s.fld (F.COM_STAT_PHASE n.val)
  let com := s.fldB (F.FCE_CFG_COMHO n.val)
  match (if held then (s, true, [BitVec.ofNat 36 (s.fld (F.FCE_STAT_DSC n.val))])
    else readAll r [base + s.fld (F.FCE_CFG_MIDX n.val)] s) with
  | (s, ok0, m) =>
    let i := getBits (wAt m 0) 0 2
    let i := if com && !held && decide (phase = 2) then s.fld (F.FCE_CFG_SSDSC n.val) else i
    let idle := com && !held && decide (phase = 1)
    let d := if idle then idleDsc else descriptor img i
    let type := if held then 2 else dType d
    match readAll r (if held then [] else (refsUsed type).map fun k => base + dRef d k) s with
    | (s, ok1, refs) =>
      match readAll r (if dSpden d then [dSpda d] else []) s with
      | (s, ok2, om) =>
        match readAll r (if type = 4 then [dPosa d] else []) s with
        | (s, ok3, pw) =>
          (s, { index := if idle then 4 else i, dsc := d, type := type, track := track, refs := refs
                omega := wAt om 0, pos := wAt pw 0, ok := ok0 && ok1 && ok2 && ok3 })

/-- The first reason to skip a run; 0 none (R302). Reasons 1 to 3 do not apply to IDLE and DUTY. -/
def skipReason (n : Fin 2) (plain : Bool) (ok : Bool) (s : State) : Nat :=
  let i := n.val
  if !plain && (s.fldB (F.ISN_QUAL_STALE i) || decide (s.fld (F.FCE_CFG_AGEL i) < s.fld (F.ISN_QUAL_AGE i))) then 1
  else if !plain && !s.fldB (F.COM_STAT_AVALID i) then 2
  else if !plain && decide ((s.reg R.ISN_VBUS).toInt < (s.reg (R.FCE_VBMIN i)).toInt) then 3
  else if !ok then 4 else 0

/-! The compares (R314) -/

/-- The other engine's compares still to be waited for under LDAL 10b. -/
def awaitsOther (n : Fin 2) (s : State) : Bool :=
  let o := 1 - n
  s.fldB (F.FCE_CTRL_EN o.val) && !s.fldB (F.FCE_CTRL_TRIG o.val) && !s.fce[o].skipped && !s.fce[o].wrote

/-- The other engine's LOADALL, when it waited for this one. -/
def releaseOther (n : Fin 2) (s : State) : State :=
  let o := 1 - n
  if s.fce[o].loadWait then fceLoadAll o (setFce o (fun h => { h with loadWait := false }) s) else s

/-- The compare writes of a run with three duties. -/
def writeDuties (n : Fin 2) (duties : List Word) (s : State) : State :=
  let aper := s.fld (F.PWM_APER_APER 0)
  let r := fceReq n s
  forN 3 (fun k s => (busWriteA .ok r (R.PWM_CMP n.val k) (BitVec.ofNat 36 (compareOf aper (wAt duties k))) s).1) s

/-- LOADALL after a run's compare writes under LDAL, and the other engine's that waited for them. -/
def afterWrites (n : Fin 2) (ldal : Nat) (s : State) : State :=
  let s := setFce n (fun h => { h with wrote := true }) s
  let s :=
    if ldal = 0 then s
    else if ldal = 2 ∧ awaitsOther n s then setFce n (fun h => { h with loadWait := true }) s
    else fceLoadAll n s
  releaseOther n s

/-- A run of this frame writes no compare: the other engine does not wait for it (DESIGN CHOICE for a run that is not
skipped). -/
def noCompares (n : Fin 2) (s : State) : State := releaseOther n (setFce n (fun h => { h with skipped := true }) s)

/-! Stages -/

/-- Angles, transform and limits of a run (R307, R308, R310, R312). -/
structure FceEnv where
  ths : Word
  tho : Word
  id : Word
  iq : Word
  vbus : Word
  vmax : Word
  /-- Current limit L, and the bounds of iq*. -/
  lim : Word
  qlo : Word
  qhi : Word
deriving DecidableEq, Repr

def fceEnv (n : Fin 2) (a : FceIn) (s : State) : FceEnv :=
  let i := n.val
  let ts := s.reg (R.ISN_TS i)
  let ths := s.reg (R.COM_ANG i) + advance a.omega (ts - s.reg (R.COM_ATS i)).toInt
  let tho := ths + advance a.omega (dAdv a.dsc)
  let dq := park (s.reg (R.ISN_IU i)) (s.reg (R.ISN_IV i)) (s.reg (R.ISN_IW i)) (cosWord ths) (sinWord ths)
  let half := s.fldB F.HAL_RSTAT_HALFMAST || (s.hal.safe && s.hal.safeHm)
  let auth := s.fld F.HAL_HMCFG_AUTH
  let lim := if half then mulq (dImax a.dsc) (if auth = 0xFFFF then sOne else BitVec.ofNat 36 (auth * 2 ^ 16)) else dImax a.dsc
  let rg := s.fldB (F.FCE_CTRL_RGCL i)
  let pos := decide (0 < a.omega.toInt)
  let neg := decide (a.omega.toInt < 0)
  let vbus := s.reg R.ISN_VBUS
  { ths := ths, tho := tho, id := dq.1, iq := dq.2, vbus := vbus, vmax := mulq (dVlim a.dsc) vbus, lim := lim
    qlo := if rg && (pos || !dSpden a.dsc) then 0 else 0 - lim
    qhi := if rg && (neg || !dSpden a.dsc) then 0 else lim }

/-- Row, column and gain set (R309). -/
def fceRegion (n : Fin 2) (fresh : Bool) (a : FceIn) (e : FceEnv) (s : State) : Nat × Nat × Nat :=
  let bp := fun (f : List Word → Nat → Word) => (List.range 7).map fun j => f a.dsc (j + 1)
  let row := regionStep fresh (s.fld (F.FCE_REGN_ROW n.val)) (bp dSbp) (dShys a.dsc) (absS a.omega)
  let col := regionStep fresh (s.fld (F.FCE_REGN_COL n.val)) (bp dCbp) (dChys a.dsc) (absS e.iq)
  let g := if dSched a.dsc then getBits (wAt (activeImage n s) (0x80 + 8 * row + col)) 0 4 else dGset a.dsc
  (row, col, g)

/-- What a hand-over starts from: the outgoing vd, vq and duties, and regulator 2's target (R318). -/
structure FceOut where
  vd : Word
  vq : Word
  duties : List Word
  iq : Word
deriving DecidableEq, Repr

/-- The outgoing output of the last run; `none` when this run is no hand-over. -/
def outgoing (n : Fin 2) (l : FceLast) (a : FceIn) (e : FceEnv) (s : State) : FceOut :=
  let kept := decide (l.kind = .volt) || decide (l.kind = .current)
  let vd := if kept then s.reg (R.FCE_VD n.val) else 0
  let vq := if kept then s.reg (R.FCE_VQ n.val) else mulq (dKe a.dsc) a.omega
  let duties :=
    if l.kind = .idle ∨ l.kind = .tracking then modulate (dSvm a.dsc) vd vq (cosWord e.tho) (sinWord e.tho) e.vbus else l.duties
  let iq := match l.refs with
    | some r => r.2
    | none => if l.kind = .tracking then 0 else e.iq
  ⟨vd, vq, duties, iq⟩

/-- Is the run a hand-over (R317, R320, R321)? -/
def isHandover (l : FceLast) (a : FceIn) : Bool :=
  decide (l.kind = .tracking) || decide (l.index ≠ a.index) || decide (l.dsc ≠ a.dsc)
    || (decide (a.type = 2) && decide (l.kind ≠ .current))

/-- The regulators of a run (R311, R318): steps 0 and 1 with the integrators of 2 and 3, and the current references. -/
structure FceRegs where
  r0 : RegStep
  r1 : RegStep
  i2 : Word
  i3 : Word
  idr : Word
  iqr : Word
deriving DecidableEq, Repr

/-- One regulator: a step, or the preload of a hand-over to its target. -/
def regOf (target : Option Word) (kp ki e i ilim lo hi : Word) : RegStep :=
  match target with
  | some y => preload kp e y ilim lo hi
  | none => regulate kp ki e i ilim lo hi

def fceRegs (n : Fin 2) (g : Nat) (ho : Option FceOut) (a : FceIn) (e : FceEnv) (s : State) : FceRegs :=
  let d := a.dsc
  let img := activeImage n s
  let i := fun (k : Nat) => s.reg (R.FCE_INTG n.val k)
  let reg := fun (k : Nat) (t : Option Word) (err lo hi : Word) =>
    regOf t (gainKp img g k) (gainKi img g k) err (i k) (dIlim d k) lo hi
  let own := fun (k : Nat) (t : Option Word) (err : Word) => reg k t err (0 - dOlim d k) (dOlim d k)
  let r3 := own 3 (ho.map fun _ => a.omega) (subS (wAt a.refs 0) a.pos)
  let wref := if a.type = 4 then r3.y else wAt a.refs 0
  let r2 := reg 2 (ho.map (·.iq)) (subS wref a.omega) (maxI e.qlo (0 - dOlim d 2)) (minI e.qhi (dOlim d 2))
  let speed := decide (a.type = 3) || decide (a.type = 4)
  let idr := clampS (if speed then wAt a.refs 1 else wAt a.refs 0) (0 - e.lim) e.lim
  let iqr := if speed then r2.y else clampS (wAt a.refs 1) e.qlo e.qhi
  { r0 := own 0 (ho.map (·.vd)) (subS idr e.id), r1 := own 1 (ho.map (·.vq)) (subS iqr e.iq)
    i2 := if speed then r2.new else i 2, i3 := if a.type = 4 then r3.new else i 3, idr := idr, iqr := iqr }

/-! Hand-over bookkeeping (R319) -/

/-- The step D0 of a hand-over is measured, HOJ may be hoisted, and the blend of its frame 0 begins or, with HOF 0, ends. -/
def beginHandover (n : Fin 2) (step : List Word) (onDuty : Bool) (s : State) : State :=
  let i := n.val
  let tol := (s.reg (R.FCE_HOTOL i)).toInt
  let s := if step.any fun x => decide (tol < (absS x).toInt) then pendSrc (fceSrc n 3) (hoistFlag 47 s) else s
  let hof := s.fld (F.FCE_HOCFG_HOF i)
  if hof = 0 then endHandover n s
  else
    setFce n (fun h => { h with ho := some ⟨step, onDuty, 0⟩ }) ((s.setFld (F.FCE_STAT_HO i) 1).setFld (F.FCE_STAT_HOK i) hof)

/-- Component k of the blend in progress, on vd and vq or on the duties. -/
def blendOf (n : Fin 2) (onDuty : Bool) (k : Nat) (s : State) : Word :=
  match s.fce[n].ho with
  | some h =>
    if h.onDuty = onDuty then mulq (wAt h.step k) (hoFactor (s.fld (F.FCE_HOCFG_HOF n.val)) h.k) else 0
  | none => 0

def subAll (xs ys : List Word) : List Word := (xs.zip ys).map fun p => subS p.1 p.2

/-- The duties with the blend of a hand-over on duties. -/
def blendDuties (n : Fin 2) (ds : List Word) (s : State) : List Word :=
  (List.range 3).map fun k => clampDuty (addS (wAt ds k) (blendOf n true k s))

/-! Runs -/

/-- A run ends: source 96 or 104. -/
def runDone (n : Fin 2) (s : State) : State := pendSrc (fceSrc n 0) (setFce n (fun h => { h with run := none }) s)

/-- The compares are written; the run waits for the response to the last one. -/
def runWrites (n : Fin 2) (acq : Word) (a : FceIn) (duties : List Word) (s : State) : State :=
  let ts := s.reg (R.ISN_TS n.val)
  let s := writeDuties n duties s
  setFce n (fun h => { h with run := some ⟨acq, ts, a.omega, dLdal a.dsc⟩ }) s

def setLast (n : Fin 2) (l : FceLast) (s : State) : State := setFce n (fun h => { h with last := some l }) s

/-- Descriptor and phase of a run that is not skipped. -/
def showRun (n : Fin 2) (a : FceIn) (phase : Nat) (s : State) : State :=
  let s := if a.index < 4 then s.setFld (F.FCE_STAT_DSC n.val) a.index else s
  s.setFld (F.FCE_STAT_PHASE n.val) phase

/-- FCEn_ID to FCEn_THO take the values of the run (R315). -/
def showVectors (n : Fin 2) (e : FceEnv) (vd vq : Word) (s : State) : State :=
  let i := n.val
  let s := ((s.setReg (R.FCE_ID i) e.id).setReg (R.FCE_IQ i) e.iq).setReg (R.FCE_VD i) vd
  (s.setReg (R.FCE_VQ i) vq).setReg (R.FCE_THO i) e.tho

/-- A tracking run (R320). -/
def trackingRun (n : Fin 2) (acq : Word) (a : FceIn) (s : State) : State :=
  let i := n.val
  let s := if s.fld (F.FCE_STAT_PHASE i) = 3 then s else pendSrc (fceSrc n 7) s
  let s := showRun n a 3 s
  let e := fceEnv n a s
  let vq := mulq (dKe a.dsc) a.omega
  let vd := clampS 0 (0 - e.vmax) e.vmax
  let q := quadLimit e.vmax vd
  let vq := clampS vq (0 - q) q
  let duties := modulate (dSvm a.dsc) vd vq (cosWord e.tho) (sinWord e.tho) e.vbus
  let writes := decide (skipReason n false a.ok s = 0)
  let prev := match s.fce[n].last with | some l => l.duties | none => []
  let s := setLast n ⟨.tracking, a.index, a.dsc, if writes then duties else prev, none, (e.id, e.iq)⟩ s
  let s := setFce n (fun h => { h with fresh := true }) s
  if writes then
    runWrites n acq a duties (showVectors n e vd vq s)
  else runDone n (noCompares n s)

/-- A DUTY run (R305, R313). It forms no vd and no vq, so these registers take free values; id and iq are those of its sample, which
R321 may ask for. -/
def dutyRun (n : Fin 2) (acq : Word) (a : FceIn) (l : FceLast) (s : State) : State :=
  let s := showRun n a 2 s
  let e := fceEnv n a s
  let ds := (List.range 3).map fun k => clampDuty (wAt a.refs k)
  let s := if isHandover l a then beginHandover n (subAll (outgoing n l a e s).duties ds) true s else s
  let ds := blendDuties n ds s
  let vd := s.freeVal
  let s := s.useFree
  let s := showVectors n e vd s.freeVal s.useFree
  runWrites n acq a ds (setLast n ⟨.duty, a.index, a.dsc, ds, none, (e.id, e.iq)⟩ s)

/-- A run with transforms: VOLT, CURR, SPEED, POS, and the regulation of SAFE. -/
def loopRun (n : Fin 2) (acq : Word) (a : FceIn) (l : FceLast) (s : State) : State :=
  let i := n.val
  let s := showRun n a 2 s
  let e := fceEnv n a s
  let reg := fceRegion n (s.fce[n].fresh) a e s
  let s := setFce n (fun h => { h with fresh := false }) s
  let s := ((s.setFld (F.FCE_REGN_ROW i) reg.1).setFld (F.FCE_REGN_COL i) reg.2.1).setFld (F.FCE_REGN_GSET i) reg.2.2
  let ho := isHandover l a
  let out := outgoing n l a e s
  let rs := fceRegs n reg.2.2 (if ho then some out else none) a e s
  let volt := decide (a.type = 1)
  let plain : Word → RegStep := fun v => ⟨v, 0, 0, v⟩
  let r0 := if volt then plain (wAt a.refs 0) else rs.r0
  let r1 := if volt then plain (wAt a.refs 1) else rs.r1
  let onDuty := decide (l.kind = .duty)
  let c := cosWord e.tho
  let sn := sinWord e.tho
  let wide : Word := wrap36 i36Max
  let limits := fun (b0 b1 : Word) =>
    let p0 := limitVolt r0 (if volt then wide else dOlim a.dsc 0) b0 (0 - e.vmax) e.vmax
    let q := quadLimit e.vmax p0.1
    (p0, limitVolt r1 (if volt then wide else dOlim a.dsc 1) b1 (0 - q) q)
  let first := limits 0 0
  let s :=
    if ho then
      if onDuty then beginHandover n (subAll out.duties (modulate (dSvm a.dsc) first.1.1 first.2.1 c sn e.vbus)) true s
      else beginHandover n [subS out.vd r0.y, subS out.vq r1.y] false s
    else s
  let v := limits (blendOf n false 0 s) (blendOf n false 1 s)
  let ds := blendDuties n (modulate (dSvm a.dsc) v.1.1 v.2.1 c sn e.vbus) s
  let s :=
    if volt then s
    else
      let s := (s.setReg (R.FCE_INTG i 0) v.1.2).setReg (R.FCE_INTG i 1) v.2.2
      (s.setReg (R.FCE_INTG i 2) rs.i2).setReg (R.FCE_INTG i 3) rs.i3
  let s := showVectors n e v.1.1 v.2.1 s
  let refs := if volt then none else some (rs.idr, rs.iqr)
  runWrites n acq a ds (setLast n ⟨if volt then .volt else .current, a.index, a.dsc, ds, refs, (e.id, e.iq)⟩ s)

/-- A skipped run (R302). -/
def skippedRun (n : Fin 2) (why : Nat) (s : State) : State :=
  let s := (s.setFld (F.FCE_STAT_SKIP n.val) why).incFld (F.FCE_SKCNT_CNT n.val)
  pendSrc (fceSrc n 1) (noCompares n s)

/-- At the first run in SAFE, the references that action 10b holds: those of the last run, or the id and iq that it measured; free
values where no run has been (R321). -/
def latchSafe (n : Fin 2) (s : State) : State :=
  let i := n.val
  if s.hal.safe then
    if s.fldB (F.FCE_STAT_SAFE i) then s
    else
      let refs := match s.fce[n].last with | some l => l.refs.getD l.meas | none => (s.freeVal, s.useFree.freeVal)
      let s := if s.fce[n].last.isSome then s else s.useFree.useFree
      setFce n (fun h => { h with safeRef := refs }) (s.setFld (F.FCE_STAT_SAFE i) 1)
  else s

/-- The references of SAFE: held, or id* = 0 and iq* = HAL_RELn (R321). -/
def safeRefs (n : Fin 2) (s : State) : List Word :=
  if safeAction n s = some 3 then [0, s.reg (R.HAL_REL n.val)] else [s.fce[n].safeRef.1, s.fce[n].safeRef.2]

/-- A run from its acquire cycle to its compare writes. -/
def fceStart (n : Fin 2) (s : State) : State :=
  let acq := s.lt36
  let s := latchSafe n s
  match acquire n s with
  | (s, a) =>
    let a := if safeRegulates n s then { a with refs := safeRefs n s } else a
    if a.track then
      if a.ok then trackingRun n acq a s else skippedRun n 4 s
    else
      let why := skipReason n (decide (a.type = 0) || decide (a.type = 5)) a.ok s
      if why ≠ 0 then skippedRun n why s
      else
        match s.fce[n].last with
        | none => s
        | some l =>
          if a.type = 0 then
            let e := fceEnv n a s
            runDone n <| noCompares n (setLast n ⟨.idle, a.index, a.dsc, l.duties, none, (e.id, e.iq)⟩ (showRun n a 2 s))
          else if a.type = 5 then dutyRun n acq a l s
          else loopRun n acq a l s

/-- FCE_RUN: the run of a trigger begins, in the cycle after it (R299); where it writes no compares, one that is latched is due
next (R300). -/
def fceRun (n : Fin 2) (s : State) : State :=
  if s.fldB (F.FCE_CTRL_EN n.val) && s.fce[n].due && s.fce[n].run.isNone then
    let s := fceStart n (setFce n (fun h => { h with due := false }) s)
    if s.fce[n].run.isNone then setFce n (fun h => { h with due := h.latch, latch := false }) s else s
  else s

def execFceRun (n : Fin 2) (s : State) : Host.Outcome State Fault Refusal := .next (whenClocked (fceRun n) s)

/-- The 8 words of a run record (R315). -/
def recordWords (n : Fin 2) (r : FceRun) (s : State) : List Word :=
  let g := fun a => s.reg a
  let i := n.val
  [r.ts, g (R.FCE_OLAT i), g (R.FCE_ID i), g (R.FCE_IQ i), g (R.FCE_VD i), g (R.FCE_VQ i), g (R.FCE_THO i), r.omega]

/-- The record goes to the next slot of the ring. -/
def writeRecord (n : Fin 2) (r : FceRun) (s : State) : State :=
  let i := n.val
  if s.fldB (F.FCE_RCFG_REN i) then
    let slot := s.fce[n].recs % 2 ^ s.fld (F.FCE_RCFG_RSZ i)
    let a := s.fld (F.FCE_RCFG_RBASE i) + 8 * slot
    let ws := recordWords n r s
    let q := fceReq n s
    let s := forN 8 (fun k s => (busWriteA .ok q (a + k) (wAt ws k) s).1) s
    setFce n (fun h => { h with recs := h.recs + 1 }) s
  else s

/-- FCE_RUN_COMPLETE: the response to the last compare write arrives; with a latched trigger the next run is due at once (R300,
R315). -/
def fceRunComplete (n : Fin 2) (s : State) : State :=
  match s.fce[n].run with
  | none => s
  | some r =>
    let i := n.val
    let lat := Nat.min (s.lt36 - r.acq).toNat 0xFFF
    let age := Nat.min (r.acq - r.ts).toNat 0x3FFFF
    let s := ((s.setReg (R.FCE_OTS i) r.ts).setFld (F.FCE_OLAT_LAT i) lat).setFld (F.FCE_OLAT_AGE i) age
    let s := s.setFld (F.FCE_LATMAX_LAT i) (Nat.max lat (s.fld (F.FCE_LATMAX_LAT i)))
    let s := runDone n (writeRecord n r (afterWrites n r.ldal s))
    setFce n (fun h => { h with due := h.latch, latch := false }) s

def execFceRunComplete (n : Fin 2) (s : State) : Host.Outcome State Fault Refusal :=
  .next (whenClocked (fceRunComplete n) s)

/-- FCE_IMAGE_CHECK: the copy of the 322 words and its check end, outside runs (R303, R304). -/
def fceImageCheck (n : Fin 2) (s : State) : State :=
  let i := n.val
  if s.fldB (F.FCE_STAT_LOADING i) ∧ s.fce[n].run.isNone then
    let base := s.fld (F.FCE_IMGBASE_BASE i)
    match readAll (fceReq n s) ((List.range 322).map fun k => base + k) s with
    | (s, ok, img) =>
      let s := s.setFld (F.FCE_STAT_LOADING i) 0
      let c : Fin 2 := 1 - activeCopy n s
      let s := setFce n (fun h => { h with img := h.img.set c.val img }) s
      if ok && imageOk (s.fld F.XLA_SET_NOUT) (s.fld (F.FCE_CFG_MIDX i)) img then
        let s := s.setFld (F.FCE_STAT_CFGERR i) 0
        if s.fldB (F.FCE_CTRL_EN i) then setFce n (fun h => { h with swapDue := true }) s else swapImage n s
      else pendSrc (fceSrc n 6) (s.setFld (F.FCE_STAT_CFGERR i) 1)
  else s

def execFceImageCheck (n : Fin 2) (s : State) : Host.Outcome State Fault Refusal :=
  .next (whenClocked (fceImageCheck n) s)

end Sys2Proof.Machine
end

