-- ==== Sys2Proof/Machine/Frame.lean ====
section
/-! DEFINITION. The frame start: snapshot, commit, membership, redundancy state, SAFE, and what each block does at it; frame 0
at the epoch of a formation (R22 to R29, R33, R133, R143, R148 to R151, R166 to R173, R178, R515). -/

namespace Sys2Proof.Machine

/-! The end of the frame before -/

/-- TALIGN when the lane ends its frame more than 100 ns from its target (R29). -/
def alignCheck (s : State) : State :=
  match s.xla.target with
  | some g => if 100 < g.natAbs then hoistFlag 14 s else s
  | none => s

/-- The rate corrections of the frame that begins (R28). -/
def startCorrections (s : State) : State :=
  match s.xla.target with
  | some g =>
    { s with
      corrN := Nat.min g.natAbs (xT s / 2000), corrBack := decide (g < 0), frameCycle := 0
      xla := { s.xla with target := none } }
  | none => { s with corrN := 0, corrBack := false, frameCycle := 0 }

/-! Snapshot and commit -/

/-- The input snapshot (R23, R368, R420, R449, R499). -/
def inputSnapshot (s : State) : State :=
  let s := qepSnapshot 1 (qepSnapshot 0 s)
  let s := (List.range 4).foldl (fun s r => sentSnapshot r s) s
  nceFrameStart (rtcSnapshot s)

/-- The voted set takes effect: BUF toggles, and the copy of XLA_COMMIT is written (R24, R143, R158). -/
def commitVoted (s : State) : State :=
  match s.xla.commitDue with
  | none => s
  | some (hold, single) =>
    let s := s.setFld F.XLA_COMMIT_BUF (1 - s.fld F.XLA_COMMIT_BUF)
    let s := (s.setFldB F.XLA_COMMIT_HOLD hold).setFldB F.XLA_COMMIT_SINGLE single
    let s := s.setFld F.XLA_COMMIT_FRAME16 (s.frame.toNat % 2 ^ 16)
    { s.setWord (s.fld F.XLA_OSBASE_OSBASE + 48) (s.reg R.XLA_COMMIT) with xla := { s.xla with commitDue := none } }

/-- What the XLA holds about one frame, afresh. -/
def peerFrame (p : XlaPeer) : XlaPeer :=
  { p with
    in1 := false, in2 := false, vt1 := false, vt2 := false, admI := none, admV := none, offV := none, offI := none
    jreq := false, memb := none
    heard := p.memb.isSome && decide (penLstate p.pennant = lsSyncing ∨ penLstate p.pennant = lsVoting ∨ penLstate p.pennant = lsWithdrawn) }

def clearExchange (s : State) : State :=
  { s with xla := { s.xla with
      peer := s.xla.peer.map peerFrame, viewI := Vector.replicate 3 [], viewV := Vector.replicate 3 []
      selected := false, voted := false, relWait := none, ownSet := none, accepted := none, xstep := 0, sent := [] } }

/-! Membership -/

/-- The number of member frames since a join, while fewer than 16 (R156). -/
def countSince (s : State) : State :=
  match s.xla.since with
  | some k => { s with xla := { s.xla with since := if 15 ≤ k then none else some (k + 1) } }
  | none => s

/-- The end of a rolling run: the lane is a member again (R517). -/
def rollingDone (s : State) : State :=
  if s.fld F.BIST_RLBSTAT_RPH = 4 then
    pendSrc 252 ((s.setFld F.BIST_RLBSTAT_RPH 0).incFld F.BIST_RLBSTAT_RUNS)
  else s

/-- The membership of the frame that begins; a joining lane enters VOTING (R148, R155, R162, R173). -/
def takeMembership (s : State) : State :=
  let next := s.fld F.XLA_MEMB_NEXT
  let s := { s with xla := { s.xla with prevMemb := s.fld F.XLA_MEMB_CUR } }
  let s := s.setFld F.XLA_MEMB_CUR next
  let s := countSince (s.setFldB F.XLA_STAT_MEMBER s.isMember)
  let join := s.xla.voteNext && s.isMember && decide (s.lstate = lsSyncing ∨ s.lstate = lsWithdrawn)
  let s := { s with xla := { s.xla with voteNext := false } }
  if join then rollingDone (setLaneState lsVoting s) else s

/-! Redundancy state and SAFE -/

/-- Is the lane a member that votes? -/
def votingMember (s : State) : Bool := s.isMember && decide (s.lstate = lsVoting)

/-- HALF-MAST of a member (R170, R171): HMST at its entry, the warning where 10 s or less are left, and LIMP when the limp time is
already over. -/
def halfMast (s : State) : State :=
  if votingMember s && decide (s.rstate = rsHalfMast) then
    if s.hal.inHalfMast then s
    else
      let s := hoistFlag 19 (s.setFld F.HAL_RSTAT_HALFMAST 1)
      let s := limpWarning { s with hal := { s.hal with inHalfMast := true } }
      if limpReached s then hoistFlag 20 (safeCause 2 s) else s
  else { s with hal := { s.hal with inHalfMast := false } }.setFld F.HAL_RSTAT_HALFMAST 0

/-- The redundancy state of the frame, or SAFE (R166, R167, R171). A cause met while the lane was a member holds, though the lane
has left VOTING since (R168: the cores take no part). -/
def redundancyAtFrame (s : State) : State :=
  if s.hal.safe then s
  else if s.hal.safeDue ≠ 0 then enterSafe s
  else enterSafe (halfMast (setRedundancy (redundancyOf (s.fld F.XLA_MEMB_CUR)) s))

/-- One more frame of the isolation test has begun (R173). -/
def isolationFrame (s : State) : State :=
  match s.hal.isoLeft with
  | some (k + 1) => { s with hal := { s.hal with isoLeft := some k } }
  | _ => s

/-! The declared input set (R133) -/

/-- Read SRC words in index order; none as soon as one is not answered OK. -/
def readInputs : List Nat → State → State × Option (List Word)
  | [], s => (s, some [])
  | i :: r, s =>
    match busReadA .ok xlaReq (s.fld (F.XLA_IDSC_SRC i)) s with
    | (s, e, v) =>
      match readInputs r s with
      | (s, some vs) => (s, if e = respOk then some (v :: vs) else none)
      | (s, none) => (s, none)

/-- Every lane whose numbering runs reads the SRC words at the frame start. -/
def assembleInputs (s : State) : State :=
  if xlaRuns s then
    match readInputs (List.range (xNin s)) s with
    | (s, vs) => { s with xla := { s.xla with ownSet := vs } }
  else s

/-! The rolling LBIST (R515) -/

/-- The committed permission: bits [RBIT + 2 : RBIT] of word RWIDX. -/
def rollPermission (s : State) : Nat :=
  (committedWord (s.fld F.BIST_RLBCFG_RWIDX) s).toNat / 2 ^ s.fld F.BIST_RLBCFG_RBIT % 8

/-- Has RMIN, at least 12 s, passed since the last attempt began? -/
def rollSpaced (s : State) : Bool :=
  match s.xla.attemptAt with
  | none => true
  | some t => decide (t.toNat + Nat.max 12 (s.fld F.BIST_RLBCFG_RMIN) * 1000000000 ≤ s.ltime.toNat)

def rollAllowed (s : State) : Bool :=
  s.fldB F.BIST_RLBCFG_RLEN && decide (rollPermission s = s.laneBit) && decide (s.lstate = lsVoting)
    && decide (s.fld F.XLA_MEMB_CUR = 7) && decide (s.fld F.DLK_LLPAT_LB0 = s.fld F.XLA_WCFG_WB0)
    && decide (s.fld F.DLK_LLPAT_LB1 = s.fld F.XLA_WCFG_WB1) && rollSpaced s

/-- Start a rolling run, or refuse the permission. -/
def rollAtFrame (s : State) : State :=
  if maskHas (rollPermission s) s.lane.val then
    if rollAllowed s then
      let s := (s.setFld F.BIST_RLBSTAT_REFUSED 0).setFld F.BIST_RLBSTAT_RPH 1
      { withdraw s with ovl := { (withdraw s).ovl with rolling := true } }
    else pendSrc 252 (s.setFld F.BIST_RLBSTAT_REFUSED 1)
  else s

/-! The frame start -/

/-- What every frame start does, with the frame number set. -/
def frameBody (committed : Bool) (s : State) : State :=
  let s := redundancyAtFrame (isolationFrame s)
  let s := sioFrameStart (fceFrameStart (pwmFrameStart (claimAtFrame s)))
  let s := ovlFrameStart s
  let s := if committed then rollAtFrame s else s
  let s := if xlaRuns s then setPhase 2 s else s
  pendSrc 24 (assembleInputs s)

/-- The frame whose start is next. DESIGN CHOICE: after frame 2^36 - 1 the number is 0 again (R110), and FRAME_EPOCH stays, so that
the next start computes as FRAME_EPOCH + T, which is long past; the spec does not say what FRAME_EPOCH becomes (R22). -/
def nextStart (s : State) : DWord := s.xla.frameEpoch + BitVec.ofNat 72 ((s.frame.toNat + 1) * xT s)

/-- FRAME_START: at LTIME FRAME_EPOCH + n × T, while the numbering runs (R22, R570). -/
def frameStart (s : State) : State :=
  if s.fldB F.XLA_STAT_FORMED ∧ s.fldB F.XLA_CTRL_EN ∧ (nextStart s).toNat ≤ s.ltime.toNat then
    let done := pennantOf s.frame.toNat s
    let at_ := nextStart s
    let due := s.xla.commitDue.isSome
    let s := commitVoted (inputSnapshot (startCorrections (alignCheck s)))
    let s := { s with pennant := done, frame := s.frame + 1, frameStart := at_ }
    frameBody due (takeMembership (clearExchange s))
  else s

def execFrameStart (s : State) : Host.Outcome State Fault Refusal := .next (whenClocked frameStart s)

/-- FORMATION_EPOCH: at the proposed epoch frame 0 starts, and its members enter VOTING; a lane that is not one of them
stays as it is (R150, R151, R162). -/
def formationEpoch (s : State) : State :=
  match formationMembers s, s.xla.epoch with
  | some m, some e =>
    if s.fldB F.XLA_CTRL_EN ∧ !s.fldB F.XLA_STAT_FORMED ∧ xlaReady s ∧ e.toNat ≤ s.ltime.toNat then
      let s := inputSnapshot { s with corrN := 0, corrBack := false, frameCycle := 0 }
      let s := (s.setFld F.XLA_STAT_FORMED 1).setFld F.XLA_MEMB_NEXT m
      let s := { s with
        frame := 0, frameStart := e
        xla := { s.xla with frameEpoch := e, prevAgreed := [], founding := false, solo := false, announced := none, accepting := none
                            voteNext := decide (s.lstate = lsSyncing), target := none } }
      frameBody false (takeMembership (clearExchange (setRphase 0 s)))
    else s
  | _, _ => s

def execFormationEpoch (s : State) : Host.Outcome State Fault Refusal := .next (whenClocked formationEpoch s)

end Sys2Proof.Machine
end

