-- ==== Sys2Proof/Machine/MoagarCmds.lean ====
section
/-! DEFINITION. The commands of the cores: core k issues the instruction that the command names, fetched at its PC or
supplied by the debugger (R98 to R116). `f` says how the fabric answers each access. A fetch that the fabric fails to answer, or
that finds its word upset, is a NOP's: the core knows no other instruction before the word is there (R70, R91). NOP also stands for
every word of no instruction, whose trap is ILL (R94). -/

namespace Sys2Proof.Machine

open Sys2Proof.Moagar

/-- A core issues an instruction; loads and stores say how the fabric answers them. -/
def coreIssue (k : Fin 4) (i : MInstr) (s : State) : Host.Outcome State Fault Refusal := .next (issue k i .ok .ok s)
def coreAccess (k : Fin 4) (i : MInstr) (f : Arrive) (s : State) : Host.Outcome State Fault Refusal :=
  .next (issue k i f .ok s)

def execAdd (k : Fin 4) (rd ra rb : GReg) (s : State) : Host.Outcome State Fault Refusal :=
  coreIssue k (.rrr .add rd ra rb 0) s
def execAdds (k : Fin 4) (rd ra rb : GReg) (s : State) : Host.Outcome State Fault Refusal :=
  coreIssue k (.rrr .adds rd ra rb 0) s
def execSub (k : Fin 4) (rd ra rb : GReg) (s : State) : Host.Outcome State Fault Refusal :=
  coreIssue k (.rrr .sub rd ra rb 0) s
def execSubs (k : Fin 4) (rd ra rb : GReg) (s : State) : Host.Outcome State Fault Refusal :=
  coreIssue k (.rrr .subs rd ra rb 0) s
def execAnd (k : Fin 4) (rd ra rb : GReg) (s : State) : Host.Outcome State Fault Refusal :=
  coreIssue k (.rrr .and rd ra rb 0) s
def execOr (k : Fin 4) (rd ra rb : GReg) (s : State) : Host.Outcome State Fault Refusal :=
  coreIssue k (.rrr .or rd ra rb 0) s
def execXor (k : Fin 4) (rd ra rb : GReg) (s : State) : Host.Outcome State Fault Refusal :=
  coreIssue k (.rrr .xor rd ra rb 0) s
def execAndn (k : Fin 4) (rd ra rb : GReg) (s : State) : Host.Outcome State Fault Refusal :=
  coreIssue k (.rrr .andn rd ra rb 0) s
def execShl (k : Fin 4) (rd ra rb : GReg) (s : State) : Host.Outcome State Fault Refusal :=
  coreIssue k (.rrr .shl rd ra rb 0) s
def execShr (k : Fin 4) (rd ra rb : GReg) (s : State) : Host.Outcome State Fault Refusal :=
  coreIssue k (.rrr .shr rd ra rb 0) s
def execSar (k : Fin 4) (rd ra rb : GReg) (s : State) : Host.Outcome State Fault Refusal :=
  coreIssue k (.rrr .sar rd ra rb 0) s
def execSarr (k : Fin 4) (rd ra rb : GReg) (s : State) : Host.Outcome State Fault Refusal :=
  coreIssue k (.rrr .sarr rd ra rb 0) s
def execShls (k : Fin 4) (rd ra rb : GReg) (s : State) : Host.Outcome State Fault Refusal :=
  coreIssue k (.rrr .shls rd ra rb 0) s
def execRot (k : Fin 4) (rd ra rb : GReg) (s : State) : Host.Outcome State Fault Refusal :=
  coreIssue k (.rrr .rot rd ra rb 0) s
def execMin (k : Fin 4) (rd ra rb : GReg) (s : State) : Host.Outcome State Fault Refusal :=
  coreIssue k (.rrr .min rd ra rb 0) s
def execMax (k : Fin 4) (rd ra rb : GReg) (s : State) : Host.Outcome State Fault Refusal :=
  coreIssue k (.rrr .max rd ra rb 0) s
def execMinu (k : Fin 4) (rd ra rb : GReg) (s : State) : Host.Outcome State Fault Refusal :=
  coreIssue k (.rrr .minu rd ra rb 0) s
def execMaxu (k : Fin 4) (rd ra rb : GReg) (s : State) : Host.Outcome State Fault Refusal :=
  coreIssue k (.rrr .maxu rd ra rb 0) s
def execMean2 (k : Fin 4) (rd ra rb : GReg) (s : State) : Host.Outcome State Fault Refusal :=
  coreIssue k (.rrr .mean2 rd ra rb 0) s
def execCmp (k : Fin 4) (ra rb : GReg) (s : State) : Host.Outcome State Fault Refusal :=
  coreIssue k (.rrr .cmp 0 ra rb 0) s
def execNeg (k : Fin 4) (rd ra : GReg) (s : State) : Host.Outcome State Fault Refusal :=
  coreIssue k (.rrr .neg rd ra 0 0) s
def execNegs (k : Fin 4) (rd ra : GReg) (s : State) : Host.Outcome State Fault Refusal :=
  coreIssue k (.rrr .negs rd ra 0 0) s
def execAbs (k : Fin 4) (rd ra : GReg) (s : State) : Host.Outcome State Fault Refusal :=
  coreIssue k (.rrr .abs rd ra 0 0) s
def execAbss (k : Fin 4) (rd ra : GReg) (s : State) : Host.Outcome State Fault Refusal :=
  coreIssue k (.rrr .abss rd ra 0 0) s
def execClz (k : Fin 4) (rd ra : GReg) (s : State) : Host.Outcome State Fault Refusal :=
  coreIssue k (.rrr .clz rd ra 0 0) s
def execClamp (k : Fin 4) (rd ra rb rc : GReg) (s : State) : Host.Outcome State Fault Refusal :=
  coreIssue k (.rrr .clamp rd ra rb rc) s
def execMid3 (k : Fin 4) (rd ra rb rc : GReg) (s : State) : Host.Outcome State Fault Refusal :=
  coreIssue k (.rrr .mid3 rd ra rb rc) s
def execMaj3 (k : Fin 4) (rd ra rb rc : GReg) (s : State) : Host.Outcome State Fault Refusal :=
  coreIssue k (.rrr .maj3 rd ra rb rc) s
def execAddi (k : Fin 4) (rd ra : GReg) (imm : BitVec 20) (s : State) : Host.Outcome State Fault Refusal :=
  coreIssue k (.rri .addi rd ra imm) s
def execAddis (k : Fin 4) (rd ra : GReg) (imm : BitVec 20) (s : State) : Host.Outcome State Fault Refusal :=
  coreIssue k (.rri .addis rd ra imm) s
def execAndi (k : Fin 4) (rd ra : GReg) (imm : BitVec 20) (s : State) : Host.Outcome State Fault Refusal :=
  coreIssue k (.rri .andi rd ra imm) s
def execOri (k : Fin 4) (rd ra : GReg) (imm : BitVec 20) (s : State) : Host.Outcome State Fault Refusal :=
  coreIssue k (.rri .ori rd ra imm) s
def execXori (k : Fin 4) (rd ra : GReg) (imm : BitVec 20) (s : State) : Host.Outcome State Fault Refusal :=
  coreIssue k (.rri .xori rd ra imm) s
def execCmpi (k : Fin 4) (ra : GReg) (imm : BitVec 20) (s : State) : Host.Outcome State Fault Refusal :=
  coreIssue k (.rri .cmpi 0 ra imm) s
def execShi (k : Fin 4) (rd ra : GReg) (kind : BitVec 3) (n : BitVec 6) (s : State) : Host.Outcome State Fault Refusal :=
  coreIssue k (.shi rd ra kind n) s
def execLi (k : Fin 4) (rd : GReg) (imm : BitVec 25) (s : State) : Host.Outcome State Fault Refusal :=
  coreIssue k (.li rd imm) s
def execLhi (k : Fin 4) (rd : GReg) (imm : BitVec 18) (s : State) : Host.Outcome State Fault Refusal :=
  coreIssue k (.lhi rd imm) s
def execMul (k : Fin 4) (rd ra rb : GReg) (s : State) : Host.Outcome State Fault Refusal :=
  coreIssue k (.mul .mul rd ra rb 0) s
def execMuls (k : Fin 4) (rd ra rb : GReg) (s : State) : Host.Outcome State Fault Refusal :=
  coreIssue k (.mul .muls rd ra rb 0) s
def execMulw (k : Fin 4) (rd ra rb : GReg) (s : State) : Host.Outcome State Fault Refusal :=
  coreIssue k (.mul .mulw rd ra rb 0) s
def execMulwu (k : Fin 4) (rd ra rb : GReg) (s : State) : Host.Outcome State Fault Refusal :=
  coreIssue k (.mul .mulwu rd ra rb 0) s
def execMulq (k : Fin 4) (rd ra rb : GReg) (s : State) : Host.Outcome State Fault Refusal :=
  coreIssue k (.mul .mulq rd ra rb 0) s
def execMulqw (k : Fin 4) (rd ra rb : GReg) (s : State) : Host.Outcome State Fault Refusal :=
  coreIssue k (.mul .mulqw rd ra rb 0) s
def execMadq (k : Fin 4) (rd ra rb rc : GReg) (s : State) : Host.Outcome State Fault Refusal :=
  coreIssue k (.mul .madq rd ra rb rc) s
def execDiv (k : Fin 4) (rd rc ra rb : GReg) (s : State) : Host.Outcome State Fault Refusal :=
  coreIssue k (.div .div rd rc ra rb) s
def execDivu (k : Fin 4) (rd rc ra rb : GReg) (s : State) : Host.Outcome State Fault Refusal :=
  coreIssue k (.div .divu rd rc ra rb) s
def execDivq (k : Fin 4) (rd rc ra rb : GReg) (s : State) : Host.Outcome State Fault Refusal :=
  coreIssue k (.div .divq rd rc ra rb) s
def execCvtqi (k : Fin 4) (rd ra : GReg) (s : State) : Host.Outcome State Fault Refusal :=
  coreIssue k (.cvt .cvtqi rd ra) s
def execCvtiq (k : Fin 4) (rd ra : GReg) (s : State) : Host.Outcome State Fault Refusal :=
  coreIssue k (.cvt .cvtiq rd ra) s
def execOx (k : Fin 4) (rd ra : GReg) (j : BitVec 4) (sz : BitVec 2) (sx : Bool) (s : State) : Host.Outcome State Fault Refusal :=
  coreIssue k (.ox rd ra j sz sx) s
def execOi (k : Fin 4) (rd rb : GReg) (j : BitVec 4) (sz : BitVec 2) (s : State) : Host.Outcome State Fault Refusal :=
  coreIssue k (.oi rd rb j sz) s
def execLd (k : Fin 4) (rd ra : GReg) (imm : BitVec 20) (f : Arrive) (s : State) : Host.Outcome State Fault Refusal :=
  coreAccess k (.ld rd ra imm) f s
def execSt (k : Fin 4) (rs ra : GReg) (imm : BitVec 20) (f : Arrive) (s : State) : Host.Outcome State Fault Refusal :=
  coreAccess k (.st rs ra imm) f s
def execLdp (k : Fin 4) (rd ra : GReg) (imm : BitVec 20) (f1 f2 : Arrive) (s : State) : Host.Outcome State Fault Refusal :=
  .next (issue k (.ldp rd ra imm) f1 f2 s)
def execStp (k : Fin 4) (rs ra : GReg) (imm : BitVec 20) (f1 f2 : Arrive) (s : State) : Host.Outcome State Fault Refusal :=
  .next (issue k (.stp rs ra imm) f1 f2 s)
def execSwap (k : Fin 4) (rd ra rb : GReg) (f : Arrive) (s : State) : Host.Outcome State Fault Refusal :=
  coreAccess k (.atom .swap rd ra rb 0) f s
def execAadd (k : Fin 4) (rd ra rb : GReg) (f : Arrive) (s : State) : Host.Outcome State Fault Refusal :=
  coreAccess k (.atom .aadd rd ra rb 0) f s
def execCas (k : Fin 4) (rd ra rb rc : GReg) (f : Arrive) (s : State) : Host.Outcome State Fault Refusal :=
  coreAccess k (.atom .cas rd ra rb rc) f s
def execBCond (k : Fin 4) (cond : BitVec 4) (off : BitVec 24) (s : State) : Host.Outcome State Fault Refusal :=
  coreIssue k (.bcond cond off) s
def execCall (k : Fin 4) (off : BitVec 24) (s : State) : Host.Outcome State Fault Refusal :=
  coreIssue k (.call off) s
def execJr (k : Fin 4) (ra : GReg) (imm : BitVec 20) (s : State) : Host.Outcome State Fault Refusal :=
  coreIssue k (.jr ra imm) s
def execCallr (k : Fin 4) (ra : GReg) (imm : BitVec 20) (s : State) : Host.Outcome State Fault Refusal :=
  coreIssue k (.callr ra imm) s
def execNop (k : Fin 4) (w : Word) (f : Arrive) (s : State) : Host.Outcome State Fault Refusal :=
  .next (match decode w with | .nop => issueAt f k .nop .ok .ok s | .undef => issueAt f k .undef .ok .ok s | _ => s)
def execFence (k : Fin 4) (s : State) : Host.Outcome State Fault Refusal :=
  coreIssue k (.fence) s
def execBrk (k : Fin 4) (s : State) : Host.Outcome State Fault Refusal :=
  coreIssue k (.brk) s
def execTret (k : Fin 4) (s : State) : Host.Outcome State Fault Refusal :=
  coreIssue k (.tret) s
def execIret (k : Fin 4) (s : State) : Host.Outcome State Fault Refusal :=
  coreIssue k (.iret) s
def execWfi (k : Fin 4) (s : State) : Host.Outcome State Fault Refusal :=
  coreIssue k (.wfi) s
def execSexit (k : Fin 4) (s : State) : Host.Outcome State Fault Refusal :=
  coreIssue k (.sexit) s
def execSexitz (k : Fin 4) (s : State) : Host.Outcome State Fault Refusal :=
  coreIssue k (.sexitz) s
def execMfc (k : Fin 4) (rd : GReg) (n : BitVec 6) (s : State) : Host.Outcome State Fault Refusal :=
  coreIssue k (.mfc rd n) s
def execTrap (k : Fin 4) (imm : BitVec 8) (s : State) : Host.Outcome State Fault Refusal :=
  coreIssue k (.trap imm) s
def execWaitf (k : Fin 4) (rd : GReg) (s : State) : Host.Outcome State Fault Refusal :=
  coreIssue k (.waitf rd) s
def execXsub (k : Fin 4) (rd : GReg) (s : State) : Host.Outcome State Fault Refusal :=
  coreIssue k (.xsub rd) s
def execSplit (k : Fin 4) (rd : GReg) (s : State) : Host.Outcome State Fault Refusal :=
  coreIssue k (.split rd) s
def execJoin (k : Fin 4) (rd ra : GReg) (s : State) : Host.Outcome State Fault Refusal :=
  coreIssue k (.join rd ra) s
def execHoist (k : Fin 4) (n : BitVec 8) (s : State) : Host.Outcome State Fault Refusal :=
  coreIssue k (.hoist n) s
def execDip (k : Fin 4) (n : BitVec 8) (s : State) : Host.Outcome State Fault Refusal :=
  coreIssue k (.dip n) s
def execSenter (k : Fin 4) (g : BitVec 6) (f : Arrive) (s : State) : Host.Outcome State Fault Refusal :=
  coreAccess k (.senter g) f s

end Sys2Proof.Machine
end

