-- ==== Sys2Proof/Machine/RegCommands.lean ====
section
/-! DEFINITION. The commands that are one write or one read of a register by a fabric source: each goes through the fabric
with the checks and the effects of the register (R10, R39, R66 to R70). -/

namespace Sys2Proof.Machine

def setBit0 (v : Word) : Word := v ||| 1
def clearBit0 (v : Word) : Word := v &&& ~~~(1 : Word)

/-- A write by a source while LCLK reaches the blocks; one that stalls has no effect yet. -/
def regWrite (rq : Req) (a : Nat) (v : Word) (s : State) : State := whenClocked (fun s => (busWrite rq a v s).1) s

/-- A read by a source while LCLK reaches the blocks. -/
def regRead (rq : Req) (a : Nat) (s : State) : State := whenClocked (fun s => (busRead rq a s).1) s

/-- Is an address in a block window (R39)? -/
def blockAddr (a : Nat) : Bool := decide (0x800000 ≤ a) && decide (a < 0x854000)

/-- The registers whose writes check the alarm (R498). -/
def alarmReg (i : Fin 3) : Nat := match i with | 0 => R.RTC_ALML | 1 => R.RTC_ALMH | 2 => R.RTC_CTRL

/-- WARM_RESET: SYS_RST.WARM (R535). -/
def execWarmReset (rq : Req) (s : State) : Host.Outcome State Fault Refusal :=
  .next (regWrite rq R.SYS_RST 1 s)

/-- XLA_ENABLE: a write of XLA_CTRL with EN = 1 (R131, R158). -/
def execXlaEnable (rq : Req) (v : Word) (s : State) : Host.Outcome State Fault Refusal :=
  .next (regWrite rq R.XLA_CTRL (setBit0 v) s)

/-- XLA_DISABLE: a write of XLA_CTRL with EN = 0 (R570). -/
def execXlaDisable (rq : Req) (v : Word) (s : State) : Host.Outcome State Fault Refusal :=
  .next (regWrite rq R.XLA_CTRL (clearBit0 v) s)

/-- RESYNC: XLA_CMD.RESYNC (R153). -/
def execResync (rq : Req) (s : State) : Host.Outcome State Fault Refusal :=
  .next (regWrite rq R.XLA_CMD 1 s)

/-- LEAVE: XLA_CMD.LEAVE (R158). -/
def execLeave (rq : Req) (s : State) : Host.Outcome State Fault Refusal :=
  .next (regWrite rq R.XLA_CMD 2 s)

/-- ABORT: XLA_CMD.ABORT (R158). -/
def execAbort (rq : Req) (s : State) : Host.Outcome State Fault Refusal :=
  .next (regWrite rq R.XLA_CMD 4 s)

/-- KEYLD: XLA_CMD.KEYLD (R159). -/
def execKeyld (rq : Req) (s : State) : Host.Outcome State Fault Refusal :=
  .next (regWrite rq R.XLA_CMD 8 s)

/-- CLAIM: HAL_CMD.CLAIM (R178, R189). -/
def execClaim (rq : Req) (s : State) : Host.Outcome State Fault Refusal :=
  .next (regWrite rq R.HAL_CMD 1 s)

/-- RELEASE: HAL_CMD.RELEASE (R178, R189). -/
def execRelease (rq : Req) (s : State) : Host.Outcome State Fault Refusal :=
  .next (regWrite rq R.HAL_CMD 2 s)

/-- SAFE: HAL_CMD.SAFE (R167). -/
def execSafe (rq : Req) (s : State) : Host.Outcome State Fault Refusal :=
  .next (regWrite rq R.HAL_CMD 4 s)

/-- FAULT_LOG_ENABLE: a write of FLT_LOGCFG with EN = 1 (R187). -/
def execFaultLogEnable (rq : Req) (v : Word) (s : State) : Host.Outcome State Fault Refusal :=
  .next (regWrite rq R.FLT_LOGCFG (setBit0 v) s)

/-- RESTART1: LSC_CMD.RESTART1 (R217). -/
def execRestart1 (rq : Req) (s : State) : Host.Outcome State Fault Refusal :=
  .next (regWrite rq R.LSC_CMD 1 s)

/-- RETIRE1: LSC_CMD.RETIRE1 (R217). -/
def execRetire1 (rq : Req) (s : State) : Host.Outcome State Fault Refusal :=
  .next (regWrite rq R.LSC_CMD 2 s)

/-- SOFTWARE_INTERRUPT: a write of INT_SWI (R87). -/
def execSoftwareInterrupt (rq : Req) (v : BitVec 8) (s : State) : Host.Outcome State Fault Refusal :=
  .next (regWrite rq R.INT_SWI (v.setWidth 36) s)

/-- PWM_ENABLE: a write of PWMn_CTRL with EN = 1 (R229). -/
def execPwmEnable (rq : Req) (n : Fin 2) (v : Word) (s : State) : Host.Outcome State Fault Refusal :=
  .next (regWrite rq (R.PWM_CTRL n.val) (setBit0 v) s)

/-- PWM_DISABLE: a write of PWMn_CTRL with EN = 0 (R252). -/
def execPwmDisable (rq : Req) (n : Fin 2) (v : Word) (s : State) : Host.Outcome State Fault Refusal :=
  .next (regWrite rq (R.PWM_CTRL n.val) (clearBit0 v) s)

/-- LOADALL: PWM0_LOAD.LOADALL with the banks of the round (R231). -/
def execLoadall (rq : Req) (banks : BitVec 2) (s : State) : Host.Outcome State Fault Refusal :=
  .next (regWrite rq R.PWM_LOAD (BitVec.ofNat 36 (1 + 2 * banks.toNat)) s)

/-- TRIPOFF: PWMn_CMD.TRIPOFF (R235). -/
def execTripoff (rq : Req) (n : Fin 2) (s : State) : Host.Outcome State Fault Refusal :=
  .next (regWrite rq (R.PWM_CMD n.val) 1 s)

/-- TRIPSHORT: PWMn_CMD.TRIPSHORT (R235). -/
def execTripshort (rq : Req) (n : Fin 2) (s : State) : Host.Outcome State Fault Refusal :=
  .next (regWrite rq (R.PWM_CMD n.val) 2 s)

/-- LLREL: DLK_CMD.LLREL (R250). -/
def execLlrel (rq : Req) (s : State) : Host.Outcome State Fault Refusal :=
  .next (regWrite rq R.DLK_CMD 1 s)

/-- RETRAIN: DLK_CMD.RETRAIN (R253). -/
def execRetrain (rq : Req) (s : State) : Host.Outcome State Fault Refusal :=
  .next (regWrite rq R.DLK_CMD 2 s)

/-- EMTEST: a write of SYS_EMTEST (R266). -/
def execEmtest (rq : Req) (v : BitVec 24) (s : State) : Host.Outcome State Fault Refusal :=
  .next (regWrite rq R.SYS_EMTEST (v.setWidth 36) s)

/-- LOAD: FCEn_CMD.LOAD (R303). -/
def execLoad (rq : Req) (n : Fin 2) (s : State) : Host.Outcome State Fault Refusal :=
  .next (regWrite rq (R.FCE_CMD n.val) 1 s)

/-- FCE_ENABLE: a write of FCEn_CTRL with EN = 1 (R323). -/
def execFceEnable (rq : Req) (n : Fin 2) (v : Word) (s : State) : Host.Outcome State Fault Refusal :=
  .next (regWrite rq (R.FCE_CTRL n.val) (setBit0 v) s)

/-- FCE_DISABLE: a write of FCEn_CTRL with EN = 0 (R322). -/
def execFceDisable (rq : Req) (n : Fin 2) (v : Word) (s : State) : Host.Outcome State Fault Refusal :=
  .next (regWrite rq (R.FCE_CTRL n.val) (clearBit0 v) s)

/-- SDP_START: a write of SDP_CTRL with RUN = 1 (R337). -/
def execSdpStart (rq : Req) (v : Word) (s : State) : Host.Outcome State Fault Refusal :=
  .next (regWrite rq R.SDP_CTRL (setBit0 v) s)

/-- SDP_STOP: a write of SDP_CTRL with RUN = 0 (R337). -/
def execSdpStop (rq : Req) (v : Word) (s : State) : Host.Outcome State Fault Refusal :=
  .next (regWrite rq R.SDP_CTRL (clearBit0 v) s)

/-- CLR: SDP_CMD.CLR (R327). -/
def execClr (rq : Req) (s : State) : Host.Outcome State Fault Refusal :=
  .next (regWrite rq R.SDP_CMD 1 s)

/-- QEP_POS_WRITE (R359). -/
def execQepPosWrite (rq : Req) (n : Fin 2) (v : Word) (s : State) : Host.Outcome State Fault Refusal :=
  .next (regWrite rq (R.QEP_POS n.val) v s)

/-- QEP_CMP_WRITE: a write of QEPn_CMP, or of QEPn_CMPCFG with CEN = 1 (R357). -/
def execQepCmpWrite (rq : Req) (n : Fin 2) (cen : Bool) (v : Word) (s : State) : Host.Outcome State Fault Refusal :=
  .next (regWrite rq (if cen then R.QEP_CMPCFG n.val else R.QEP_CMP n.val) (if cen then setBit0 v else v) s)

/-- DOEN: a write of QEPn_DOCTL with DOEN = 1 (R358). -/
def execDoen (rq : Req) (n : Fin 2) (v : Word) (s : State) : Host.Outcome State Fault Refusal :=
  .next (regWrite rq (R.QEP_DOCTL n.val) (setBit0 v) s)

/-- SENT_ENABLE: a write of SENT_CFGn, with EN set or clear (R372). -/
def execSentEnable (rq : Req) (r : Fin 4) (v : Word) (s : State) : Host.Outcome State Fault Refusal :=
  .next (regWrite rq (R.SENT_CFG r.val) v s)

/-- SIO_ENABLE: a write of SIO_CTRL with EN = 1 (R384). -/
def execSioEnable (rq : Req) (v : Word) (s : State) : Host.Outcome State Fault Refusal :=
  .next (regWrite rq R.SIO_CTRL (setBit0 v) s)

/-- OCLR: SIO_CMD.OCLR (R386). -/
def execOclr (rq : Req) (v : BitVec 4) (s : State) : Host.Outcome State Fault Refusal :=
  .next (regWrite rq R.SIO_CMD (v.setWidth 36) s)

/-- NCE_ENABLE: a write of NCE_CTRL with EN = 1 (R406). -/
def execNceEnable (rq : Req) (v : Word) (s : State) : Host.Outcome State Fault Refusal :=
  .next (regWrite rq R.NCE_CTRL (setBit0 v) s)

/-- NCE_DISABLE: a write of NCE_CTRL with EN = 0 (R438). -/
def execNceDisable (rq : Req) (v : Word) (s : State) : Host.Outcome State Fault Refusal :=
  .next (regWrite rq R.NCE_CTRL (clearBit0 v) s)

/-- WRAP0: NCE_CMD.WRAP0 (R427). -/
def execWrap0 (rq : Req) (s : State) : Host.Outcome State Fault Refusal :=
  .next (regWrite rq R.NCE_CMD 1 s)

/-- WRAP1: NCE_CMD.WRAP1 (R427). -/
def execWrap1 (rq : Req) (s : State) : Host.Outcome State Fault Refusal :=
  .next (regWrite rq R.NCE_CMD 2 s)

/-- NCE_UNWRAP: NCE_CMD.UNWRAP (R425). -/
def execNceUnwrap (rq : Req) (s : State) : Host.Outcome State Fault Refusal :=
  .next (regWrite rq R.NCE_CMD 4 s)

/-- MODE_REQUEST: a write of NCE_MREQ with GO (R446). -/
def execModeRequest (rq : Req) (mode : BitVec 3) (s : State) : Host.Outcome State Fault Refusal :=
  .next (regWrite rq R.NCE_MREQ (BitVec.ofNat 36 (mode.toNat + 8)) s)

/-- MARCH_START: MEMC_MCMD.START (R473). -/
def execMarchStart (rq : Req) (s : State) : Host.Outcome State Fault Refusal :=
  .next (regWrite rq R.MEMC_MCMD 1 s)

/-- MARCH_ABORT: MEMC_MCMD.ABORT (R473). -/
def execMarchAbort (rq : Req) (s : State) : Host.Outcome State Fault Refusal :=
  .next (regWrite rq R.MEMC_MCMD 2 s)

/-- DMA_START: a write of DMA_CTLc with EN = 1 and TEN = 0 (R477). -/
def execDmaStart (rq : Req) (c : Fin 8) (v : Word) (s : State) : Host.Outcome State Fault Refusal :=
  .next (regWrite rq (R.DMA_CTL c.val) (putBits (setBit0 v) 13 1 0) s)

/-- POWER_STATE_REQUEST: PWR_CMD.TARGET (R485). -/
def execPowerStateRequest (rq : Req) (target : BitVec 3) (s : State) : Host.Outcome State Fault Refusal :=
  .next (regWrite rq R.PWR_CMD (target.setWidth 36) s)

/-- CANCEL: PWR_CMD.CANCEL (R502). -/
def execCancel (rq : Req) (s : State) : Host.Outcome State Fault Refusal :=
  .next (regWrite rq R.PWR_CMD 0x10 s)

/-- PADREL: PWR_CMD.PADREL (R487). -/
def execPadrel (rq : Req) (s : State) : Host.Outcome State Fault Refusal :=
  .next (regWrite rq R.PWR_CMD 8 s)

/-- DOMAIN_POWER_DOWN: a write of PWR_DOMOFF (R493). -/
def execDomainPowerDown (rq : Req) (v : BitVec 5) (s : State) : Host.Outcome State Fault Refusal :=
  .next (regWrite rq R.PWR_DOMOFF (v.setWidth 36) s)

/-- SET: RTC_CMD.SET (R496). -/
def execSet (rq : Req) (s : State) : Host.Outcome State Fault Refusal :=
  .next (regWrite rq R.RTC_CMD 1 s)

/-- ADOPT: RTC_CMD.ADOPT (R499). -/
def execAdopt (rq : Req) (s : State) : Host.Outcome State Fault Refusal :=
  .next (regWrite rq R.RTC_CMD 2 s)

/-- RTC_XREF_WRITE (R499). -/
def execRtcXrefWrite (rq : Req) (v : Word) (s : State) : Host.Outcome State Fault Refusal :=
  .next (regWrite rq R.RTC_XREF v s)

/-- ALARM_WRITE: a write of RTC_ALML, of RTC_ALMH or of RTC_CTRL with ALMEN (R498). -/
def execAlarmWrite (rq : Req) (which : Fin 3) (v : Word) (s : State) : Host.Outcome State Fault Refusal :=
  .next (regWrite rq (alarmReg which) v s)

/-- OVEN: a write of SYS_OVLCFG with OVEN = 1 (R526). -/
def execOven (rq : Req) (v : Word) (s : State) : Host.Outcome State Fault Refusal :=
  .next (regWrite rq R.SYS_OVLCFG (setBit0 v) s)

/-- RUNLB: BIST_CMD.RUNLB (R537). -/
def execRunlb (rq : Req) (s : State) : Host.Outcome State Fault Refusal :=
  .next (regWrite rq R.BIST_CMD 1 s)

/-- SCRAP: LCY_CMD.SCRAP (R521). -/
def execScrap (rq : Req) (s : State) : Host.Outcome State Fault Refusal :=
  .next (regWrite rq R.LCY_CMD 1 s)

/-- ENDSESS: LCY_CMD.ENDSESS (R536). -/
def execEndsess (rq : Req) (s : State) : Host.Outcome State Fault Refusal :=
  .next (regWrite rq R.LCY_CMD 2 s)

/-- ISN_IU_READ: a read of ISN_IUn captures the rest of the sample for the source (R293). -/
def execIsnIuRead (rq : Req) (n : Fin 2) (s : State) : Host.Outcome State Fault Refusal :=
  .next (regRead rq (R.ISN_IU n.val) s)

/-- SENT_FC_READ: a read of SENT_FCn captures SENT_FC2n and SENT_TSn for the source (R365). -/
def execSentFcRead (rq : Req) (r : Fin 4) (s : State) : Host.Outcome State Fault Refusal :=
  .next (regRead rq (R.SENT_FC r.val) s)

/-- LCY_KOUT_READ (R530). -/
def execLcyKoutRead (rq : Req) (s : State) : Host.Outcome State Fault Refusal := .next (regRead rq R.LCY_KOUT s)

/-- REGISTER_WRITE: a write of any register (R10). -/
def execRegisterWrite (rq : Req) (a : Addr) (v : Word) (s : State) : Host.Outcome State Fault Refusal :=
  .next (if blockAddr a.toNat then regWrite rq a.toNat v s else s)

/-- READ_CLEAR: a read of any register: an RC field is cleared (R10). -/
def execReadClear (rq : Req) (a : Addr) (s : State) : Host.Outcome State Fault Refusal :=
  .next (if blockAddr a.toNat then regRead rq a.toNat s else s)

end Sys2Proof.Machine
end

