-- ==== Sys2Proof/Machine/Rolling.lean ====
section
/-! DEFINITION. The end of a rolling LBIST run: save, restore, link, restart of the pairs (R516 to R519). -/

namespace Sys2Proof.Machine

/-! What a rolling run covers -/

/-- Block windows of the partitions LSCINT, ENG, XLA, PER and NET (R516). -/
def rollBlocks : List Nat :=
  [0x810, 0x811, 0x812, 0x820, 0x821, 0x822, 0x824, 0x825, 0x826, 0x827, 0x830, 0x831, 0x832, 0x833, 0x834, 0x840, 0x842,
   0x850, 0x851, 0x852]

/-- Memory arrays behind a block window: the SDP's memories, the schedule table (R516). -/
def rollArray (a : Nat) : Bool :=
  (decide (a / 0x1000 = 0x850) && decide (0x400 ≤ a % 0x1000)) || (decide (a / 0x1000 = 0x840) && decide (0x800 ≤ a % 0x1000))

/-- The RW and RWL bits of a register. -/
def savedMask (a : Nat) : Nat :=
  match regRow? a with
  | some r => r.rw ||| r.rwl
  | none => 0

/-- The registers saved, in rising address order (R518). -/
def rollRegs : List Nat :=
  (rollBlocks.flatMap fun b => (List.range 0x400).map (b * 0x1000 + ·)).filter fun a => savedMask a ≠ 0

/-- Enable bits that the restore leaves clear until its end. -/
def enableMask (a : Nat) : Nat :=
  if R.INT_CFG 0 ≤ a ∧ a < R.INT_CFG 0 + 256 then 8
  else if a = R.SENT_SUPCTRL then 0xF
  else if a = R.SIO_CTRL then 3
  else if a = R.NCE_CTRL then 7
  else if a = R.XLA_CTRL ∨ a = R.DLK_CTRL ∨ a = R.SDP_CTRL ∨ a = R.PWM_CTRL 0 ∨ a = R.PWM_CTRL 1 ∨ a = R.FCE_CTRL 0
      ∨ a = R.FCE_CTRL 1 ∨ a = R.QEP_CTRL 0 ∨ a = R.QEP_CTRL 1 ∨ (List.range 8).any (fun c => decide (a = R.DMA_CTL c))
      ∨ (List.range 4).any (fun r => decide (a = R.SENT_CFG r)) then 1
  else 0

/-- Registers that a run leaves as they are: the observed lines and the lane state, the limp timer, counts and the pair
state that the always-on domain or R157 keeps, and the link's standing. -/
def rollKept (a : Nat) : Bool :=
  !rollBlocks.contains (a / 0x1000) || rollArray a
    || [R.HAL_STAT, R.HAL_RSTAT, R.HAL_LIMP, R.LSC_STAT, R.LSC_TCNT, R.LSC_CORES, R.XLA_RSCNT, R.DLK_STAT, R.DLK_LDLY].contains a

/-- The partitions after the test: their reset values. -/
def rollReset (s : State) : State :=
  let z := State.reset
  { s with
    regs := s.regs.filter fun c => rollKept c.1
    xla := { xlaReset with events := s.xla.events, attemptAt := s.xla.attemptAt }
    lsc := z.lsc, intc := z.intc, pwm := z.pwm, com := z.com, isn := z.isn, qep := z.qep, sent := z.sent, sio := z.sio
    svp := z.svp, nce := z.nce, fce := z.fce, sdp := z.sdp, dma := z.dma, caps := [] }

/-- The saved values written back with every enable cleared. -/
def rollRestore (saved : List (Nat × Word)) (s : State) : State :=
  saved.foldl (fun s p =>
    let m := BitVec.ofNat 36 (savedMask p.1)
    let e := BitVec.ofNat 36 (enableMask p.1)
    s.setReg p.1 ((s.reg p.1 &&& ~~~m) ||| (p.2 &&& m &&& ~~~e))) s

/-- The image of an FCE that was enabled is loaded. -/
def rollImage (n : Fin 2) (v : Word) (s : State) : State :=
  if bit v 0 then fceImageCheck n (s.setFld (F.FCE_STAT_LOADING n.val) 1) else s

/-- The saved enables. -/
def rollEnables (v : Nat → Word) (s : State) : State :=
  let s := (List.range 256).foldl (fun s i => s.setFldB (F.INT_CFG_EN i) (bit (v (R.INT_CFG i)) 3)) s
  let s := supctrlWrite (v R.SENT_SUPCTRL) s
  let s := [(0 : Fin 4), 1, 2, 3].foldl (fun s r => sentCfgWrite r (v (R.SENT_CFG r.val)) s) s
  let s := qepCtrlWrite 1 (v (R.QEP_CTRL 1)) (qepCtrlWrite 0 (v (R.QEP_CTRL 0)) s)
  let s := sioCtrlWrite (v R.SIO_CTRL) s
  let s := dlkCtrlWrite (v R.DLK_CTRL) s
  let s := pwmCtrlWrite 1 (v (R.PWM_CTRL 1)) (pwmCtrlWrite 0 (v (R.PWM_CTRL 0)) s)
  let s := fceCtrlWrite 1 (v (R.FCE_CTRL 1)) (fceCtrlWrite 0 (v (R.FCE_CTRL 0)) s)
  let s := sdpCtrlWrite 3 (v R.SDP_CTRL) s
  let s := [(0 : Fin 8), 1, 2, 3, 4, 5, 6, 7].foldl (fun s c =>
    if bit (v (R.DMA_CTL c.val)) 0 then dmaCtlWrite c (v (R.DMA_CTL c.val)) s else s) s
  let s := nceCtrlWrite (v R.NCE_CTRL) s
  xlaCtrlWrite (v R.XLA_CTRL) s

/-! The run -/

/-- The drive link has been stopped for the run: the die applies its pattern; then it is trained again and released (R250,
R517). -/
def rollLink (s : State) : State :=
  let was := s.fld F.DLK_STAT_LSTATE
  let s := stopAndHold (linkLoss true 0 s)
  if was = llHeld ∨ was = llUp then llrel (s.setFld F.DLK_STAT_LSTATE llHeld) else s

/-- Pairs and single cores start again (R204, R517). -/
def rollRestart (s : State) : State :=
  [(0 : Fin 2), 1].foldl (fun s p =>
    if s.pst p = psRetired then s
    else if s.pst p = psSingle then
      (if s.health (leadOf p) = hcSingle then startSingle (leadOf p) s else startSingle (shadowOf p) s)
    else restartPair p (rentry s (if isSafety s p then 0 else 1)) s) s

/-- The comparator injection of the run, for the pairs that are not retired; a failed core or a failed injection retires its pair
with verdict 4 (R210, R519). -/
def rollVerdicts (partF : BitVec 10) (j0 j1 : PairInj) (s : State) : State :=
  [((0 : Fin 2), j0), (1, j1)].foldl (fun s q =>
    let p := q.1
    if pairRetired s p then s
    else
      let s := recordInj p q.2 s
      if partF.getLsbD (leadOf p).val || partF.getLsbD (shadowOf p).val || !q.2.passed then applyVerdict false p 4 s else s) s

/-- ROLLING_LBIST_END with the partitions whose MISR failed (AON is not tested) and the results of the comparator injection: save and restore, the link, the pairs, or
STRUCK (R517 to R519). -/
def rollingLbistEnd (partF : BitVec 10) (j0 j1 : PairInj) (s : State) : State :=
  if s.ovl.rolling ∧ s.fld F.BIST_RLBSTAT_RPH = 1 then
    let partF := partF &&& 0x1FF
    let saved := rollRegs.map fun a => (a, s.reg a)
    let s := (s.setWords (s.fld F.BIST_SAVEBASE_BASE) (saved.map (·.2))).setFld F.BIST_RLBSTAT_PARTF partF.toNat
    let s := { s with ovl := { s.ovl with rolling := false } }
    if partF.toNat / 16 ≠ 0 then
      pendSrc 252 (strike 5 (s.setFld F.BIST_RLBSTAT_RPH 0))
    else
      let v := fun (a : Nat) => Sparse.get (fun _ => 0) saved a
      let s := laneTrips (rollRestore saved (rollReset s))
      let s := rollImage 1 (v (R.FCE_CTRL 1)) (rollImage 0 (v (R.FCE_CTRL 0)) s)
      let s := rollEnables v (rollLink s)
      let s := rollVerdicts partF j0 j1 (rollRestart s)
      (s.setFld F.LSC_STAT_JINH 1).setFld F.BIST_RLBSTAT_RPH (if s.lstate = lsStruck then 0 else 4)
  else s

def execRollingLbistEnd (partF : BitVec 10) (j0 j1 : PairInj) (s : State) : Host.Outcome State Fault Refusal :=
  .next (whenClocked (rollingLbistEnd partF j0 j1) s)

end Sys2Proof.Machine
end

