-- ==== Sys2Proof/Machine/Sdp.lean ====
section
/-! DEFINITION. The instructions of the signal datapath (R327 to R343), its fast interrupt (R335) and the error response
of a posted store (R336). Each command is the issue of the instruction it names at the program counter of the active
bank. -/

namespace Sys2Proof.Machine

open Sys2Proof.Sdp

/-! Local memory (R325, R326) -/

def localAddr (i : BitVec 10) : Nat := 0x850400 + i.toNat

/-- An SDP read of a local word; none is an uncorrectable error. -/
def readLocal (i : BitVec 10) (s : State) : State × Option Word :=
  let a := localAddr i
  match upsetAt s a with
  | none => (s, some (s.reg a))
  | some (.oneBit _) => (hoistFlag 108 s, some (s.reg a))
  | some _ => (hoistFlag 109 s, none)

def writeLocal (i : BitVec 10) (v : Word) (s : State) : State := dropUpset (localAddr i) (s.setReg (localAddr i) v)

/-! Address generation (R332) -/

/-- The post-modify of index k. -/
def postModify (k : Fin 8) (b : SdpBank) : SdpBank :=
  let ik : Int := b.i[k].toNat
  let bk : Int := b.b[k].toNat
  let mk := b.m[k].toInt
  let x : Int := if b.l[k] = 0 then ik + mk else bk + (ik - bk + mk) % (b.l[k].toNat : Int)
  { b with i := b.i.set k.val (BitVec.ofInt 10 x) }

/-! Loops (R334) -/

/-- The issue after the instruction at the PC completes: levels that end there are decremented and popped, innermost
first. -/
def loopNext (pc : BitVec 11) : List SdpLoop → List SdpLoop × BitVec 11
  | [] => ([], pc + 1)
  | l :: r =>
    if l.last = pc then
      if 1 < l.count then ({ l with count := l.count - 1 } :: r, l.start) else loopNext pc r
    else (l :: r, pc + 1)

def sdpAdvance (b : SdpBank) : SdpBank :=
  let p := loopNext b.pc b.loops
  { b with loops := p.1, pc := p.2 }

/-- Does a level's body hold an address? -/
def SdpLoop.holds (l : SdpLoop) (t : BitVec 11) : Bool := decide (l.start.toNat ≤ t.toNat) && decide (t.toNat ≤ l.last.toNat)

/-- A taken jump: levels whose body does not hold the target are popped, innermost first. -/
def jumpTo (t : BitVec 11) (b : SdpBank) : SdpBank := { b with loops := b.loops.dropWhile fun l => !l.holds t, pc := t }

/-! One issue -/

/-- What an instruction does beside its moves: its bank, the accumulator and the d register that it writes, the MAC
operations it issues, whether it saturated. -/
structure SdpEff where
  bank : SdpBank
  acc : Option (Fin 4)
  dd : Option (Fin 8)
  macs : List MacOp
  ov : Bool

/-- An instruction that only changes registers of its bank. -/
def effBank (b : SdpBank) : SdpEff := ⟨b, none, none, [], false⟩

/-- OVB of the bank that ran the instruction (R329). -/
def hoistOv (s : State) : State :=
  let f : Fld := ⟨R.SDP_OVF, (sdpBankNo s).val, 1⟩
  if s.fldB f then s else pendSrc 230 (s.setFld f 1)

/-- Operations issued two issues ago accumulate onto the values at the start of this issue; one whose accumulator this
issue's instruction wrote is lost (R330, R331). -/
def retire (old : SdpBank) (e : SdpEff) (b : SdpBank) : SdpBank :=
  let ops := old.pipe2.filter fun o => e.acc != some o.acc
  let b := ops.foldl (fun b o => { b with a := b.a.set o.acc (macResult o old.a[o.acc]) }) b
  { b with pipe2 := old.pipe1, pipe1 := e.macs }

/-- The end of an issue: MAC results, saturation, lost results, the active bank and its loop levels. -/
def finishIssue (old : SdpBank) (e : SdpEff) (s : State) : State :=
  let lost := (old.pipe2.filter fun o => e.acc == some o.acc).length
  let s := if e.ov then hoistOv s else s
  let s := setSdpBank (fun _ => retire old e e.bank) s
  showLevels (if lost = 0 then s else pendSrc 231 (s.incFld F.SDP_HAZCNT_CNT lost))

def haltHere (cause : Nat) (s : State) : State := sdpHalt cause (sdpBank s).pc 0 s

/-- An issue: the SDP runs, the instruction word is read through its check bits, and an instruction that may not stand at an
active END does not (R326, R334). -/
def sdpIssue (ctl : Bool) (body : State → State) (s : State) : State :=
  if clocked s ∧ sdpState s = sdpRunning then
    let b := sdpBank s
    let go := fun (s : State) => if ctl && b.loops.any (fun l => l.last == b.pc) then haltHere 4 s else body s
    match upsetAt s (0x850800 + b.pc.toNat) with
    | none => go s
    | some (.oneBit _) => go (hoistFlag 108 s)
    | some _ => haltHere 7 (hoistFlag 109 s)
  else s

/-- The parallel moves, in order, on the registers as they stood at issue (R331, R333): the loaded values, or none after an
uncorrectable error. -/
def doMoves (b : SdpBank) : List SMove → State → State × Option (List (Fin 8 × Word))
  | [], s => (s, some [])
  | m :: r, s =>
    if m.store then doMoves b r (writeLocal b.i[m.i] b.d[m.d] s)
    else
      match readLocal b.i[m.i] s with
      | (s, none) => (s, none)
      | (s, some v) =>
        match doMoves b r s with
        | (s, some l) => (s, some ((m.d, v) :: l))
        | (s, none) => (s, none)

/-- Loaded values and post-modifies after the instruction's own effect. -/
def applyMoves (ms : List SMove) (loads : List (Fin 8 × Word)) (b : SdpBank) : SdpBank :=
  let b := loads.foldl (fun b l => { b with d := b.d.set l.1.val l.2 }) b
  (ms.filter fun m => !m.keep).foldl (fun b m => postModify m.i b) b

/-- Issue of an instruction with parallel moves. -/
def sdpMoves (undef : Bool) (ms : List SMove) (f : SdpBank → SdpEff) (s : State) : State :=
  sdpIssue false (fun s =>
    let old := sdpBank s
    let e := f old
    if undef || movesClash e.dd ms then haltHere 2 s
    else
      match doMoves old ms s with
      | (t, none) => haltHere 7 t
      | (t, some l) => finishIssue old { e with bank := sdpAdvance (applyMoves ms l e.bank) } t) s

/-- Issue of an instruction without moves that is not a control instruction. -/
def sdpPlain (undef : Bool) (f : SdpBank → SdpEff) (s : State) : State := sdpMoves undef [] f s

/-- Issue of a control instruction. -/
def sdpControl (body : SdpBank → State → State) (s : State) : State := sdpIssue true (fun s => body (sdpBank s) s) s

/-! Control instructions (R339) -/

/-- SDP_NOP. The command stands for the word of NOP and for every word that is no instruction, which halts with cause 2 (R338); a
word of another instruction is not this command's. -/
def execSdpNop (w : Word) (s : State) : Host.Outcome State Fault Refusal :=
  .next (if w = 0 ∨ (Sdp.decode w).isNone then sdpPlain (decide (w ≠ 0)) effBank s else s)

/-- HALT: cause 1, HPC the next instruction (R337). -/
def execSdpHalt (s : State) : Host.Outcome State Fault Refusal :=
  .next (sdpControl (fun b s =>
    let s := finishIssue b (effBank { b with pc := b.pc + 1 }) s
    sdpHalt 1 (b.pc + 1) 0 s) s)

/-- WAIT: issue stops until the fast interrupt is taken; undefined in the handler (R335). -/
def execWait (s : State) : Host.Outcome State Fault Refusal :=
  .next (sdpControl (fun b s =>
    if s.fldB F.SDP_STAT_INFI then haltHere 2 s
    else (finishIssue b (effBank { b with pc := b.pc + 1 }) s).setFld F.SDP_STAT_STATE sdpWaiting) s)

/-- RTI: B0 goes on where it left off; undefined outside the handler (R335). -/
def execRti (s : State) : Host.Outcome State Fault Refusal :=
  .next (sdpControl (fun b s =>
    if s.fldB F.SDP_STAT_INFI then
      let s := finishIssue b (effBank { b with pc := b.pc + 1 }) s
      showLevels ((s.setFld F.SDP_STAT_INFI 0).setFld F.SDP_STAT_BANK 0)
    else haltHere 2 s) s)

/-- A jump, taken on a condition. -/
def sdpJump (t : BitVec 11) (c : SdpBank → Bool) (s : State) : State :=
  sdpControl (fun b s => finishIssue b (effBank (if c b then jumpTo t b else sdpAdvance b)) s) s

def execJmp (t : BitVec 11) (s : State) : Host.Outcome State Fault Refusal := .next (sdpJump t (fun _ => true) s)
def execJz (t : BitVec 11) (s : State) : Host.Outcome State Fault Refusal := .next (sdpJump t (fun b => b.z) s)
def execJnz (t : BitVec 11) (s : State) : Host.Outcome State Fault Refusal := .next (sdpJump t (fun b => !b.z) s)
def execJn (t : BitVec 11) (s : State) : Host.Outcome State Fault Refusal := .next (sdpJump t (fun b => b.n) s)
def execJnn (t : BitVec 11) (s : State) : Host.Outcome State Fault Refusal := .next (sdpJump t (fun b => !b.n) s)

/-- Accesses of the SDP that have had no response: store errors on their way, and writes that wait in the MRAM queue (R336,
R463). -/
def sdpInFlight (s : State) : Nat := s.sdp.stErr.length + queuedOf 6 s

/-- SYNC: issue stalls while a posted store has not had its response (R336). -/
def execSync (s : State) : Host.Outcome State Fault Refusal := .next (if sdpInFlight s = 0 then sdpPlain false effBank s else s)

/-- SIG n: source 224 + n; TGT[10:2] must be 0. -/
def execSig (t : BitVec 11) (s : State) : Host.Outcome State Fault Refusal :=
  .next (sdpIssue false (fun s =>
    let b := sdpBank s
    if 3 < t.toNat then haltHere 2 s else pendSrc (224 + t.toNat) (finishIssue b (effBank (sdpAdvance b)) s)) s)

/-- XBANK: the other bank goes on after it; undefined in the handler (R335). -/
def execXbank (s : State) : Host.Outcome State Fault Refusal :=
  .next (sdpControl (fun b s =>
    if s.fldB F.SDP_STAT_INFI then haltHere 2 s
    else
      let s := finishIssue b (effBank { b with pc := b.pc + 1 }) s
      let s := s.setFld F.SDP_STAT_BANK (1 - (sdpBankNo s).val)
      showLevels (setSdpBank (fun o => { o with pc := b.pc + 1 }) s)) s)

/-- A repeat of the body from PC + 1 to `last` (R334). -/
def sdpRep (last : BitVec 11) (count : SdpBank → Nat) (s : State) : State :=
  sdpControl (fun b s =>
    let n := count b
    if 0 < n ∧ b.loops.length = 4 then haltHere 3 s
    else if last.toNat < b.pc.toNat + 1 then haltHere 4 s
    else if (match b.loops with | l :: _ => decide (l.last.toNat < last.toNat) | [] => false) then haltHere 4 s
    else if n = 0 then finishIssue b (effBank { b with pc := last + 1 }) s
    else finishIssue b (effBank { b with loops := ⟨b.pc + 1, last, n⟩ :: b.loops, pc := b.pc + 1 }) s) s

def execRep (last : BitVec 11) (count : BitVec 16) (s : State) : Host.Outcome State Fault Refusal :=
  .next (sdpRep last (fun _ => count.toNat) s)
def execRepr (last : BitVec 11) (ds : Fin 8) (s : State) : Host.Outcome State Fault Refusal :=
  .next (sdpRep last (fun b => getBits b.d[ds] 0 16) s)

/-! MAC instructions (R340) -/

/-- An operation of one MAC unit; MACSU reads y as unsigned. -/
def macOf (kind : MacKind) (uns : Bool) (acc : Fin 4) (x y : Word) : MacOp :=
  ⟨acc, kind, BitVec.ofInt 80 (x.toInt * (if uns then (y.toNat : Int) else y.toInt))⟩

/-- One unit: the registers xs and ys into accumulator ad. -/
def mac1 (kind : MacKind) (uns : Bool) (ad : Fin 4) (xs ys : Fin 8) (mv : List SMove) (s : State) : State :=
  sdpMoves false mv (fun b => { effBank b with macs := [macOf kind uns ad b.d[xs] b.d[ys]] }) s

def execMpy (ad : Fin 4) (xs ys : Fin 8) (mv0 mv1 : Option SMove) (s : State) : Host.Outcome State Fault Refusal :=
  .next (mac1 .mpy false ad xs ys (mv0.toList ++ mv1.toList) s)
def execMac (ad : Fin 4) (xs ys : Fin 8) (mv0 mv1 : Option SMove) (s : State) : Host.Outcome State Fault Refusal :=
  .next (mac1 .mac false ad xs ys (mv0.toList ++ mv1.toList) s)
def execMsu (ad : Fin 4) (xs ys : Fin 8) (mv0 mv1 : Option SMove) (s : State) : Host.Outcome State Fault Refusal :=
  .next (mac1 .msu false ad xs ys (mv0.toList ++ mv1.toList) s)
def execMacsu (ad : Fin 4) (xs ys : Fin 8) (mv0 mv1 : Option SMove) (s : State) : Host.Outcome State Fault Refusal :=
  .next (mac1 .mac true ad xs ys (mv0.toList ++ mv1.toList) s)

/-- MAC2: both units, the operation by MOP; 100b to 111b are undefined. -/
def execMac2 (mop : BitVec 3) (ad : Fin 4) (xs ys : Fin 8) (mv0 mv1 : Option SMove) (s : State) :
    Host.Outcome State Fault Refusal :=
  let kind : MacKind := match mop.toNat with | 0 => .mpy | 2 => .msu | _ => .mac
  let uns := decide (mop.toNat = 3)
  let ad1 : Fin 4 := Fin.ofNat 4 (ad.val ^^^ 1)
  .next (sdpMoves (decide (3 < mop.toNat)) (mv0.toList ++ mv1.toList) (fun b =>
    { effBank b with macs := [macOf kind uns ad b.d[xs] b.d[ys], macOf kind uns ad1 b.d[xs + 1] b.d[ys + 1]] }) s)

/-! Accumulator instructions (R329, R341) -/

/-- Z and N from an 80-bit result. -/
def flags80 (r : BitVec 80) (b : SdpBank) : SdpBank := { b with z := decide (r = 0), n := r.msb }

/-- An accumulator result into aAD. -/
def accEff (ad : Fin 4) (r : BitVec 80) (b : SdpBank) : SdpEff :=
  { effBank (flags80 r { b with a := b.a.set ad.val r }) with acc := some ad }

/-- Issue of an accumulator instruction. -/
def accOp (undef : Bool) (ad : Fin 4) (f : SdpBank → BitVec 80) (mv : Option SMove) (s : State) : State :=
  sdpMoves undef mv.toList (fun b => accEff ad (f b) b) s

/-- An S36 value at accumulator alignment, and an integer (R328). -/
def alignS (x : Word) : BitVec 80 := BitVec.ofInt 80 (x.toInt * 2 ^ 32)
def alignI (x : Word) : BitVec 80 := BitVec.ofInt 80 x.toInt

def execAdda (ad as_ : Fin 4) (mv : Option SMove) (s : State) : Host.Outcome State Fault Refusal :=
  .next (accOp false ad (fun b => b.a[ad] + b.a[as_]) mv s)
def execSuba (ad as_ : Fin 4) (mv : Option SMove) (s : State) : Host.Outcome State Fault Refusal :=
  .next (accOp false ad (fun b => b.a[ad] - b.a[as_]) mv s)
def execAddq (ad : Fin 4) (ds : Fin 8) (mv : Option SMove) (s : State) : Host.Outcome State Fault Refusal :=
  .next (accOp false ad (fun b => b.a[ad] + alignS b.d[ds]) mv s)
def execSdpAddi (ad : Fin 4) (ds : Fin 8) (mv : Option SMove) (s : State) : Host.Outcome State Fault Refusal :=
  .next (accOp false ad (fun b => b.a[ad] + alignI b.d[ds]) mv s)
def execSubq (ad : Fin 4) (ds : Fin 8) (mv : Option SMove) (s : State) : Host.Outcome State Fault Refusal :=
  .next (accOp false ad (fun b => b.a[ad] - alignS b.d[ds]) mv s)
def execSubi (ad : Fin 4) (ds : Fin 8) (mv : Option SMove) (s : State) : Host.Outcome State Fault Refusal :=
  .next (accOp false ad (fun b => b.a[ad] - alignI b.d[ds]) mv s)
def execNega (ad as_ : Fin 4) (mv : Option SMove) (s : State) : Host.Outcome State Fault Refusal :=
  .next (accOp false ad (fun b => 0 - b.a[as_]) mv s)
def execClra (ad : Fin 4) (mv : Option SMove) (s : State) : Host.Outcome State Fault Refusal :=
  .next (accOp false ad (fun _ => 0) mv s)
def execMova (ad as_ : Fin 4) (mv : Option SMove) (s : State) : Host.Outcome State Fault Refusal :=
  .next (accOp false ad (fun b => b.a[as_]) mv s)

/-- ASHA: times 2^n, or the floor of the division by 2^-n, formed exactly and then wrapped. -/
def execAsha (ad as_ : Fin 4) (n : BitVec 8) (mv : Option SMove) (s : State) : Host.Outcome State Fault Refusal :=
  .next (accOp false ad (fun b =>
    let x := b.a[as_].toInt
    BitVec.ofInt 80 (if n.msb then x / 2 ^ (-n.toInt).toNat else x * 2 ^ n.toNat)) mv s)

/-- RSHA: a rounding right shift by n of 1 to 255; 0 is outside the stated range. -/
def execRsha (ad as_ : Fin 4) (n : BitVec 8) (mv : Option SMove) (s : State) : Host.Outcome State Fault Refusal :=
  .next (accOp (decide (n = 0)) ad (fun b => BitVec.ofInt 80 (rnd b.a[as_].toInt n.toNat)) mv s)

/-- ABIT: bit 31 of ds as +1 or -1, and ds shifted left by 1; a move that loads ds is undefined (R331). -/
def execAbit (ad : Fin 4) (ds : Fin 8) (mv : Option SMove) (s : State) : Host.Outcome State Fault Refusal :=
  .next (sdpMoves false mv.toList (fun b =>
    let r := if bit b.d[ds] 31 then b.a[ad] + 1 else b.a[ad] - 1
    let e := accEff ad r b
    { e with bank := { e.bank with d := e.bank.d.set ds.val (b.d[ds] <<< 1) }, dd := some ds }) s)

def execLda (ad : Fin 4) (ds : Fin 8) (mv : Option SMove) (s : State) : Host.Outcome State Fault Refusal :=
  .next (accOp false ad (fun b => alignS b.d[ds]) mv s)
def execLdai (ad : Fin 4) (ds : Fin 8) (mv : Option SMove) (s : State) : Host.Outcome State Fault Refusal :=
  .next (accOp false ad (fun b => alignI b.d[ds]) mv s)

/-- CMPA: flags of ad − as. -/
def execCmpa (ad as_ : Fin 4) (mv : Option SMove) (s : State) : Host.Outcome State Fault Refusal :=
  .next (sdpMoves false mv.toList (fun b => effBank (flags80 (b.a[ad] - b.a[as_]) b)) s)

/-! Data and extraction instructions (R328, R329, R342) -/

/-- Z and N from a 36-bit result. -/
def flags36 (r : Word) (b : SdpBank) : SdpBank := { b with z := decide (r = 0), n := r.msb }

/-- Issue of a data instruction: result and saturation into dDD. -/
def dataOp (undef : Bool) (dd : Fin 8) (f : SdpBank → Word × Bool) (mv : Option SMove) (s : State) : State :=
  sdpMoves undef mv.toList (fun b =>
    let p := f b
    { effBank (flags36 p.1 { b with d := b.d.set dd.val p.1 }) with dd := some dd, ov := p.2 }) s

/-- An exact integer saturated to 36 bits, with whether it saturated. -/
def satPair (x : Int) : Word × Bool := (wrap36 (sat36 x), satur x)

def execRnd (dd : Fin 8) (as_ : Fin 4) (mv : Option SMove) (s : State) : Host.Outcome State Fault Refusal :=
  .next (dataOp false dd (fun b => satPair (rnd b.a[as_].toInt 32)) mv s)
def execRndi (dd : Fin 8) (as_ : Fin 4) (mv : Option SMove) (s : State) : Host.Outcome State Fault Refusal :=
  .next (dataOp false dd (fun b => satPair b.a[as_].toInt) mv s)
def execExh (dd : Fin 8) (as_ : Fin 4) (mv : Option SMove) (s : State) : Host.Outcome State Fault Refusal :=
  .next (dataOp false dd (fun b => (b.a[as_].extractLsb' 36 36, false)) mv s)
def execExl (dd : Fin 8) (as_ : Fin 4) (mv : Option SMove) (s : State) : Host.Outcome State Fault Refusal :=
  .next (dataOp false dd (fun b => (b.a[as_].extractLsb' 0 36, false)) mv s)
def execExg (dd : Fin 8) (as_ : Fin 4) (mv : Option SMove) (s : State) : Host.Outcome State Fault Refusal :=
  .next (dataOp false dd (fun b => ((b.a[as_].extractLsb' 72 8).signExtend 36, false)) mv s)
def execSdpAdd (dd da db : Fin 8) (mv : Option SMove) (s : State) : Host.Outcome State Fault Refusal :=
  .next (dataOp false dd (fun b => (b.d[da] + b.d[db], false)) mv s)
def execSdpAdds (dd da db : Fin 8) (mv : Option SMove) (s : State) : Host.Outcome State Fault Refusal :=
  .next (dataOp false dd (fun b => satPair (b.d[da].toInt + b.d[db].toInt)) mv s)
def execSdpSub (dd da db : Fin 8) (mv : Option SMove) (s : State) : Host.Outcome State Fault Refusal :=
  .next (dataOp false dd (fun b => (b.d[da] - b.d[db], false)) mv s)
def execSdpSubs (dd da db : Fin 8) (mv : Option SMove) (s : State) : Host.Outcome State Fault Refusal :=
  .next (dataOp false dd (fun b => satPair (b.d[da].toInt - b.d[db].toInt)) mv s)
def execSdpAnd (dd da db : Fin 8) (mv : Option SMove) (s : State) : Host.Outcome State Fault Refusal :=
  .next (dataOp false dd (fun b => (b.d[da] &&& b.d[db], false)) mv s)
def execSdpOr (dd da db : Fin 8) (mv : Option SMove) (s : State) : Host.Outcome State Fault Refusal :=
  .next (dataOp false dd (fun b => (b.d[da] ||| b.d[db], false)) mv s)
def execSdpXor (dd da db : Fin 8) (mv : Option SMove) (s : State) : Host.Outcome State Fault Refusal :=
  .next (dataOp false dd (fun b => (b.d[da] ^^^ b.d[db], false)) mv s)

/-- An immediate shift: IMM6 of 0 to 35. -/
def dataShift (dd da : Fin 8) (n : BitVec 6) (f : Word → Nat → Word) (mv : Option SMove) (s : State) : State :=
  dataOp (decide (35 < n.toNat)) dd (fun b => (f b.d[da] n.toNat, false)) mv s

def execSdpShl (dd da : Fin 8) (n : BitVec 6) (mv : Option SMove) (s : State) : Host.Outcome State Fault Refusal :=
  .next (dataShift dd da n shlBy mv s)
def execSdpShr (dd da : Fin 8) (n : BitVec 6) (mv : Option SMove) (s : State) : Host.Outcome State Fault Refusal :=
  .next (dataShift dd da n shrBy mv s)
def execSdpSar (dd da : Fin 8) (n : BitVec 6) (mv : Option SMove) (s : State) : Host.Outcome State Fault Refusal :=
  .next (dataShift dd da n sarBy mv s)
def execShlr (dd da db : Fin 8) (mv : Option SMove) (s : State) : Host.Outcome State Fault Refusal :=
  .next (dataOp false dd (fun b => (shlBy b.d[da] (shiftAmount b.d[db]), false)) mv s)
def execShrr (dd da db : Fin 8) (mv : Option SMove) (s : State) : Host.Outcome State Fault Refusal :=
  .next (dataOp false dd (fun b => (shrBy b.d[da] (shiftAmount b.d[db]), false)) mv s)
def execMov (dd da : Fin 8) (mv : Option SMove) (s : State) : Host.Outcome State Fault Refusal :=
  .next (dataOp false dd (fun b => (b.d[da], false)) mv s)

/-- CMP: flags of da − db. -/
def execSdpCmp (da db : Fin 8) (mv : Option SMove) (s : State) : Host.Outcome State Fault Refusal :=
  .next (sdpMoves false mv.toList (fun b => effBank (flags36 (b.d[da] - b.d[db]) b)) s)

/-! Loads, stores and address instructions (R332, R336, R343) -/

def setD (k : Fin 8) (v : Word) (b : SdpBank) : SdpBank := { b with d := b.d.set k.val v }

/-- LDI: with H the high half from IMM28[17:0], whose upper bits must then be 0. -/
def execLdi (dd : Fin 8) (h : Bool) (imm : BitVec 28) (s : State) : Host.Outcome State Fault Refusal :=
  .next (sdpPlain (h && decide (2 ^ 18 ≤ imm.toNat)) (fun b =>
    effBank (setD dd (if h then putBits b.d[dd] 18 18 imm.toNat else imm.signExtend 36) b)) s)

/-- LDX: the local word at (i + DISP) mod 1,024. -/
def execLdx (d i : Fin 8) (disp : BitVec 10) (s : State) : Host.Outcome State Fault Refusal :=
  .next (sdpIssue false (fun s =>
    let b := sdpBank s
    match readLocal (b.i[i] + disp) s with
    | (t, some v) => finishIssue b (effBank (sdpAdvance (setD d v b))) t
    | (t, none) => haltHere 7 t) s)

def execStx (d i : Fin 8) (disp : BitVec 10) (s : State) : Host.Outcome State Fault Refusal :=
  .next (sdpIssue false (fun s =>
    let b := sdpBank s
    finishIssue b (effBank (sdpAdvance b)) (writeLocal (b.i[i] + disp) b.d[d] s)) s)

/-- What the SDP issues as (R336). -/
def sdpReq (s : State) : Req := ⟨6, s.fld F.SDP_CTRL_CLS, false⟩

/-- The fabric address of LDF and STF. -/
def sdpEa (b : SdpBank) (db : Fin 8) (imm : BitVec 20) : Word := b.d[db] + imm.signExtend 36

/-- LDF: an error response halts with cause 6, after the instruction (R336, R337); it stalls with all 8 tags in flight
(R67). -/
def execLdf (d db : Fin 8) (imm : BitVec 20) (f : Arrive) (s : State) : Host.Outcome State Fault Refusal :=
  .next (sdpIssue false (fun s =>
    let b := sdpBank s
    let a := sdpEa b db imm
    if !addrOk a then haltHere 5 s
    else if 8 ≤ sdpInFlight s then s
    else
      match busReadA f (sdpReq s) a.toNat s with
      | (t, e, v) =>
        if e = respOk then finishIssue b (effBank (sdpAdvance (setD d v b))) t
        else sdpHalt 6 (sdpAdvance b).pc e (finishIssue b (effBank (sdpAdvance b)) t)) s)

/-- STF: posted; an error response arrives later (R336). It stalls with all 8 tags in flight, and while the
write itself stalls. The issue ends before the write takes effect, which may clear RUN or reset the lane (R327, R337). -/
def execStf (d db : Fin 8) (imm : BitVec 20) (f : Arrive) (s : State) : Host.Outcome State Fault Refusal :=
  .next (sdpIssue false (fun s =>
    let b := sdpBank s
    let a := sdpEa b db imm
    if !addrOk a then haltHere 5 s
    else if 8 ≤ sdpInFlight s then s
    else
      let s1 := finishIssue b (effBank (sdpAdvance b)) s
      match busWriteA f (sdpReq s) a.toNat b.d[d] s1 with
      | (t, e) =>
        if e = respStall then s
        else if e = respOk then t
        else setSdp (fun h => { h with stErr := h.stErr ++ [⟨(freeTag 6 s).getD 0, a.toNat, e⟩] }) t) s)

/-- SDP_STORE_ERROR: the oldest outstanding error response arrives and is recorded; a running or waiting SDP halts with
cause 6. -/
def sdpStoreError (s : State) : State :=
  match s.sdp.stErr with
  | [] => s
  | e :: r =>
    let s := setSdp (fun h => { h with stErr := r }) s
    if sdpState s = sdpRunning ∨ sdpState s = sdpWaiting then sdpHalt 6 (sdpBank s).pc e.code s
    else s.setFld F.SDP_STAT_HRESP e.code

def execSdpStoreError (s : State) : Host.Outcome State Fault Refusal := .next (whenClocked sdpStoreError s)

/-- An immediate of the address instructions whose bit 10 must be 0. -/
def immOver (imm : BitVec 11) : Bool := decide (1024 ≤ imm.toNat)

def execSeti (k : Fin 8) (imm : BitVec 11) (s : State) : Host.Outcome State Fault Refusal :=
  .next (sdpPlain (immOver imm) (fun b => effBank { b with i := b.i.set k.val (imm.setWidth 10) }) s)
def execSetm (k : Fin 8) (imm : BitVec 11) (s : State) : Host.Outcome State Fault Refusal :=
  .next (sdpPlain false (fun b => effBank { b with m := b.m.set k.val imm }) s)
def execSetb (k : Fin 8) (imm : BitVec 11) (s : State) : Host.Outcome State Fault Refusal :=
  .next (sdpPlain (immOver imm) (fun b => effBank { b with b := b.b.set k.val (imm.setWidth 10) }) s)
def execSetl (k : Fin 8) (imm : BitVec 11) (s : State) : Host.Outcome State Fault Refusal :=
  .next (sdpPlain (immOver imm) (fun b => effBank { b with l := b.l.set k.val (imm.setWidth 10) }) s)
def execModi (k : Fin 8) (s : State) : Host.Outcome State Fault Refusal :=
  .next (sdpPlain false (fun b => effBank (postModify k b)) s)
def execMovi (k ds : Fin 8) (s : State) : Host.Outcome State Fault Refusal :=
  .next (sdpPlain false (fun b => effBank { b with i := b.i.set k.val (b.d[ds].setWidth 10) }) s)
def execMovm (k ds : Fin 8) (s : State) : Host.Outcome State Fault Refusal :=
  .next (sdpPlain false (fun b => effBank { b with m := b.m.set k.val (b.d[ds].setWidth 11) }) s)

/-- RDI and RDM set Z and N (R329). -/
def readIndex (dd : Fin 8) (f : SdpBank → Word) (s : State) : State :=
  sdpPlain false (fun b => effBank (flags36 (f b) (setD dd (f b) b))) s

def execRdi (dd k : Fin 8) (s : State) : Host.Outcome State Fault Refusal :=
  .next (readIndex dd (fun b => b.i[k].setWidth 36) s)
def execRdm (dd k : Fin 8) (s : State) : Host.Outcome State Fault Refusal :=
  .next (readIndex dd (fun b => b.m[k].signExtend 36) s)

/-! The fast interrupt (R335) -/

/-- FAST_INTERRUPT: taken at an issue boundary of the main program in B0. -/
def fastInterrupt (s : State) : State :=
  let live := decide (sdpState s = sdpRunning) || decide (sdpState s = sdpWaiting)
  if live && s.fldB F.SDP_CTRL_FIEN && !s.fldB F.SDP_STAT_INFI && !s.fldB F.SDP_STAT_BANK then
    match topOf s 4 with
    | none => s
    | some n =>
      let entry := BitVec.ofNat 11 (s.fld F.SDP_FIVEC_ADDR)
      let s := acknowledge n s
      let s := ((s.setFld F.SDP_STAT_BANK 1).setFld F.SDP_STAT_INFI 1).setFld F.SDP_STAT_STATE sdpRunning
      showLevels (setSdpBank (fun b => { setD 7 (BitVec.ofNat 36 n) b with pc := entry }) s)
  else s

def execFastInterrupt (s : State) : Host.Outcome State Fault Refusal := .next (whenClocked fastInterrupt s)

end Sys2Proof.Machine
end

