-- ==== Sys2Proof/Machine/Svp.lean ====
section
/-! DEFINITION. The Kraben service port and its loader (R531 to R534, R538). -/

namespace Sys2Proof.Machine

def setSvp (f : SvpHidden → SvpHidden) (s : State) : State := { s with svp := f s.svp }

/-- Sources of an addressed transaction's status (R538, R539): errors are counted. -/
def svpStatus (st : Nat) (s : State) : State :=
  let s := s.setFld F.SVP_STAT_LAST st
  if st = stOk then s
  else if st = stCrc then pendSrc 218 (s.incFld F.SVP_ERRCNT_CRC)
  else if st = stBusy then s.incFld F.SVP_ERRCNT_BUSY
  else pendSrc 219 (s.incFld F.SVP_ERRCNT_CMD)

/-- Is the port heard: addressed, and not silent after a failed fuse load (R514, R531)? -/
def svpHeard (f : SvpFrame) (s : State) : Bool := !s.svp.silent && decide (f.addr.toNat = s.fld F.SVP_CFG_ADDR)

/-- Does the lane run, so that the port serves commands (R489, R508)? -/
def svpRunning (s : State) : Bool := clocked s && decide (s.pwr.startDue = none)

def octets (l : List Nat) : List (BitVec 8) := l.map (BitVec.ofNat 8)

/-- The octets of a transaction from CMD on (R531): CMD, LEN, the payload packed under R48. -/
def svpOctets (cmd : Nat) (f : SvpFrame) : List (BitVec 8) := octets (cmd :: f.payload.length :: packWords f.payload)

/-- Was the transaction complete, with a good CRC? -/
def svpGood (cmd : Nat) (f : SvpFrame) : Bool := !f.cut && decide (f.crc = crc8 (svpOctets cmd f))

/-- The response on SDO: RLEN, the words, and a CRC-8 over those. -/
def svpAnswer (l : List Word) : List (BitVec 8) :=
  let o := octets (l.length :: packWords l)
  o ++ [crc8 o]

def answer (l : List Word) (s : State) : State := setSvp (fun h => { h with sdo := h.sdo ++ svpAnswer l }) s

/-- One transaction: without effect unless it is addressed; BUSY when a queue to or from SCLK ran over or under (R37); status 02h
when it is cut short or its CRC fails; BUSY while the lane is not running; 03h for a LEN above 32; otherwise the command,
which answers its status. -/
def svpDo (cmd : Nat) (f : SvpFrame) (act : State → State × Nat) (s : State) : State :=
  if !svpHeard f s then s
  else
    let s := setSvp (fun h => { h with sdo := [BitVec.ofNat 8 (s.fld F.SVP_STAT_LAST)] }) (pendSrc 223 s)
    if f.lost then svpStatus stBusy s
    else if !svpGood cmd f then svpStatus stCrc s
    else if !svpRunning s then svpStatus stBusy s
    else if 32 < f.payload.length then svpStatus stUndef s
    else
      let r := act s
      svpStatus r.2 r.1

/-- A command without a request payload: another LEN is undefined (R532). -/
def unpaid (f : SvpFrame) (act : State → State × Nat) (s : State) : State × Nat :=
  if f.payload.isEmpty then act s else (s, stUndef)

/-- Commands that SCRAPPED does not refuse are NOP, IDENT, VERSION and FETCH alone (R520, R533). -/
def unlessScrapped (cmd : State → State × Nat) (s : State) : State × Nat :=
  if s.lcState = lcScrapped then (s, stState) else cmd s

def respond (l : List Word) (s : State) : State := setSvp (fun h => { h with resp := .words l }) s

/-- SVP_NOP; a CMD octet of no command has status 03h (R532). -/
def svpNop (f : SvpFrame) (cmd : BitVec 8) (s : State) : State :=
  if cmd = 0 then svpDo 0 f (unpaid f fun s => (s, stOk)) s
  else if 8 < cmd.toNat then svpDo cmd.toNat f (fun s => (s, stUndef)) s
  else s

def execSvpNop (f : SvpFrame) (cmd : BitVec 8) (s : State) : Host.Outcome State Fault Refusal := .next (svpNop f cmd s)

/-- IDENT: SYS_BURGEE0 to 3. -/
def svpIdent (f : SvpFrame) (s : State) : State :=
  svpDo 1 f (unpaid f fun s =>
    (respond ([R.SYS_BURGEE0, R.SYS_BURGEE1, R.SYS_BURGEE2, R.SYS_BURGEE3].map s.reg) s, stOk)) s

def execIdent (f : SvpFrame) (s : State) : Host.Outcome State Fault Refusal := .next (svpIdent f s)

/-- VERSION: service protocol, image format, DLK protocol, seal-record format, each 1.0 (R251, R524, R528, R534). -/
def svpVersion (f : SvpFrame) (s : State) : State := svpDo 2 f (unpaid f fun s => (respond [0x10101010] s, stOk)) s

def execVersion (f : SvpFrame) (s : State) : Host.Outcome State Fault Refusal := .next (svpVersion f s)

/-! The loader (R523, R533) -/

/-- SRAM that the loader reaches: banks 0 to 14, but for one that a destructive march holds. -/
def loaderSram (s : State) (a : Nat) : Bool := inSram a && decide (a < 0xF0000) && !marching s (bankOf a)

/-- May the loader read the word? Not in a poisoned bank; in SEALED only the fault-log area, the application data and the
AOM. -/
def loaderReads (s : State) (a : Nat) : Bool :=
  let all := (loaderSram s a && !poisoned s (bankOf a)) || inMram a || inAom a
  if s.lcState = lcSealed then
    (decide (0x308000 ≤ a) && decide (a < 0x3F0000)) || (decide (0x3F0000 ≤ a) && decide (a < 0x3FC000)) || inAom a
  else all

/-- May the loader write the word? The seeds of the LBIST in TEST only, the test records never, the fixed words of the AOM
never. -/
def loaderWrites (s : State) (a : Nat) : Bool :=
  loaderSram s a || (inAom a && decide (a < 0x400C00))
    || (inMram a && !(decide (0x3FFEF0 ≤ a) && decide (a < 0x3FFF00))
        && (decide (s.lcState = lcTest) || !(decide (0x302100 ≤ a) && decide (a < 0x308000))))

/-- One word read by the loader; a word that cannot be corrected is a free value. -/
def loaderRead (a : Nat) (s : State) : State × Word :=
  match queued s a with
  | some v => (s, v)
  | none =>
    let r := eccRead a s
    if r.2 then (r.1, r.1.word a) else (r.1.useFree, r.1.freeVal)

def loaderReadN : Nat → Nat → State → State × List Word
  | 0, _, s => (s, [])
  | n + 1, a, s =>
    let r := loaderRead a s
    let t := loaderReadN n (a + 1) r.1
    (t.1, r.2 :: t.2)

/-- One word written by the loader. -/
def loaderWrite (a : Nat) (v : Word) (s : State) : State := 
  if inMram a then mramEnqueue 10 a v s else if inSram a then s.store a v else s.setWord a v

def loaderWriteN : Nat → List Word → State → State
  | _, [], s => s
  | a, v :: r, s => loaderWriteN (a + 1) r (loaderWrite a v s)

/-- READ: address and count - 1 in one word. -/
def svpRead (f : SvpFrame) (s : State) : State :=
  svpDo 3 f (unlessScrapped fun s =>
    match f.payload with
    | [w] =>
      let a := getBits w 0 24
      let n := getBits w 24 5 + 1
      if (List.range n).all fun i => loaderReads s (a + i) then
        let r := loaderReadN n a s
        (respond r.2 r.1, stOk)
      else (s, stAddr)
    | _ => (s, stUndef)) s

def execRead (f : SvpFrame) (s : State) : Host.Outcome State Fault Refusal := .next (svpRead f s)

/-- WRITE: an address word, then 1 to 31 data words; refused in SEALED. -/
def svpWrite (f : SvpFrame) (s : State) : State :=
  svpDo 4 f (unlessScrapped fun s =>
    match f.payload with
    | w :: v :: r =>
      let a := getBits w 0 24
      let n := r.length + 1
      if 31 < n then (s, stUndef)
      else if s.lcState = lcSealed then (s, stState)
      else if (List.range n).all fun i => loaderWrites s (a + i) then (loaderWriteN a (v :: r) s, stOk)
      else (s, stAddr)
    | _ => (s, stUndef)) s

def execSvpWrite (f : SvpFrame) (s : State) : Host.Outcome State Fault Refusal := .next (svpWrite f s)

/-- RECORD: a chunk in its order; LAST submits the record, and its status is the response. -/
def svpRecord (f : SvpFrame) (s : State) : State :=
  svpDo 5 f (unlessScrapped fun s =>
    match f.payload with
    | w :: r =>
      let i := getBits w 0 16
      if 31 < r.length then (s, stUndef)
      else if i ≠ 0 ∧ i ≠ s.svp.chunk then (s, stOrder)
      else
        let rec_ := (if i = 0 then [] else s.svp.chunks) ++ r
        if bit w 16 then
          let q := submitRecord rec_ (setSvp (fun h => { h with chunks := [], chunk := 0 }) s)
          (respond [BitVec.ofNat 36 q.2] q.1, q.2)
        else (setSvp (fun h => { h with chunks := rec_, chunk := i + 1 }) s, stOk)
    | [] => (s, stUndef)) s

def execRecord (f : SvpFrame) (s : State) : Host.Outcome State Fault Refusal := .next (svpRecord f s)

/-- FETCH: the latest prepared response; BUSY while none is ready. -/
def svpFetch (f : SvpFrame) (s : State) : State :=
  svpDo 6 f (unpaid f fun s =>
    match s.svp.resp with
    | .none => (answer [] s, stBusy)
    | .words l => (answer l s, stOk)
    | .msg =>
      if s.fldB F.SVP_MSG_TXRDY then
        let n := Nat.min (s.fld F.SVP_MSG_TXLEN) 8
        let l := (List.range n).map fun i => s.reg (R.SVP_TX i)
        (pendSrc 217 (answer l (setSvp (fun h => { h with resp := .none }) (s.setFld F.SVP_MSG_TXRDY 0))), stOk)
      else (answer [] s, stBusy)) s

def execFetch (f : SvpFrame) (s : State) : Host.Outcome State Fault Refusal := .next (svpFetch f s)

/-- MSG: 1 to 8 words to SVP_RX, unless a message waits or messages are not accepted. -/
def svpMsg (f : SvpFrame) (s : State) : State :=
  svpDo 7 f (unlessScrapped fun s =>
    let n := f.payload.length
    if n = 0 ∨ 8 < n then (s, stUndef)
    else if s.fldB F.SVP_MSG_RXV ∨ !s.fldB F.SVP_CFG_MSGEN then (s, stBusy)
    else
      let s := (List.range n).foldl (fun s i => s.setReg (R.SVP_RX i) (f.payload.getD i 0)) s
      let s := (s.setFld F.SVP_MSG_RXLEN n).setFld F.SVP_MSG_RXV 1
      (pendSrc 216 (setSvp (fun h => { h with resp := .msg }) s), stOk)) s

def execMsg (f : SvpFrame) (s : State) : Host.Outcome State Fault Refusal := .next (svpMsg f s)

/-- RUNBIST: as BIST_CMD.RUNLB; refused in SEALED and while the lane is VOTING. -/
def svpRunbist (f : SvpFrame) (s : State) : State :=
  svpDo 8 f (unlessScrapped <| unpaid f fun s =>
    if s.lcState = lcSealed ∨ s.lstate = lsVoting then (s, stState) else (runLb s, stOk)) s

def execRunbist (f : SvpFrame) (s : State) : Host.Outcome State Fault Refusal := .next (svpRunbist f s)

end Sys2Proof.Machine
end

