-- ==== Sys2Proof/Machine/Tap.lean ====
section
/-! DEFINITION. The debug TAP: its instructions, the debug access register and the attach of a debugger (R208, R214 to R216,
R539, R559). -/

namespace Sys2Proof.Machine

/-! Instruction codes (R559) -/

def tapExtest : BitVec 5 := 0b00000
def tapSample : BitVec 5 := 0b00001
def tapIdcode : BitVec 5 := 0b00010
def tapAttach : BitVec 5 := 0b10000
def tapBypass : BitVec 5 := 0b11111

/-- The identification register (R559). -/
def tapIdWord : BitVec 32 := 0x20336D71

/-- Load an instruction: none can be loaded while the port is closed (R215). -/
def tapLoad (ir : BitVec 5) (s : State) : State :=
  if portOpen s then { s with tap := { s.tap with ir := ir } } else s

/-- The data register that an instruction selects, by its length; boundary scan has none of the model's (R559). -/
inductive TapReg
  | boundary | ident | debug | bypass
deriving DecidableEq, Repr

def tapSelected (s : State) : TapReg :=
  if !portOpen s then .ident else
  if s.tap.ir = tapExtest ∨ s.tap.ir = tapSample then .boundary
  else if s.tap.ir = tapIdcode then .ident
  else if s.tap.ir = tapAttach then .debug
  else .bypass

def execExtest (s : State) : Host.Outcome State Fault Refusal := .next (tapLoad tapExtest s)
def execSamplePreload (s : State) : Host.Outcome State Fault Refusal := .next (tapLoad tapSample s)
def execIdcode (s : State) : Host.Outcome State Fault Refusal := .next (tapLoad tapIdcode s)

/-- BYPASS, or an undefined code, which acts as BYPASS: the code is that of BYPASS or one of no instruction (R559). -/
def execBypass (code : BitVec 5) (s : State) : Host.Outcome State Fault Refusal :=
  .next (if [tapExtest, tapSample, tapIdcode, tapAttach].contains code then s else tapLoad code s)

/-- TAP_RESET: Test-Logic-Reset, in which IDCODE is selected (R559). -/
def execTapReset (s : State) : Host.Outcome State Fault Refusal :=
  .next { s with tap := testLogicReset s.tap }

/-- TAP_ACTIVITY while the port is closed: source 255 (R539). -/
def execTapActivity (s : State) : Host.Outcome State Fault Refusal :=
  .next (if clocked s && !portOpen s then pendSrc 255 s else s)

/-! Attach (R214) -/

/-- A shadow stops in the cycle of the attach. -/
def stopShadow (p : Fin 2) (s : State) : State :=
  let c := s.cores[shadowOf p]
  if s.health (shadowOf p) = hcSingle then s
  else if c.run = .running ∨ c.run = .held then
    s.setCoreOnly (shadowOf p) (c.off .stopped)
  else s

/-- A pair under a debugger reads 7 unless it is halted, under test, single or retired. -/
def debugPair (p : Fin 2) (s : State) : State :=
  let s := stopShadow p s
  if s.pst p = psReset ∨ s.pst p = psJoined ∨ s.pst p = psSplit then setPst p psDebug s else s

/-- An unequal code of a pair, in step or in the copy of a JOIN, in the cycle of the attach: the mismatch is logged, no self-test runs, the pair stays halted (R208). -/
def attachMismatch (p : Fin 2) (mis : Option (BitVec 64 × Addr)) (s : State) : State :=
  match mis with
  | none => s
  | some (groups, pc) =>
    if (s.pst p = psJoined ∨ joinCopying p s) ∧ groups ≠ 0 then
      let s := recordMismatch p groups pc (hoistFlag 0 (haltPair p s))
      let s := s.incFld (mmcntFld p)
      if isSafety s p then s.setFld F.LSC_STAT_JINH 1 else s
    else s

/-- The effect of ATTACH at Update-IR: comparators off, DBG hoisted, DEBUG entered, both shadows stopped (R162, R214). -/
def attachNow (m0 m1 : Option (BitVec 64 × Addr)) (s : State) : State :=
  if s.lstate = lsOffline ∨ attached s then s
  else
    let s := attachMismatch 1 m1 (attachMismatch 0 m0 s)
    let s := hoistFlag 3 (s.setFld F.DBG_STAT_ATTACHED 1)
    let s := debugPair 1 (debugPair 0 (pendSrc 23 s))
    if s.lstate = lsStruck then s else setLaneState lsDebug { s with xla := { s.xla with since := none } }

/-- ATTACH, with the unequal codes that its cycle meets in P0 and in P1, if any (R208, R214, R215). -/
def execAttach (m0 m1 : Option (BitVec 64 × Addr)) (s : State) : Host.Outcome State Fault Refusal :=
  .next (if portOpen s then whenClocked (attachNow m0 m1) (tapLoad tapAttach s) else s)

/-! The debug access register (R559) -/

def dbgDone : Nat := 0
def dbgRefused : Nat := 2

/-- The result and the status that the next Capture-DR loads. -/
def tapResult (st : Nat) (v : Word) (s : State) : State := { s with tap := { s.tap with result := v, status := st } }

/-- An operation without a result of its own: what Capture-DR loads in [35:0] is a free value. -/
def tapOpen (st : Nat) (s : State) : State := tapResult st s.freeVal s.useFree

/-- May the debugger use the debug access register? -/
def debugAccess (s : State) : Bool := clocked s && portOpen s && decide (s.tap.ir = tapAttach)

/-- Control registers 48 to 63 as the debugger reads them: DCTRL and c60 to c63 read 0 (R216). -/
def debugRegRead (c : Core) (n : BitVec 6) : Word :=
  if n = 48 ∨ 60 ≤ n.toNat then 0 else c.getC (Fin.ofNat 64 n.toNat)

/-- A register of c48 to c63 written by the debugger: DSTAT, DPC and DSTATUS are read-only, writes of c60 to c63 are
ignored (R216). -/
def debugRegWrite (k : Fin 4) (n : BitVec 6) (v : Word) (s : State) : State :=
  if n = 48 then debugControl k v s
  else if debugReg n.toNat then
    s.setCore k (s.cores[k].setC (Fin.ofNat 64 n.toNat) (v &&& ctlMask n.toNat))
  else s

/-- DEBUG_READ: a number below 48 is refused (R559). -/
def debugRead (n : BitVec 6) (s : State) : State :=
  if debugAccess s then
    if n.toNat < 48 then tapOpen dbgRefused s
    else tapResult dbgDone (debugRegRead s.cores[s.tap.core] n) s
  else s

def execDebugRead (n : BitVec 6) (s : State) : Host.Outcome State Fault Refusal := .next (debugRead n s)

/-- DEBUG_WRITE: a number below 48 is refused (R559). -/
def debugWrite (n : BitVec 6) (v : Word) (s : State) : State :=
  if debugAccess s then
    if n.toNat < 48 then tapOpen dbgRefused s
    else tapOpen dbgDone (debugRegWrite s.tap.core n v s)
  else s

def execDebugWrite (n : BitVec 6) (v : Word) (s : State) : Host.Outcome State Fault Refusal := .next (debugWrite n v s)

/-- DEBUG_SELECT_CORE (R559). -/
def execDebugSelectCore (k : Fin 4) (s : State) : Host.Outcome State Fault Refusal :=
  .next (if debugAccess s then tapOpen dbgDone { s with tap := { s.tap with core := k } } else s)

/-! DCTRL (R216) -/

def execHalt (s : State) : Host.Outcome State Fault Refusal := .next (debugWrite 48 1 s)
def execStep (s : State) : Host.Outcome State Fault Refusal := .next (debugWrite 48 2 s)
def execResume (s : State) : Host.Outcome State Fault Refusal := .next (debugWrite 48 4 s)

end Sys2Proof.Machine
end

