-- ==== Sys2Proof/Machine/Dispatch.lean ====
section
/-! DEFINITION. The command's meaning, one arm per constructor. -/

namespace Sys2Proof.Machine

def exec (i : Instr) (s : State) : Host.Outcome State Fault Refusal :=
  match i with
  | .powerOnReset => Sys2Proof.Machine.execPowerOnReset s
  | .startUp r => Sys2Proof.Machine.execStartUp r s
  | .wipeComplete => Sys2Proof.Machine.execWipeComplete s
  | .clockFault => Sys2Proof.Machine.execClockFault s
  | .warmReset rq => Sys2Proof.Machine.execWarmReset rq s
  | .frameStart => Sys2Proof.Machine.execFrameStart s
  | .overlayBuildComplete => Sys2Proof.Machine.execOverlayBuildComplete s
  | .rollingLbistEnd partF j0 j1 => Sys2Proof.Machine.execRollingLbistEnd partF j0 j1 s
  | .inputRound1 => Sys2Proof.Machine.execInputRound1 s
  | .inputRound2 => Sys2Proof.Machine.execInputRound2 s
  | .inputMessage link relay symOk m => Sys2Proof.Machine.execInputMessage link relay symOk m s
  | .outputMessage link relay symOk m => Sys2Proof.Machine.execOutputMessage link relay symOk m s
  | .stateMessage link relay symOk m => Sys2Proof.Machine.execStateMessage link relay symOk m s
  | .mirrorMessage link symOk m => Sys2Proof.Machine.execMirrorMessage link symOk m s
  | .joinMessage link symOk m => Sys2Proof.Machine.execJoinMessage link symOk m s
  | .inputSelection => Sys2Proof.Machine.execInputSelection s
  | .inputClose => Sys2Proof.Machine.execInputClose s
  | .frameWaitRelease wlost => Sys2Proof.Machine.execFrameWaitRelease wlost s
  | .voteRound1 => Sys2Proof.Machine.execVoteRound1 s
  | .voteRound2 => Sys2Proof.Machine.execVoteRound2 s
  | .voteClose => Sys2Proof.Machine.execVoteClose s
  | .voteIncomplete => Sys2Proof.Machine.execVoteIncomplete s
  | .isolationTestEnd => Sys2Proof.Machine.execIsolationTestEnd s
  | .midWindowStart => Sys2Proof.Machine.execMidWindowStart s
  | .tailWindowStart => Sys2Proof.Machine.execTailWindowStart s
  | .resyncBlockTimeout => Sys2Proof.Machine.execResyncBlockTimeout s
  | .joinSend => Sys2Proof.Machine.execJoinSend s
  | .acceptDeadline => Sys2Proof.Machine.execAcceptDeadline s
  | .formationEpoch => Sys2Proof.Machine.execFormationEpoch s
  | .soloTimeout => Sys2Proof.Machine.execSoloTimeout s
  | .xlaEnable rq v => Sys2Proof.Machine.execXlaEnable rq v s
  | .xlaDisable rq v => Sys2Proof.Machine.execXlaDisable rq v s
  | .resync rq => Sys2Proof.Machine.execResync rq s
  | .leave rq => Sys2Proof.Machine.execLeave rq s
  | .abort rq => Sys2Proof.Machine.execAbort rq s
  | .keyld rq => Sys2Proof.Machine.execKeyld rq s
  | .xlaDuplicateMismatch => Sys2Proof.Machine.execXlaDuplicateMismatch s
  | .halyardChange x level atCtrl atDie => Sys2Proof.Machine.execHalyardChange x level atCtrl atDie s
  | .quietTimeElapsed => Sys2Proof.Machine.execQuietTimeElapsed s
  | .sharedGateArm => Sys2Proof.Machine.execSharedGateArm s
  | .halyardStuck => Sys2Proof.Machine.execHalyardStuck s
  | .claim rq => Sys2Proof.Machine.execClaim rq s
  | .release rq => Sys2Proof.Machine.execRelease rq s
  | .safe rq => Sys2Proof.Machine.execSafe rq s
  | .limpWarning => Sys2Proof.Machine.execLimpWarning s
  | .limpExpiry => Sys2Proof.Machine.execLimpExpiry s
  | .faultLogWrite => Sys2Proof.Machine.execFaultLogWrite s
  | .faultLogEnable rq v => Sys2Proof.Machine.execFaultLogEnable rq v s
  | .comparatorMismatch p groups pc => Sys2Proof.Machine.execComparatorMismatch p groups pc s
  | .comparatorFault p groups pc => Sys2Proof.Machine.execComparatorFault p groups pc s
  | .selfTestVerdict p leadOk shadowOk => Sys2Proof.Machine.execSelfTestVerdict p leadOk shadowOk s
  | .restart1 rq => Sys2Proof.Machine.execRestart1 rq s
  | .retire1 rq => Sys2Proof.Machine.execRetire1 rq s
  | .attach m0 m1 => Sys2Proof.Machine.execAttach m0 m1 s
  | .extest => Sys2Proof.Machine.execExtest s
  | .samplePreload => Sys2Proof.Machine.execSamplePreload s
  | .idcode => Sys2Proof.Machine.execIdcode s
  | .bypass code => Sys2Proof.Machine.execBypass code s
  | .debugRead n => Sys2Proof.Machine.execDebugRead n s
  | .debugWrite n v => Sys2Proof.Machine.execDebugWrite n v s
  | .debugSelectCore k => Sys2Proof.Machine.execDebugSelectCore k s
  | .halt => Sys2Proof.Machine.execHalt s
  | .step => Sys2Proof.Machine.execStep s
  | .resume => Sys2Proof.Machine.execResume s
  | .interruptEntry k => Sys2Proof.Machine.execInterruptEntry k s
  | .softwareInterrupt rq v => Sys2Proof.Machine.execSoftwareInterrupt rq v s
  | .secBudgetExpiry k => Sys2Proof.Machine.execSecBudgetExpiry k s
  | .storeErrorResponse k => Sys2Proof.Machine.execStoreErrorResponse k s
  | .add k rd ra rb => Sys2Proof.Machine.execAdd k rd ra rb s
  | .adds k rd ra rb => Sys2Proof.Machine.execAdds k rd ra rb s
  | .sub k rd ra rb => Sys2Proof.Machine.execSub k rd ra rb s
  | .subs k rd ra rb => Sys2Proof.Machine.execSubs k rd ra rb s
  | .cmp k ra rb => Sys2Proof.Machine.execCmp k ra rb s
  | .neg k rd ra => Sys2Proof.Machine.execNeg k rd ra s
  | .negs k rd ra => Sys2Proof.Machine.execNegs k rd ra s
  | .abs k rd ra => Sys2Proof.Machine.execAbs k rd ra s
  | .abss k rd ra => Sys2Proof.Machine.execAbss k rd ra s
  | .and k rd ra rb => Sys2Proof.Machine.execAnd k rd ra rb s
  | .or k rd ra rb => Sys2Proof.Machine.execOr k rd ra rb s
  | .xor k rd ra rb => Sys2Proof.Machine.execXor k rd ra rb s
  | .andn k rd ra rb => Sys2Proof.Machine.execAndn k rd ra rb s
  | .clz k rd ra => Sys2Proof.Machine.execClz k rd ra s
  | .shl k rd ra rb => Sys2Proof.Machine.execShl k rd ra rb s
  | .shr k rd ra rb => Sys2Proof.Machine.execShr k rd ra rb s
  | .sar k rd ra rb => Sys2Proof.Machine.execSar k rd ra rb s
  | .sarr k rd ra rb => Sys2Proof.Machine.execSarr k rd ra rb s
  | .shls k rd ra rb => Sys2Proof.Machine.execShls k rd ra rb s
  | .rot k rd ra rb => Sys2Proof.Machine.execRot k rd ra rb s
  | .min k rd ra rb => Sys2Proof.Machine.execMin k rd ra rb s
  | .max k rd ra rb => Sys2Proof.Machine.execMax k rd ra rb s
  | .minu k rd ra rb => Sys2Proof.Machine.execMinu k rd ra rb s
  | .maxu k rd ra rb => Sys2Proof.Machine.execMaxu k rd ra rb s
  | .clamp k rd ra rb rc => Sys2Proof.Machine.execClamp k rd ra rb rc s
  | .mid3 k rd ra rb rc => Sys2Proof.Machine.execMid3 k rd ra rb rc s
  | .mean2 k rd ra rb => Sys2Proof.Machine.execMean2 k rd ra rb s
  | .maj3 k rd ra rb rc => Sys2Proof.Machine.execMaj3 k rd ra rb rc s
  | .addi k rd ra imm => Sys2Proof.Machine.execAddi k rd ra imm s
  | .addis k rd ra imm => Sys2Proof.Machine.execAddis k rd ra imm s
  | .andi k rd ra imm => Sys2Proof.Machine.execAndi k rd ra imm s
  | .ori k rd ra imm => Sys2Proof.Machine.execOri k rd ra imm s
  | .xori k rd ra imm => Sys2Proof.Machine.execXori k rd ra imm s
  | .cmpi k ra imm => Sys2Proof.Machine.execCmpi k ra imm s
  | .shi k rd ra kind n => Sys2Proof.Machine.execShi k rd ra kind n s
  | .li k rd imm => Sys2Proof.Machine.execLi k rd imm s
  | .lhi k rd imm => Sys2Proof.Machine.execLhi k rd imm s
  | .mul k rd ra rb => Sys2Proof.Machine.execMul k rd ra rb s
  | .muls k rd ra rb => Sys2Proof.Machine.execMuls k rd ra rb s
  | .mulw k rd ra rb => Sys2Proof.Machine.execMulw k rd ra rb s
  | .mulwu k rd ra rb => Sys2Proof.Machine.execMulwu k rd ra rb s
  | .mulq k rd ra rb => Sys2Proof.Machine.execMulq k rd ra rb s
  | .mulqw k rd ra rb => Sys2Proof.Machine.execMulqw k rd ra rb s
  | .madq k rd ra rb rc => Sys2Proof.Machine.execMadq k rd ra rb rc s
  | .div k rd rc ra rb => Sys2Proof.Machine.execDiv k rd rc ra rb s
  | .divu k rd rc ra rb => Sys2Proof.Machine.execDivu k rd rc ra rb s
  | .divq k rd rc ra rb => Sys2Proof.Machine.execDivq k rd rc ra rb s
  | .cvtqi k rd ra => Sys2Proof.Machine.execCvtqi k rd ra s
  | .cvtiq k rd ra => Sys2Proof.Machine.execCvtiq k rd ra s
  | .ox k rd ra j sz sx => Sys2Proof.Machine.execOx k rd ra j sz sx s
  | .oi k rd rb j sz => Sys2Proof.Machine.execOi k rd rb j sz s
  | .ld k rd ra imm f => Sys2Proof.Machine.execLd k rd ra imm f s
  | .st k rs ra imm f => Sys2Proof.Machine.execSt k rs ra imm f s
  | .ldp k rd ra imm f1 f2 => Sys2Proof.Machine.execLdp k rd ra imm f1 f2 s
  | .stp k rs ra imm f1 f2 => Sys2Proof.Machine.execStp k rs ra imm f1 f2 s
  | .swap k rd ra rb f => Sys2Proof.Machine.execSwap k rd ra rb f s
  | .aadd k rd ra rb f => Sys2Proof.Machine.execAadd k rd ra rb f s
  | .cas k rd ra rb rc f => Sys2Proof.Machine.execCas k rd ra rb rc f s
  | .bCond k cond off => Sys2Proof.Machine.execBCond k cond off s
  | .call k off => Sys2Proof.Machine.execCall k off s
  | .jr k ra imm => Sys2Proof.Machine.execJr k ra imm s
  | .callr k ra imm => Sys2Proof.Machine.execCallr k ra imm s
  | .nop k w f => Sys2Proof.Machine.execNop k w f s
  | .fence k => Sys2Proof.Machine.execFence k s
  | .mfc k rd n => Sys2Proof.Machine.execMfc k rd n s
  | .mtc k n ra => Sys2Proof.Machine.execMtc k n ra s
  | .trap k imm => Sys2Proof.Machine.execTrap k imm s
  | .brk k => Sys2Proof.Machine.execBrk k s
  | .tret k => Sys2Proof.Machine.execTret k s
  | .iret k => Sys2Proof.Machine.execIret k s
  | .wfi k => Sys2Proof.Machine.execWfi k s
  | .wfiResume k => Sys2Proof.Machine.execWfiResume k s
  | .waitf k rd => Sys2Proof.Machine.execWaitf k rd s
  | .waitfResume k => Sys2Proof.Machine.execWaitfResume k s
  | .xsub k rd => Sys2Proof.Machine.execXsub k rd s
  | .split k rd => Sys2Proof.Machine.execSplit k rd s
  | .join k rd ra => Sys2Proof.Machine.execJoin k rd ra s
  | .joinComplete p => Sys2Proof.Machine.execJoinComplete p s
  | .joinTimeout k => Sys2Proof.Machine.execJoinTimeout k s
  | .hoist k n => Sys2Proof.Machine.execHoist k n s
  | .dip k n => Sys2Proof.Machine.execDip k n s
  | .senter k g f => Sys2Proof.Machine.execSenter k g f s
  | .sexit k => Sys2Proof.Machine.execSexit k s
  | .sexitz k => Sys2Proof.Machine.execSexitz k s
  | .periodStart n => Sys2Proof.Machine.execPeriodStart n s
  | .isnSample n => Sys2Proof.Machine.execIsnSample n s
  | .pwmEnable rq n v => Sys2Proof.Machine.execPwmEnable rq n v s
  | .pwmDisable rq n v => Sys2Proof.Machine.execPwmDisable rq n v s
  | .loadall rq banks => Sys2Proof.Machine.execLoadall rq banks s
  | .tripoff rq n => Sys2Proof.Machine.execTripoff rq n s
  | .tripshort rq n => Sys2Proof.Machine.execTripshort rq n s
  | .tripAssert n => Sys2Proof.Machine.execTripAssert n s
  | .edgePacket q crcOk => Sys2Proof.Machine.execEdgePacket q crcOk s
  | .edgeExecution q => Sys2Proof.Machine.execEdgeExecution q s
  | .tripPacket crcOk => Sys2Proof.Machine.execTripPacket crcOk s
  | .configurationWrite crcOk => Sys2Proof.Machine.execConfigurationWrite crcOk s
  | .configurationRepeat crcOk => Sys2Proof.Machine.execConfigurationRepeat crcOk s
  | .tsyncSend => Sys2Proof.Machine.execTsyncSend s
  | .tsync crcOk delay => Sys2Proof.Machine.execTsync crcOk delay s
  | .hello vmaj vmin dly => Sys2Proof.Machine.execHello vmaj vmin dly s
  | .upstreamSlot octets vbus vgd tdie pins => Sys2Proof.Machine.execUpstreamSlot octets vbus vgd tdie pins s
  | .bitstream crcOk => Sys2Proof.Machine.execBitstream crcOk s
  | .statusPacket crcOk => Sys2Proof.Machine.execStatusPacket crcOk s
  | .eventPacket crcOk => Sys2Proof.Machine.execEventPacket crcOk s
  | .linkLoss quiet dcode => Sys2Proof.Machine.execLinkLoss quiet dcode s
  | .controllerLinkLoss quiet ucode => Sys2Proof.Machine.execControllerLinkLoss quiet ucode s
  | .linkRetrain => Sys2Proof.Machine.execLinkRetrain s
  | .linkUp => Sys2Proof.Machine.execLinkUp s
  | .llrel rq => Sys2Proof.Machine.execLlrel rq s
  | .retrain rq => Sys2Proof.Machine.execRetrain rq s
  | .monitorReport n ph level held => Sys2Proof.Machine.execMonitorReport n ph level held s
  | .monitorRelease n ph level held => Sys2Proof.Machine.execMonitorRelease n ph level held s
  | .gateDriveReset => Sys2Proof.Machine.execGateDriveReset s
  | .emtest rq v => Sys2Proof.Machine.execEmtest rq v s
  | .emtestExpiry m => Sys2Proof.Machine.execEmtestExpiry m s
  | .chopperMinon => Sys2Proof.Machine.execChopperMinon s
  | .chopperMaxon => Sys2Proof.Machine.execChopperMaxon s
  | .chopperRestEnd => Sys2Proof.Machine.execChopperRestEnd s
  | .chopperEffectCheck vms => Sys2Proof.Machine.execChopperEffectCheck vms s
  | .hallChange n raw => Sys2Proof.Machine.execHallChange n raw s
  | .hallStandstill n => Sys2Proof.Machine.execHallStandstill n s
  | .catchTimeout n => Sys2Proof.Machine.execCatchTimeout n s
  | .lockedRotor n => Sys2Proof.Machine.execLockedRotor n s
  | .isnIuRead rq n => Sys2Proof.Machine.execIsnIuRead rq n s
  | .fceRun n => Sys2Proof.Machine.execFceRun n s
  | .fceRunComplete n => Sys2Proof.Machine.execFceRunComplete n s
  | .load rq n => Sys2Proof.Machine.execLoad rq n s
  | .fceImageCheck n => Sys2Proof.Machine.execFceImageCheck n s
  | .fceEnable rq n v => Sys2Proof.Machine.execFceEnable rq n v s
  | .fceDisable rq n v => Sys2Proof.Machine.execFceDisable rq n v s
  | .sdpStart rq v => Sys2Proof.Machine.execSdpStart rq v s
  | .sdpStop rq v => Sys2Proof.Machine.execSdpStop rq v s
  | .clr rq => Sys2Proof.Machine.execClr rq s
  | .sdpTimer => Sys2Proof.Machine.execSdpTimer s
  | .fastInterrupt => Sys2Proof.Machine.execFastInterrupt s
  | .sdpStoreError => Sys2Proof.Machine.execSdpStoreError s
  | .sdpNop w => Sys2Proof.Machine.execSdpNop w s
  | .sdpHalt => Sys2Proof.Machine.execSdpHalt s
  | .wait => Sys2Proof.Machine.execWait s
  | .rti => Sys2Proof.Machine.execRti s
  | .jmp t => Sys2Proof.Machine.execJmp t s
  | .jz t => Sys2Proof.Machine.execJz t s
  | .jnz t => Sys2Proof.Machine.execJnz t s
  | .jn t => Sys2Proof.Machine.execJn t s
  | .jnn t => Sys2Proof.Machine.execJnn t s
  | .sync => Sys2Proof.Machine.execSync s
  | .sig t => Sys2Proof.Machine.execSig t s
  | .xbank => Sys2Proof.Machine.execXbank s
  | .rep last count => Sys2Proof.Machine.execRep last count s
  | .repr last ds => Sys2Proof.Machine.execRepr last ds s
  | .mpy ad xs ys mv0 mv1 => Sys2Proof.Machine.execMpy ad xs ys mv0 mv1 s
  | .mac ad xs ys mv0 mv1 => Sys2Proof.Machine.execMac ad xs ys mv0 mv1 s
  | .msu ad xs ys mv0 mv1 => Sys2Proof.Machine.execMsu ad xs ys mv0 mv1 s
  | .macsu ad xs ys mv0 mv1 => Sys2Proof.Machine.execMacsu ad xs ys mv0 mv1 s
  | .mac2 mop ad xs ys mv0 mv1 => Sys2Proof.Machine.execMac2 mop ad xs ys mv0 mv1 s
  | .adda ad as_ mv => Sys2Proof.Machine.execAdda ad as_ mv s
  | .suba ad as_ mv => Sys2Proof.Machine.execSuba ad as_ mv s
  | .addq ad ds mv => Sys2Proof.Machine.execAddq ad ds mv s
  | .sdpAddi ad ds mv => Sys2Proof.Machine.execSdpAddi ad ds mv s
  | .subq ad ds mv => Sys2Proof.Machine.execSubq ad ds mv s
  | .subi ad ds mv => Sys2Proof.Machine.execSubi ad ds mv s
  | .nega ad as_ mv => Sys2Proof.Machine.execNega ad as_ mv s
  | .clra ad mv => Sys2Proof.Machine.execClra ad mv s
  | .mova ad as_ mv => Sys2Proof.Machine.execMova ad as_ mv s
  | .asha ad as_ n mv => Sys2Proof.Machine.execAsha ad as_ n mv s
  | .rsha ad as_ n mv => Sys2Proof.Machine.execRsha ad as_ n mv s
  | .abit ad ds mv => Sys2Proof.Machine.execAbit ad ds mv s
  | .lda ad ds mv => Sys2Proof.Machine.execLda ad ds mv s
  | .ldai ad ds mv => Sys2Proof.Machine.execLdai ad ds mv s
  | .cmpa ad as_ mv => Sys2Proof.Machine.execCmpa ad as_ mv s
  | .rnd dd as_ mv => Sys2Proof.Machine.execRnd dd as_ mv s
  | .rndi dd as_ mv => Sys2Proof.Machine.execRndi dd as_ mv s
  | .exh dd as_ mv => Sys2Proof.Machine.execExh dd as_ mv s
  | .exl dd as_ mv => Sys2Proof.Machine.execExl dd as_ mv s
  | .exg dd as_ mv => Sys2Proof.Machine.execExg dd as_ mv s
  | .sdpAdd dd da db mv => Sys2Proof.Machine.execSdpAdd dd da db mv s
  | .sdpAdds dd da db mv => Sys2Proof.Machine.execSdpAdds dd da db mv s
  | .sdpSub dd da db mv => Sys2Proof.Machine.execSdpSub dd da db mv s
  | .sdpSubs dd da db mv => Sys2Proof.Machine.execSdpSubs dd da db mv s
  | .sdpAnd dd da db mv => Sys2Proof.Machine.execSdpAnd dd da db mv s
  | .sdpOr dd da db mv => Sys2Proof.Machine.execSdpOr dd da db mv s
  | .sdpXor dd da db mv => Sys2Proof.Machine.execSdpXor dd da db mv s
  | .sdpShl dd da n mv => Sys2Proof.Machine.execSdpShl dd da n mv s
  | .sdpShr dd da n mv => Sys2Proof.Machine.execSdpShr dd da n mv s
  | .sdpSar dd da n mv => Sys2Proof.Machine.execSdpSar dd da n mv s
  | .shlr dd da db mv => Sys2Proof.Machine.execShlr dd da db mv s
  | .shrr dd da db mv => Sys2Proof.Machine.execShrr dd da db mv s
  | .mov dd da mv => Sys2Proof.Machine.execMov dd da mv s
  | .sdpCmp da db mv => Sys2Proof.Machine.execSdpCmp da db mv s
  | .ldi dd h imm => Sys2Proof.Machine.execLdi dd h imm s
  | .ldx d ix disp => Sys2Proof.Machine.execLdx d ix disp s
  | .stx d ix disp => Sys2Proof.Machine.execStx d ix disp s
  | .ldf d db imm f => Sys2Proof.Machine.execLdf d db imm f s
  | .stf d db imm f => Sys2Proof.Machine.execStf d db imm f s
  | .seti k imm => Sys2Proof.Machine.execSeti k imm s
  | .setm k imm => Sys2Proof.Machine.execSetm k imm s
  | .setb k imm => Sys2Proof.Machine.execSetb k imm s
  | .setl k imm => Sys2Proof.Machine.execSetl k imm s
  | .modi k => Sys2Proof.Machine.execModi k s
  | .movi k ds => Sys2Proof.Machine.execMovi k ds s
  | .movm k ds => Sys2Proof.Machine.execMovm k ds s
  | .rdi dd k => Sys2Proof.Machine.execRdi dd k s
  | .rdm dd k => Sys2Proof.Machine.execRdm dd k s
  | .qepEdge n a b => Sys2Proof.Machine.execQepEdge n a b s
  | .indexEvent n z => Sys2Proof.Machine.execIndexEvent n z s
  | .qepStandstill n => Sys2Proof.Machine.execQepStandstill n s
  | .speedDecay n => Sys2Proof.Machine.execSpeedDecay n s
  | .qepPosWrite rq n v => Sys2Proof.Machine.execQepPosWrite rq n v s
  | .qepCmpWrite rq n cen v => Sys2Proof.Machine.execQepCmpWrite rq n cen v s
  | .doen rq n v => Sys2Proof.Machine.execDoen rq n v s
  | .wireFault n ix vp vn held => Sys2Proof.Machine.execWireFault n ix vp vn held s
  | .pullTest n low edge => Sys2Proof.Machine.execPullTest n low edge s
  | .stuckLowCheck n ix => Sys2Proof.Machine.execStuckLowCheck n ix s
  | .sentPulse r p => Sys2Proof.Machine.execSentPulse r p s
  | .sentLineFault r low => Sys2Proof.Machine.execSentLineFault r low s
  | .sentFcRead rq r => Sys2Proof.Machine.execSentFcRead rq r s
  | .sentEnable rq r v => Sys2Proof.Machine.execSentEnable rq r v s
  | .sensorSupplyFault ix kind present => Sys2Proof.Machine.execSensorSupplyFault ix kind present s
  | .sensorSupplyRetry ix => Sys2Proof.Machine.execSensorSupplyRetry ix s
  | .sioTick pins => Sys2Proof.Machine.execSioTick pins s
  | .testPulseStart k => Sys2Proof.Machine.execTestPulseStart k s
  | .testPulseCheck k tpoLow pins => Sys2Proof.Machine.execTestPulseCheck k tpoLow pins s
  | .tpoPreCheck k high => Sys2Proof.Machine.execTpoPreCheck k high s
  | .outputTestPulse n => Sys2Proof.Machine.execOutputTestPulse n s
  | .outputTestCheck n high => Sys2Proof.Machine.execOutputTestCheck n high s
  | .outputOverload n => Sys2Proof.Machine.execOutputOverload n s
  | .sioEnable rq v => Sys2Proof.Machine.execSioEnable rq v s
  | .oclr rq v => Sys2Proof.Machine.execOclr rq v s
  | .nceEnable rq v => Sys2Proof.Machine.execNceEnable rq v s
  | .nceDisable rq v => Sys2Proof.Machine.execNceDisable rq v s
  | .cycleStart => Sys2Proof.Machine.execCycleStart s
  | .modeRequestTimeout => Sys2Proof.Machine.execModeRequestTimeout s
  | .frameAssembly j => Sys2Proof.Machine.execFrameAssembly j s
  | .frameSend => Sys2Proof.Machine.execFrameSend s
  | .minislotBoundary => Sys2Proof.Machine.execMinislotBoundary s
  | .networkIdleStart => Sys2Proof.Machine.execNetworkIdleStart s
  | .rosmelFrame p f start hold => Sys2Proof.Machine.execRosmelFrame p f start hold s
  | .syncFrame p f start => Sys2Proof.Machine.execSyncFrame p f start s
  | .looped p f start => Sys2Proof.Machine.execLooped p f start s
  | .dreq p f start => Sys2Proof.Machine.execDreq p f start s
  | .dresp p f start => Sys2Proof.Machine.execDresp p f start s
  | .delayRequestSend p => Sys2Proof.Machine.execDelayRequestSend p s
  | .loopedSend p => Sys2Proof.Machine.execLoopedSend p s
  | .noise p => Sys2Proof.Machine.execNoise p s
  | .portDown p => Sys2Proof.Machine.execPortDown p s
  | .wrap0 rq => Sys2Proof.Machine.execWrap0 rq s
  | .wrap1 rq => Sys2Proof.Machine.execWrap1 rq s
  | .nceUnwrap rq => Sys2Proof.Machine.execNceUnwrap rq s
  | .listenTimeout => Sys2Proof.Machine.execListenTimeout s
  | .modeRequest rq mode => Sys2Proof.Machine.execModeRequest rq mode s
  | .marchStart rq => Sys2Proof.Machine.execMarchStart rq s
  | .marchAbort rq => Sys2Proof.Machine.execMarchAbort rq s
  | .marchComplete reads again => Sys2Proof.Machine.execMarchComplete reads again s
  | .tamperEvent ix => Sys2Proof.Machine.execTamperEvent ix s
  | .eccWriteBack a => Sys2Proof.Machine.execEccWriteBack a s
  | .mramWriteComplete => Sys2Proof.Machine.execMramWriteComplete s
  | .scrubBlock found => Sys2Proof.Machine.execScrubBlock found s
  | .dmaStart rq c v => Sys2Proof.Machine.execDmaStart rq c v s
  | .dmaTrigger c => Sys2Proof.Machine.execDmaTrigger c s
  | .dmaTransferEnd c wlost => Sys2Proof.Machine.execDmaTransferEnd c wlost s
  | .dmaError c k fr fw => Sys2Proof.Machine.execDmaError c k fr fw s
  | .dmaStop rq c k => Sys2Proof.Machine.execDmaStop rq c k s
  | .powerStateRequest rq target => Sys2Proof.Machine.execPowerStateRequest rq target s
  | .powerEntry cut => Sys2Proof.Machine.execPowerEntry cut s
  | .cancel rq => Sys2Proof.Machine.execCancel rq s
  | .padrel rq => Sys2Proof.Machine.execPadrel rq s
  | .wakeEvent high ed adr found => Sys2Proof.Machine.execWakeEvent high ed adr found s
  | .domainPowerDown rq v => Sys2Proof.Machine.execDomainPowerDown rq v s
  | .domainWake d => Sys2Proof.Machine.execDomainWake d s
  | .rtcTick => Sys2Proof.Machine.execRtcTick s
  | .rtcSet rq => Sys2Proof.Machine.execSet rq s
  | .adopt rq => Sys2Proof.Machine.execAdopt rq s
  | .rtcXrefWrite rq v => Sys2Proof.Machine.execRtcXrefWrite rq v s
  | .alarmWrite rq which v => Sys2Proof.Machine.execAlarmWrite rq which v s
  | .rtcCrystalStop => Sys2Proof.Machine.execRtcCrystalStop s
  | .clockWarning windows => Sys2Proof.Machine.execClockWarning windows s
  | .supplyMonitor ix low => Sys2Proof.Machine.execSupplyMonitor ix low s
  | .powerupTestAge => Sys2Proof.Machine.execPowerupTestAge s
  | .oven rq v => Sys2Proof.Machine.execOven rq v s
  | .runlb rq => Sys2Proof.Machine.execRunlb rq s
  | .scrap rq => Sys2Proof.Machine.execScrap rq s
  | .endsess rq => Sys2Proof.Machine.execEndsess rq s
  | .lcyKoutRead rq => Sys2Proof.Machine.execLcyKoutRead rq s
  | .owner r => Sys2Proof.Machine.execOwner r s
  | .write r => Sys2Proof.Machine.execWrite r s
  | .keys r => Sys2Proof.Machine.execKeys r s
  | .seal r => Sys2Proof.Machine.execSeal r s
  | .sealOpen r => Sys2Proof.Machine.execSealOpen r s
  | .close r => Sys2Proof.Machine.execClose r s
  | .sealReturn r => Sys2Proof.Machine.execSealReturn r s
  | .scrapRecord r => Sys2Proof.Machine.execScrapRecord r s
  | .svpNop f cmd => Sys2Proof.Machine.execSvpNop f cmd s
  | .ident f => Sys2Proof.Machine.execIdent f s
  | .version f => Sys2Proof.Machine.execVersion f s
  | .read f => Sys2Proof.Machine.execRead f s
  | .svpWrite f => Sys2Proof.Machine.execSvpWrite f s
  | .record f => Sys2Proof.Machine.execRecord f s
  | .fetch f => Sys2Proof.Machine.execFetch f s
  | .msg f => Sys2Proof.Machine.execMsg f s
  | .runbist f => Sys2Proof.Machine.execRunbist f s
  | .registerWrite rq a v => Sys2Proof.Machine.execRegisterWrite rq a v s
  | .readClear rq a => Sys2Proof.Machine.execReadClear rq a s
  | .releaseTimeExpiry n => Sys2Proof.Machine.execReleaseTimeExpiry n s
  | .outputTestPulseEnd n => Sys2Proof.Machine.execOutputTestPulseEnd n s
  | .testPulseEnd k => Sys2Proof.Machine.execTestPulseEnd k s
  | .wireFaultClear n ix vp vn held => Sys2Proof.Machine.execWireFaultClear n ix vp vn held s
  | .sentLineHigh r => Sys2Proof.Machine.execSentLineHigh r s
  | .versionHoldTimeout => Sys2Proof.Machine.execVersionHoldTimeout s
  | .portUp p => Sys2Proof.Machine.execPortUp p s
  | .gateDrivePowerUp => Sys2Proof.Machine.execGateDrivePowerUp s
  | .rtcPowerUp => Sys2Proof.Machine.execRtcPowerUp s
  | .tapActivity => Sys2Proof.Machine.execTapActivity s
  | .tapReset => Sys2Proof.Machine.execTapReset s

end Sys2Proof.Machine
end

