-- ==== Sys2Proof/Machine/Tick.lean ====
section
/-! DEFINITION. One LCLK cycle in which no command acts: the times and the counters that run on their own (R27, R28, R57, R63,
R87, R113, R171, R238, R407). -/

namespace Sys2Proof.Machine

/-! LTIME (R27, R28) -/

/-- Cycles from one rate correction to the next: `corrN` of them spread evenly over the cycles of a frame, which are fewer when they
go forward, and never more than one in 1,000 cycles (R27, R28). -/
def corrSpan (s : State) : Nat := Nat.max 1000 ((s.fld F.XLA_TFRAME_TFRAME - s.corrN) / 2 / s.corrN)

/-- Does a rate correction fall in this cycle of the frame? -/
def corrDue (s : State) : Bool :=
  decide (s.frameCycle % corrSpan s = 0) && decide (s.frameCycle / corrSpan s < s.corrN)

/-- How far LTIME advances in this cycle: 2 ns, or 1 or 3 in a corrected one. -/
def ltimeStep (s : State) : Nat := if corrDue s then (if s.corrBack then 1 else 3) else 2

def tickTime (s : State) : State :=
  let d := ltimeStep s
  limpAdvance d { s with ltime := s.ltime + BitVec.ofNat 72 d, frameCycle := s.frameCycle + 1 }

/-! Cores (R57, R63, R64, R113) -/

/-- SEC_LEFT and the timeout of a JOIN count down; a timeout that stands at 0 with the other core not yet in its JOIN has
expired (R113). -/
def tickCore (other : Bool) (c : Core) : Core :=
  let c := if c.run = .running ∧ c.sec ∧ !c.firstSec ∧ c.getC 24 ≠ 0 ∧ c.getC 27 ≠ 0 then c.setC 27 (c.getC 27 - 1) else c
  match c.joinLeft with
  | some (some (n + 1)) => { c with joinLeft := some (some n) }
  | some (some 0) => if other then c else { c with joinOver := true }
  | _ => c

/-- Is a source held from a core by TH or SEC alone (R78, R87 INT_HOLDCNT)? -/
def heldSource (s : State) (k : Fin 4) : Bool :=
  let c := s.cores[k]
  issuesAlone s k && decide (c.run = .running) && (c.st stTH || c.sec)
    && (List.range 256).any fun n =>
      sourceFor s (codesOf s (targetOf k)) n && (c.st stIE || decide (s.fld (F.INT_CFG_LEVEL n) = 7))
        && decide (c.act < 2 ^ s.fld (F.INT_CFG_LEVEL n))

def tickCores (s : State) : State :=
  let s := if [(0 : Fin 4), 1, 2, 3].any (heldSource s) then s.incFld F.INT_HOLDCNT_HOLD else s
  { s with cores := Vector.ofFn fun k => tickCore (joinWaits s.cores[otherCore k]) s.cores[k], cycle := s.cycle + 1 }

/-! Blocks -/

/-- A pulse of a source with EDGE = 0 and the bits of INT_SWI last one cycle (R82, R87). -/
def tickInt (s : State) : State := { s.setFld F.INT_SWI_SWI 0 with intc := { pulse := 0, edges := 0, taken := 0 } }

/-- The period counters, bank 0 first (R220, R221). -/
def tickPwm (s : State) : State := countPwm 1 (countPwm 0 s)

/-- DTIME of both dies (R238), and the reports whose hold time is over (R261). -/
def tickDtime (s : State) : State :=
  let s := { s with dlk := { s.dlk with dtime := s.dlk.dtime + 2 } }
  if s.die.powered then { s with die := { s.die with dtime := s.die.dtime + 2 } } |> releaseReports else s

/-- A divided index pulse runs out (R358); an index latch put off by an error cycle follows (R359). -/
def tickQep (s : State) : State :=
  indexWaits 1 (indexWaits 0 { s with qep := s.qep.map fun q => { q with zLeft := q.zLeft - 1 } })

/-- Time that the MRAM scrub counts: in RUN, IDLE and SLEEP (R465, R484). -/
def tickScrub (s : State) : State := { s with memc := { s.memc with scrubNs := s.memc.scrubNs + 2 } }

/-- One LCLK cycle: nothing while the lane is held in reset, in DEEP or in OFF; LTIME and the scrub's time alone in SLEEP (R27, R484). -/
def tick (s : State) : State :=
  if s.pwr.startDue.isSome then s
  else if s.pwr.pstate = .sleep then tickScrub (tickTime s)
  else if clocked s then nceTick (tickQep (tickDtime (tickPwm (tickInt (tickCores (tickScrub (tickTime s)))))))
  else s

end Sys2Proof.Machine
end

