-- ==== Sys2Proof/Safety.lean ====
section
/-! DEFINITION. What a safe run of the lane is, and the terms in which the claims speak of what a command does. -/

namespace Sys2Proof

open Sys2Proof.Machine Sys2Proof.Moagar

/-! Runs -/

/-- Registers and memory are held in their canonical form, so that equal contents are equal data. -/
def Safety.Canonical (s : State) : Prop :=
  Sparse.wf regReset s.regs = true ∧ Memory.wf s.mem = true

/-- A step answers a next state: no command stops the lane. -/
def Safety.Goes (s : State) : Prop := ∃ t, step s = .next t

/-- Every command that waits is well formed. -/
def Safety.QueueOk (s : State) : Prop := ∀ i ∈ s.pending, i.wf = true

/-- A command answers a next state, and that state has a property. -/
def Safety.Runs (o : Host.Outcome State Fault Refusal) (P : State → Prop) : Prop := ∃ t, o = .next t ∧ P t

/-! What stays -/

/-- Every word of memory reads as before. -/
def Safety.MemKept (s t : State) : Prop := ∀ a, t.word a = s.word a

/-- Every word of memory outside the n words from a reads as before. -/
def Safety.MemKeptBut (a n : Nat) (s t : State) : Prop := ∀ b, ¬(a ≤ b ∧ b < a + n) → t.word b = s.word b

/-- Every memory-mapped register reads as before, those listed apart. -/
def Safety.RegsKeptBut (l : List Nat) (s t : State) : Prop := ∀ a, a ∉ l → t.reg a = s.reg a

/-- The registers that hold pending bits, bunting flags and what counts them. -/
def Safety.signalRegs : List Nat :=
  (List.range 8).map R.INT_PEND ++ (List.range 4).map R.FLT_BUNT ++ (List.range 8).map R.FLT_CNT ++ [R.FLT_LOGDROP]

/-- Of memory, cores, registers, bunting flags and pending bits only the listed registers, flags and interrupt sources may
differ. -/
def Safety.Only (regs flags srcs : List Nat) (s t : State) : Prop :=
  t.mem = s.mem ∧ t.cores = s.cores ∧ RegsKeptBut (regs ++ signalRegs) s t
    ∧ (∀ n, n < 144 → n ∉ flags → flagSet t n = flagSet s n) ∧ (∀ n, n < 256 → n ∉ srcs → pendBit t n = pendBit s n)

/-- Sources of a hoisted flag and of an entry of the fault log: IRQM (37) and a lost entry (38). -/
def Safety.hoistSrcs : List Nat := [37, 38]

/-! Cores -/

/-- The core issues an instruction of its own stream now: it runs and waits for nothing, it is not halted by a debugger, the
fetch at its PC succeeds and leaves the lane as it is, and no breakpoint or watchpoint matches. -/
def Safety.Ready (s : State) (k : Fin 4) (i : MInstr) : Prop :=
  canIssue s k = true ∧ s.cores[k].dhalt = false ∧ fetchTrap .ok k s = (s, none) ∧ ibpMatch s.cores[k] = none
    ∧ dwpMatch i s.cores[k] = none

/-- Ready for an instruction that addresses no data. -/
def Safety.Free (s : State) (k : Fin 4) : Prop := Safety.Ready s k .nop

/-- Is an exact result outside the 36-bit two's complement range? -/
def Safety.exceeds (x : Int) : Bool := decide (x < -(2 ^ 35)) || decide (2 ^ 35 ≤ x)

/-- The nearest value inside that range, as a word. -/
def Safety.clipped (x : Int) : Word := BitVec.ofInt 36 (max (-(2 ^ 35)) (min x (2 ^ 35 - 1)))

/-- The instruction ends with the core as given and the lane as given; only the model's pairing record is left open. In a
joined pair both cores hold the result. -/
def Safety.Ends (s : State) (k : Fin 4) (c : Core) (t : State) : Prop :=
  ∃ sl, t = s.setCore k { c with slot0 := sl, bpSkip := false, afterIret := false }

/-- It ends and the core goes on at the next word, nothing in the lane beside the core changed. -/
def Safety.Retires (s : State) (k : Fin 4) (c : Core) (t : State) : Prop := Safety.Ends s k c.next t

/-- It takes a trap with a code and a detail; TVAL is given, the core's registers are those of `c`. -/
def Safety.Traps (s : State) (k : Fin 4) (c : Core) (code detail : Nat) (tval : Word) (t : State) : Prop :=
  ∃ slot, t = takeTrap k ⟨code, detail, tval, false, slot⟩ (s.setCore k c)

/-- A trap has been entered: PC, STATUS, cause and address saved, TH hoisted, on at VBASE + code (R88). -/
def Safety.Entered (c c' : Core) (code detail : Nat) (tval : Word) : Prop :=
  c'.getC 5 = c.pc ∧ c'.getC 6 = c.getC 0 ∧ getBits (c'.getC 7) 0 6 = code ∧ getBits (c'.getC 7) 6 8 = detail
    ∧ c'.getC 8 = tval ∧ c'.st stTH = true ∧ (∀ i, i ≠ stTH → i < 36 → c'.st i = c.st i)
    ∧ c'.pc = c.getC 3 + BitVec.ofNat 36 code ∧ c'.g = c.g

/-- A word of SRAM outside the sealed bank that answers a read with its value: no march holds its bank, the bank is not
poisoned, and the word is not upset. -/
def Safety.SramGood (s : State) (a : Nat) : Prop :=
  a < 0xF0000 ∧ marching s (bankOf a) = false ∧ poisoned s (bankOf a) = false ∧ upsetAt s a = none

/-- A word of SRAM that takes a write of a class. -/
def Safety.SramOpen (s : State) (cls a : Nat) : Prop :=
  a < 0xF0000 ∧ marching s (bankOf a) = false ∧ (2 ≤ cls ∨ guardedSram s a = false)

/-! Register commands -/

/-- A write or read of the register by the source reaches its block: the lane is clocked, the window's domain is powered, and
the class suffices where the block asks for one. -/
def Safety.Accepts (s : State) (rq : Req) (a : Nat) : Prop :=
  clocked s = true ∧ wakeWindow a s = s ∧ (classBlocks.contains (a / 0x1000) = true → 2 ≤ rq.cls)

/-! The signal datapath -/

/-- The SDP issues its next instruction with these parallel moves undisturbed: it runs, its instruction word and the words
that the moves load are not upset, no repeat is active, no MAC result is due in this issue, and no move loads what another
stores. -/
def Safety.SdpGo (s : State) (ms : List Sdp.SMove) : Prop :=
  let b := sdpBank s
  clocked s = true ∧ sdpState s = sdpRunning ∧ upsetAt s (0x850800 + b.pc.toNat) = none ∧ b.loops = [] ∧ b.pipe2 = []
    ∧ (∀ m ∈ ms, m.store = false → upsetAt s (localAddr b.i[m.i]) = none)
    ∧ (∀ m ∈ ms, ∀ m' ∈ ms, m.store = true → m'.store = false → b.i[m.i] ≠ b.i[m'.i])

/-- After the issue: the active bank is `b` with the MAC operations of the issue in the pipeline; the SDP runs on in the same
bank; of the lane only the SDP's status and the registers of `l` may differ. -/
def Safety.SdpAt (s : State) (b : SdpBank) (macs : List MacOp) (l : List Nat) (t : State) : Prop :=
  sdpBank t = { b with pipe1 := macs, pipe2 := (sdpBank s).pipe1 } ∧ sdpState t = sdpRunning ∧ sdpBankNo t = sdpBankNo s
    ∧ t.mem = s.mem ∧ t.cores = s.cores ∧ RegsKeptBut (R.SDP_STAT :: l) s t

/-- The same for an instruction with parallel moves, which ends at the next program word: loads give the words as they stood,
post-modified indexes follow, and a store writes the register as it stood. -/
def Safety.SdpEnds (s : State) (ms : List Sdp.SMove) (b : SdpBank) (macs : List MacOp) (l : List Nat) (t : State) : Prop :=
  let o := sdpBank s
  let loads := (ms.filter fun m => !m.store).map fun m => (m.d, s.reg (localAddr o.i[m.i]))
  let b' := applyMoves ms loads b
  SdpAt s { b' with pc := o.pc + 1 } macs (l ++ (ms.filter fun m => m.store).map fun m => localAddr o.i[m.i]) t
    ∧ ∀ m, ms = [m] → m.store = true → t.reg (localAddr o.i[m.i]) = o.d[m.d]

end Sys2Proof
end

