-- ==== Sys2Proof/Certificates/Slice0/Obligations.lean ====
section
/-! DEFINITION. The statements for the provers: what the lane does, command by command and as a whole. -/

open Sys2Proof Sys2Proof.Machine Sys2Proof.Moagar Sys2Proof.Sdp Sys2Proof.Safety

/-! The Moagar-36 instructions -/

/-- R98, R99, R55: ADD, SUB, CMP, NEG, ABS, ADDI and CMPI. The frame is that of `Retires`: only rd, FLAGS and PC of
the core change. -/
def Obligations.WrappingArithmetic : Prop :=
  ∀ (s : State) (k : Fin 4) (rd ra rb : GReg) (imm : BitVec 20), Free s k →
    let c := s.cores[k]
    let a := c.getG ra
    let b := c.getG rb
    let i : Word := imm.signExtend 36
    let zn := fun (r : Word) => ({ z := some (decide (r = 0)), n := some r.msb } : FlagUpd)
    let add := fun (x y : Word) =>
      { zn (x + y) with c := some (decide (2 ^ 36 ≤ x.toNat + y.toNat)), v := some (exceeds (x.toInt + y.toInt)) }
    let sub := fun (x y : Word) =>
      { zn (x - y) with c := some (decide (y.toNat ≤ x.toNat)), v := some (exceeds (x.toInt - y.toInt)) }
    Runs (exec (.add k rd ra rb) s) (Retires s k ((c.setG rd (a + b)).flags (add a b)))
    ∧ Runs (exec (.sub k rd ra rb) s) (Retires s k ((c.setG rd (a - b)).flags (sub a b)))
    ∧ Runs (exec (.cmp k ra rb) s) (Retires s k (c.flags (sub a b)))
    ∧ Runs (exec (.neg k rd ra) s) (Retires s k ((c.setG rd (-a)).flags (sub 0 a)))
    ∧ (let r := if a.msb then -a else a
      Runs (exec (.abs k rd ra) s)
        (Retires s k ((c.setG rd r).flags { zn r with v := some (decide (a = 0x800000000)) })))
    ∧ Runs (exec (.addi k rd ra imm) s) (Retires s k ((c.setG rd (a + i)).flags (add a i)))
    ∧ Runs (exec (.cmpi k ra imm) s) (Retires s k (c.flags (sub a i)))

/-- R49, R55, R98 to R101: with OVT = 0 the saturating instructions give the exact result clipped to the range, set V
and hoist OV when it was clipped, and change nothing else. R53, R88: with OVT = 1 a saturating instruction whose exact
result lies outside the range, and with DZT = 1 a division by zero, writes no register but the sticky flag and takes
trap OVF or DZ. -/
def Obligations.SaturationAndTraps : Prop :=
  (∀ (s : State) (k : Fin 4) (rd ra rb rc : GReg) (imm : BitVec 20) (n6 : BitVec 6), Free s k → s.cores[k].st stOVT = false →
    let c := s.cores[k]
    let a := c.getG ra
    let b := c.getG rb
    let i : Word := imm.signExtend 36
    let znv := fun (x : Int) =>
      ({ z := some (decide (clipped x = 0)), n := some (clipped x).msb, v := some (exceeds x), ov := exceeds x } : FlagUpd)
    let ends := fun (x : Int) (f : FlagUpd) => Retires s k ((c.setG rd (clipped x)).flags f)
    Runs (exec (.adds k rd ra rb) s)
      (ends (a.toInt + b.toInt) { znv (a.toInt + b.toInt) with c := some (decide (2 ^ 36 ≤ a.toNat + b.toNat)) })
    ∧ (let x := a.toInt - b.toInt
      Runs (exec (.subs k rd ra rb) s) (ends x { znv x with c := some (decide (b.toNat ≤ a.toNat)) }))
    ∧ (let x := -a.toInt
      Runs (exec (.negs k rd ra) s) (ends x { znv x with c := some (decide (a = 0)) }))
    ∧ (let x := if a.toInt < 0 then -a.toInt else a.toInt
      Runs (exec (.abss k rd ra) s) (ends x (znv x)))
    ∧ (let x := a.toInt + i.toInt
      Runs (exec (.addis k rd ra imm) s) (ends x { znv x with c := some (decide (2 ^ 36 ≤ a.toNat + i.toNat)) }))
    ∧ (let x := a.toInt * 2 ^ (b.toNat % 256)
      Runs (exec (.shls k rd ra rb) s) (ends x (znv x)))
    ∧ (let x := a.toInt * b.toInt
      Runs (exec (.muls k rd ra rb) s) (ends x (znv x)))
    ∧ (let x := (a.toInt * b.toInt + 2 ^ 31) / 2 ^ 32
      Runs (exec (.mulq k rd ra rb) s) (ends x (znv x)))
    ∧ (let x := (a.toInt * b.toInt + (c.getG rc).toInt * 2 ^ 32 + 2 ^ 31) / 2 ^ 32
      Runs (exec (.madq k rd ra rb rc) s) (ends x (znv x)))
    ∧ (let x := a.toInt * 2 ^ 32
      Runs (exec (.cvtiq k rd ra) s) (ends x (znv x)))
    ∧ (n6.toNat ≤ 35 → let x := a.toInt * 2 ^ n6.toNat
      Runs (exec (.shi k rd ra 4 n6) s) (ends x (znv x))))
  ∧ (∀ (s : State) (k : Fin 4) (rd rc ra rb : GReg), Free s k →
    let c := s.cores[k]
    let a := c.getG ra
    let b := c.getG rb
    let ovf := Traps s k (c.flags { ov := true }) trOVF 0 0
    let dz := Traps s k (c.flags { dz := true }) trDZ 0 0
    (c.st stOVT = true → exceeds (a.toInt + b.toInt) = true → Runs (exec (.adds k rd ra rb) s) ovf)
    ∧ (c.st stOVT = true → exceeds (a.toInt - b.toInt) = true → Runs (exec (.subs k rd ra rb) s) ovf)
    ∧ (c.st stOVT = true → exceeds (a.toInt * b.toInt) = true → Runs (exec (.muls k rd ra rb) s) ovf)
    ∧ (c.st stOVT = true → a = 0x800000000 → Runs (exec (.abss k rd ra) s) ovf)
    ∧ (c.st stOVT = true → a = 0x800000000 → b = -1 → Runs (exec (.div k rd rc ra rb) s) ovf)
    ∧ (c.st stDZT = true → b = 0 → Runs (exec (.div k rd rc ra rb) s) dz)
    ∧ (c.st stDZT = true → b = 0 → Runs (exec (.divu k rd rc ra rb) s) dz)
    ∧ (c.st stDZT = true → b = 0 → Runs (exec (.divq k rd rc ra rb) s) dz))

/-- R98, R99: the bitwise instructions, CLZ and the loads of a constant. R54, R98, R99: the shifts by an amount of 0
to 255 from a register and of 0 to 35 from SHI; an undefined kind or amount of SHI is trap ILL. -/
def Obligations.LogicAndShifts : Prop :=
  (∀ (s : State) (k : Fin 4) (rd ra rb rc : GReg) (imm : BitVec 20) (i25 : BitVec 25) (i18 : BitVec 18), Free s k →
    let c := s.cores[k]
    let a := c.getG ra
    let b := c.getG rb
    let i : Word := imm.setWidth 36
    let ends := fun (r : Word) =>
      Retires s k ((c.setG rd r).flags { z := some (decide (r = 0)), n := some r.msb })
    Runs (exec (.and k rd ra rb) s) (ends (a &&& b))
    ∧ Runs (exec (.or k rd ra rb) s) (ends (a ||| b))
    ∧ Runs (exec (.xor k rd ra rb) s) (ends (a ^^^ b))
    ∧ Runs (exec (.andn k rd ra rb) s) (ends (a &&& ~~~b))
    ∧ Runs (exec (.maj3 k rd ra rb rc) s) (ends ((a &&& b) ||| (b &&& c.getG rc) ||| (a &&& c.getG rc)))
    ∧ Runs (exec (.clz k rd ra) s) (ends (BitVec.ofNat 36 (if a = 0 then 36 else 35 - a.toNat.log2)))
    ∧ Runs (exec (.andi k rd ra imm) s) (ends (a &&& i))
    ∧ Runs (exec (.ori k rd ra imm) s) (ends (a ||| i))
    ∧ Runs (exec (.xori k rd ra imm) s) (ends (a ^^^ i))
    ∧ Runs (exec (.li k rd i25) s) (Retires s k (c.setG rd (i25.signExtend 36)))
    ∧ Runs (exec (.lhi k rd i18) s) (Retires s k (c.setG rd (i18 ++ (0 : BitVec 18)))))
  ∧ (∀ (s : State) (k : Fin 4) (rd ra rb : GReg) (n6 : BitVec 6) (kind : BitVec 3), Free s k →
    let c := s.cores[k]
    let a := c.getG ra
    let n := (c.getG rb).toNat % 256
    let ends := fun (r : Word) =>
      Retires s k ((c.setG rd r).flags { z := some (decide (r = 0)), n := some r.msb })
    let sarr := fun (m : Nat) => if m = 0 then a else BitVec.ofInt 36 ((a.toInt + 2 ^ (m - 1)) / 2 ^ m)
    Runs (exec (.shl k rd ra rb) s) (ends (a <<< n))
    ∧ Runs (exec (.shr k rd ra rb) s) (ends (a >>> n))
    ∧ Runs (exec (.sar k rd ra rb) s) (ends (a.sshiftRight n))
    ∧ Runs (exec (.sarr k rd ra rb) s) (ends (sarr n))
    ∧ Runs (exec (.rot k rd ra rb) s) (ends (a.rotateLeft n))
    ∧ (n6.toNat ≤ 35 →
        (kind = 0 → Runs (exec (.shi k rd ra kind n6) s) (ends (a <<< n6.toNat)))
        ∧ (kind = 1 → Runs (exec (.shi k rd ra kind n6) s) (ends (a >>> n6.toNat)))
        ∧ (kind = 2 → Runs (exec (.shi k rd ra kind n6) s) (ends (a.sshiftRight n6.toNat)))
        ∧ (kind = 3 → Runs (exec (.shi k rd ra kind n6) s) (ends (sarr n6.toNat)))
        ∧ (kind = 5 → Runs (exec (.shi k rd ra kind n6) s) (ends (a.rotateLeft n6.toNat))))
    ∧ (35 < n6.toNat ∨ 6 ≤ kind.toNat → Runs (exec (.shi k rd ra kind n6) s) (Traps s k c trILL 0 0))
    ∧ (c.st stOVT = false →
        let sat := fun (x : Int) =>
          Retires s k ((c.setG rd (clipped x)).flags
            { z := some (decide (clipped x = 0)), n := some (clipped x).msb, v := some (exceeds x), ov := exceeds x })
        Runs (exec (.shls k rd ra rb) s) (sat (a.toInt * 2 ^ n))
        ∧ (n6.toNat ≤ 35 → Runs (exec (.shi k rd ra 4 n6) s) (sat (a.toInt * 2 ^ n6.toNat)))))

/-- R98: minimum, maximum, clamp, median and mean, on exact values. -/
def Obligations.SelectionInstructions : Prop :=
  ∀ (s : State) (k : Fin 4) (rd ra rb rc : GReg), Free s k →
    let c := s.cores[k]
    let a := c.getG ra
    let b := c.getG rb
    let d := c.getG rc
    let ends := fun (r : Word) =>
      Retires s k ((c.setG rd r).flags { z := some (decide (r = 0)), n := some r.msb })
    let ofI := fun (x : Int) => BitVec.ofInt 36 x
    Runs (exec (.min k rd ra rb) s) (ends (ofI (min a.toInt b.toInt)))
    ∧ Runs (exec (.max k rd ra rb) s) (ends (ofI (max a.toInt b.toInt)))
    ∧ Runs (exec (.minu k rd ra rb) s) (ends (BitVec.ofNat 36 (min a.toNat b.toNat)))
    ∧ Runs (exec (.maxu k rd ra rb) s) (ends (BitVec.ofNat 36 (max a.toNat b.toNat)))
    ∧ (let r := ofI (max b.toInt (min a.toInt d.toInt))
      Runs (exec (.clamp k rd ra rb rc) s)
        (Retires s k ((c.setG rd r).flags { z := some (decide (r = 0)), n := some r.msb, v := some (decide (r ≠ a)) })))
    ∧ Runs (exec (.mid3 k rd ra rb rc) s)
        (ends (ofI (max (min a.toInt b.toInt) (min (max a.toInt b.toInt) d.toInt))))
    ∧ Runs (exec (.mean2 k rd ra rb) s) (ends (ofI ((a.toInt + b.toInt + 1) / 2)))

/-- R47, R50, R51, R100: the wrapping multiplies and CVTQI; a pair result to an odd register or g0 is trap ILL. -/
def Obligations.MultipliesAndConversion : Prop :=
  ∀ (s : State) (k : Fin 4) (rd ra rb : GReg), Free s k →
    let c := s.cores[k]
    let a := c.getG ra
    let b := c.getG rb
    let zn := fun (r : Word) => ({ z := some (decide (r = 0)), n := some r.msb } : FlagUpd)
    let pair := fun (p : BitVec 72) => Retires s k
      ((c.setPair rd (p.extractLsb' 36 36) (p.extractLsb' 0 36)).flags { z := some (decide (p = 0)), n := some p.msb })
    let q := (a.toInt * b.toInt + 2 ^ 31) / 2 ^ 32
    Runs (exec (.mul k rd ra rb) s) (Retires s k ((c.setG rd (a * b)).flags (zn (a * b))))
    ∧ (let r := BitVec.ofInt 36 q
      Runs (exec (.mulqw k rd ra rb) s)
        (Retires s k ((c.setG rd r).flags { zn r with v := some (decide (r ≠ clipped q)) })))
    ∧ (let r := BitVec.ofInt 36 ((a.toInt + 2 ^ 31) / 2 ^ 32)
      Runs (exec (.cvtqi k rd ra) s) (Retires s k ((c.setG rd r).flags (zn r))))
    ∧ (rd.val % 2 = 0 → rd ≠ 0 →
        Runs (exec (.mulw k rd ra rb) s) (pair (BitVec.ofInt 72 (a.toInt * b.toInt)))
        ∧ Runs (exec (.mulwu k rd ra rb) s) (pair (BitVec.ofNat 72 (a.toNat * b.toNat))))
    ∧ (rd.val % 2 = 1 ∨ rd = 0 →
        Runs (exec (.mulw k rd ra rb) s) (Traps s k c trILL 0 0)
        ∧ Runs (exec (.mulwu k rd ra rb) s) (Traps s k c trILL 0 0))

/-- R52, R100, R101: the divisions with DZT = 0 and OVT = 0: quotient truncated toward zero, remainder with the
dividend's sign; a zero divisor gives the limit on the dividend's side and hoists DZ, a quotient out of range the
limit and hoists OV. -/
def Obligations.Divisions : Prop :=
  ∀ (s : State) (k : Fin 4) (rd rc ra rb : GReg), Free s k → s.cores[k].st stDZT = false → s.cores[k].st stOVT = false →
    let c := s.cores[k]
    let a := c.getG ra
    let b := c.getG rb
    let ends := fun (q r : Word) (ov dz : Bool) => Retires s k (((c.setG rd q).setG rc r).flags
      { z := some (decide (q = 0)), n := some q.msb, v := some ov, ov := ov, dz := dz })
    let signed := fun (n : Int) =>
      let q := n.tdiv b.toInt
      if exceeds q then ends (clipped q) 0 true false
      else ends (BitVec.ofInt 36 q) (BitVec.ofInt 36 (n - q * b.toInt)) false false
    let limit : Word := if a.toInt < 0 then 0x800000000 else 0x7FFFFFFFF
    (b ≠ 0 →
      Runs (exec (.div k rd rc ra rb) s) (signed a.toInt)
      ∧ Runs (exec (.divq k rd rc ra rb) s) (signed (a.toInt * 2 ^ 32))
      ∧ Runs (exec (.divu k rd rc ra rb) s)
          (ends (BitVec.ofNat 36 (a.toNat / b.toNat)) (BitVec.ofNat 36 (a.toNat % b.toNat)) false false))
    ∧ (b = 0 →
      Runs (exec (.div k rd rc ra rb) s) (ends limit a false true)
      ∧ Runs (exec (.divq k rd rc ra rb) s) (ends limit a false true)
      ∧ Runs (exec (.divu k rd rc ra rb) s) (ends 0xFFFFFFFFF a false true))

/-- R48, R102: octets of a register pair, octet 0 most significant; octets past the ninth, SZ = 11b, an odd register
or g0 are trap ILL. -/
def Obligations.OctetInstructions : Prop :=
  ∀ (s : State) (k : Fin 4) (rd rb : GReg) (j : BitVec 4) (sz : BitVec 2), Free s k →
    let c := s.cores[k]
    let n := 2 ^ sz.toNat
    let lo := 72 - 8 * (j.toNat + n)
    let legal := sz.toNat < 3 ∧ j.toNat + n ≤ 9
    (∀ ra : GReg, ra.val % 2 = 0 → ra ≠ 0 → legal →
      let p := (c.getG ra ++ c.getG (ra + 1) : BitVec 72)
      Runs (exec (.ox k rd ra j sz false) s) (Retires s k (c.setG rd (BitVec.ofNat 36 (p.toNat >>> lo % 2 ^ (8 * n)))))
      ∧ Runs (exec (.ox k rd ra j sz true) s)
          (Retires s k (c.setG rd ((BitVec.ofNat (8 * n) (p.toNat >>> lo)).signExtend 36))))
    ∧ (rd.val % 2 = 0 → rd ≠ 0 → legal →
      Runs (exec (.oi k rd rb j sz) s) (fun t => ∃ x y : Word,
        Retires s k (c.setPair rd x y) t ∧
        ∀ i < 72, (x ++ y : BitVec 72).getLsbD i =
          if lo ≤ i ∧ i < lo + 8 * n then (c.getG rb).getLsbD (i - lo)
          else (c.getG rd ++ c.getG (rd + 1) : BitVec 72).getLsbD i))
    ∧ (¬legal → ∀ (ra : GReg) (sx : Bool),
      Runs (exec (.ox k rd ra j sz sx) s) (Traps s k c trILL 0 0)
      ∧ Runs (exec (.oi k rd rb j sz) s) (Traps s k c trILL 0 0))
    ∧ (∀ (ra : GReg) (sx : Bool), ra.val % 2 = 1 ∨ ra = 0 → Runs (exec (.ox k rd ra j sz sx) s) (Traps s k c trILL 0 0))
    ∧ (rd.val % 2 = 1 ∨ rd = 0 → Runs (exec (.oi k rd rb j sz) s) (Traps s k c trILL 0 0))

/-- R71, R72, R103, R104: LD and LDP give the words that the fabric answers; a word of good SRAM gives its value and
nothing else changes; an error response or an address beyond 24 bits is its trap. LDP issues both its transactions
whatever the first one answers. -/
def Obligations.LoadsReadTheFabric : Prop :=
  ∀ (s : State) (k : Fin 4) (rd ra : GReg) (imm : BitVec 20),
    let c := s.cores[k]
    let ea := c.getG ra + imm.signExtend 36
    let free := fun (a : Nat) => inFlight c k s < 16 ∧ (0x800000 ≤ a → inFlight c k s = 0)
    let free2 := fun (a : Nat) => inFlight c k s < 15 ∧ (0x800000 ≤ a → inFlight c k s = 0)
    (Ready s k (.ld rd ra imm) →
      (2 ^ 24 ≤ ea.toNat → ∀ f, Runs (exec (.ld k rd ra imm f) s) (Traps s k c trADDR 0 (BitVec.ofNat 36 (ea.toNat % 2 ^ 24))))
      ∧ (ea.toNat < 2 ^ 24 → free ea.toNat →
        (SramGood s ea.toNat → Runs (exec (.ld k rd ra imm .ok) s) (Retires s k (c.setG rd (s.word ea.toNat))))
        ∧ (∀ f t v, busReadA f (coreReq c k) ea.toNat s = (t, respOk, v) →
            Runs (exec (.ld k rd ra imm f) s) (Ends t k (c.setG rd v).next))
        ∧ (∀ f t e v, busReadA f (coreReq c k) ea.toNat s = (t, e, v) → e ≠ respOk →
            Runs (exec (.ld k rd ra imm f) s) (Traps t k c (trapOfResp e) e ea))))
    ∧ (Ready s k (.ldp rd ra imm) →
      (rd.val % 2 = 1 ∨ rd = 0 → ∀ f g, Runs (exec (.ldp k rd ra imm f g) s) (Traps s k c trILL 0 0))
      ∧ (rd.val % 2 = 0 → rd ≠ 0 → ea.toNat + 1 < 2 ^ 24 → free2 ea.toNat →
          SramGood s ea.toNat → SramGood s (ea.toNat + 1) →
          Runs (exec (.ldp k rd ra imm .ok .ok) s)
            (Retires s k (c.setPair rd (s.word ea.toNat) (s.word (ea.toNat + 1)))))
      ∧ (rd.val % 2 = 0 → rd ≠ 0 → ea.toNat + 1 < 2 ^ 24 → free2 ea.toNat → ∀ f g t u e e2 v w,
          busReadA f (coreReq c k) ea.toNat s = (t, e, v) → busReadA g (coreReq c k) (ea.toNat + 1) t = (u, e2, w) →
          (e = respOk → e2 = respOk → Runs (exec (.ldp k rd ra imm f g) s) (Ends u k (c.setPair rd v w).next))
          ∧ (e ≠ respOk → Runs (exec (.ldp k rd ra imm f g) s) (Traps u k c (trapOfResp e) e ea))
          ∧ (e = respOk → e2 ≠ respOk → Runs (exec (.ldp k rd ra imm f g) s) (Traps u k c (trapOfResp e2) e2 (ea + 1)))))

/-- R72, R76, R103: ST and STP store to the address they compute and to no other word; an error response is kept for
the core, which goes on. -/
def Obligations.StoresWriteOneAddress : Prop :=
  ∀ (s : State) (k : Fin 4) (rs ra : GReg) (imm : BitVec 20),
    let c := s.cores[k]
    let ea := c.getG ra + imm.signExtend 36
    let cls := (coreReq c k).cls
    inFlight c k s < 16 →
    (Ready s k (.st rs ra imm) → SramOpen s cls ea.toNat →
      Runs (exec (.st k rs ra imm .ok) s) (fun t => t.word ea.toNat = c.getG rs ∧ MemKeptBut ea.toNat 1 s t
        ∧ t.regs = s.regs ∧ ∃ u : State, u.cores = s.cores ∧ Ends u k c.next t))
    ∧ (Ready s k (.stp rs ra imm) → inFlight c k s < 15 → rs.val % 2 = 0 → rs ≠ 0 → SramOpen s cls ea.toNat → SramOpen s cls (ea.toNat + 1) →
      Runs (exec (.stp k rs ra imm .ok .ok) s) (fun t => t.word ea.toNat = c.getG rs
        ∧ t.word (ea.toNat + 1) = c.getG (rs + 1) ∧ MemKeptBut ea.toNat 2 s t
        ∧ t.regs = s.regs ∧ ∃ u : State, u.cores = s.cores ∧ Ends u k c.next t))
    ∧ (∀ f t e tag, Ready s k (.st rs ra imm) → ea.toNat < 0x800000 → e ≠ respOk → e ≠ respStall →
      freeTag k.val s = some tag →
      busWriteA f (coreReq c k) ea.toNat (c.getG rs) s = (t, e) →
      Runs (exec (.st k rs ra imm f) s) (Retires t k { c with stErr := c.stErr ++ [⟨tag, ea.toNat, e⟩] }))

/-- R74, R105: the atomics on a word of SRAM: rd takes the old word; SWAP, AADD and a CAS that meets its word store; Z
of CAS says whether it did. -/
def Obligations.AtomicsOnSram : Prop :=
  ∀ (s : State) (k : Fin 4) (rd ra rb rc : GReg),
    let c := s.cores[k]
    let a := (c.getG ra).toNat
    let old := s.word a
    let stores := fun (v : Word) (c1 : Core) (t : State) => t.word a = v ∧ MemKeptBut a 1 s t ∧ t.regs = s.regs
      ∧ ∃ u : State, u.cores = s.cores ∧ Ends u k c1.next t
    inFlight c k s < 16 → SramGood s a → SramOpen s (coreReq c k).cls a →
    (Ready s k (.atom .swap rd ra rb 0) →
      Runs (exec (.swap k rd ra rb .ok) s) (stores (c.getG rb) (c.setG rd old)))
    ∧ (Ready s k (.atom .aadd rd ra rb 0) →
      Runs (exec (.aadd k rd ra rb .ok) s) (stores (old + c.getG rb) (c.setG rd old)))
    ∧ (Ready s k (.atom .cas rd ra rb rc) → old = c.getG rc →
      Runs (exec (.cas k rd ra rb rc .ok) s) (stores (c.getG rb) ((c.setG rd old).setZ true)))
    ∧ (Ready s k (.atom .cas rd ra rb rc) → old ≠ c.getG rc →
      Runs (exec (.cas k rd ra rb rc .ok) s) (Retires s k ((c.setG rd old).setZ false)))

/-- R91, R106: branches, calls and jumps, with the conditions written out; a target beyond 24 bits is trap ADDR at the
transferring instruction. -/
def Obligations.ControlTransfer : Prop :=
  ∀ (s : State) (k : Fin 4) (ra : GReg) (imm : BitVec 20) (cond : BitVec 4) (off : BitVec 24), Free s k →
    let c := s.cores[k]
    let z := bit (c.getC 1) 0
    let n := bit (c.getC 1) 1
    let cy := bit (c.getC 1) 2
    let v := bit (c.getC 1) 3
    let holds := [z, !z, n != v, n == v, !z && (n == v), z || (n != v), !cy, cy, cy && !z, !cy || z, n, !n, v, !v, true]
    let rel := c.pc + off.signExtend 36
    let ind := c.getG ra + imm.signExtend 36
    let far := fun (x : Word) => Traps s k c trADDR 0 (BitVec.ofNat 36 (x.toNat % 2 ^ 24))
    (cond ≠ 15 → holds.getD cond.toNat false = false → Runs (exec (.bCond k cond off) s) (Retires s k c))
    ∧ (cond = 15 → Runs (exec (.bCond k cond off) s) (Traps s k c trILL 0 0))
    ∧ (rel.toNat < 2 ^ 24 →
        (holds.getD cond.toNat false = true → Runs (exec (.bCond k cond off) s) (Ends s k { c with pc := rel }))
        ∧ Runs (exec (.call k off) s) (Ends s k { c.setG 31 (c.pc + 1) with pc := rel }))
    ∧ (2 ^ 24 ≤ rel.toNat → Runs (exec (.call k off) s) (far rel))
    ∧ (ind.toNat < 2 ^ 24 →
        Runs (exec (.jr k ra imm) s) (Ends s k { c with pc := ind })
        ∧ Runs (exec (.callr k ra imm) s) (Ends s k { c.setG 31 (c.pc + 1) with pc := ind }))
    ∧ (2 ^ 24 ≤ ind.toNat →
        Runs (exec (.jr k ra imm) s) (far ind) ∧ Runs (exec (.callr k ra imm) s) (far ind))

/-- R57, R60, R93, R107, R108: NOP and a word that is no instruction, FENCE, and the reads and writes of control
registers, with the traps of the secure, the read-only and the debug ones. -/
def Obligations.ControlRegisters : Prop :=
  ∀ (s : State) (k : Fin 4) (r : GReg) (n : BitVec 6), Free s k →
    let c := s.cores[k]
    let i := n.toNat
    let v := c.getG r
    let secure := i = 24 ∨ i = 25 ∨ (28 ≤ i ∧ i ≤ 31)
    let ro := i = 2 ∨ (9 ≤ i ∧ i ≤ 15) ∨ i = 26 ∨ i = 27
    let plain := i ≤ 1 ∨ (3 ≤ i ∧ i ≤ 8) ∨ (16 ≤ i ∧ i ≤ 23) ∨ (26 ≤ i ∧ i ≤ 27) ∨ (32 ≤ i ∧ i ≤ 47)
    (∀ w, Moagar.decode w = .nop → Runs (exec (.nop k w .ok) s) (Retires s k c))
    ∧ (∀ w, Moagar.decode w = .undef → Runs (exec (.nop k w .ok) s) (Traps s k c trILL 0 0))
    ∧ (inFlight c k s = 0 → Runs (exec (.fence k) s) (Retires s k c))
    ∧ (plain → Runs (exec (.mfc k r n) s) (Retires s k (c.setG r (c.getC (Fin.ofNat 64 i)))))
    ∧ (i = 13 → Runs (exec (.mfc k r n) s) (Retires s k (c.setG r s.frame)))
    ∧ (i = 11 → Runs (exec (.mfc k r n) s) (Retires s k
        (((c.setC 12 (s.ltime.extractLsb' 36 36)).setC 11 1).setG r (s.ltime.extractLsb' 0 36))))
    ∧ (48 ≤ i → Runs (exec (.mfc k r n) s) (Traps s k c trILL 0 0) ∧ Runs (exec (.mtc k n r) s) (Traps s k c trILL 0 0))
    ∧ (secure → c.sec = false →
        Runs (exec (.mfc k r n) s) (Traps s k c trPRIV i 0) ∧ Runs (exec (.mtc k n r) s) (Traps s k c trPRIV i 0))
    ∧ (ro → Runs (exec (.mtc k n r) s) (Traps s k c trPRIV i 0))
    ∧ (i = 3 ∨ i = 4 ∨ i = 5 ∨ i = 6 ∨ i = 8 ∨ (16 ≤ i ∧ i ≤ 23) ∨ (32 ≤ i ∧ i ≤ 47) →
        Runs (exec (.mtc k n r) s) (Retires s k (c.setC (Fin.ofNat 64 i) v)))
    ∧ (i = 1 → Runs (exec (.mtc k n r) s) (Retires s k (c.setC 1 ((v &&& 0xF) ||| (c.getC 1 &&& 0x30 &&& ~~~v)))))
    ∧ (i = 0 → getBits v 11 2 ≠ 3 →
        Runs (exec (.mtc k n r) s) (Retires s k (c.setC 0 ((c.getC 0 &&& ~~~0x7801) ||| (v &&& 0x7801)))))

/-- R65, R88: taking a trap in normal mode with TH dipped saves PC, STATUS, cause and address, hoists TH and goes on
at VBASE + code; memory, registers of the blocks and the other pair do not change. In secure mode the session's
registers are cleared and the trap is SECF with the cause as its detail. R78 to R80: a core at a boundary takes the
source that wins arbitration: the next PC and STATUS are saved for its level, the level is active, the pending bit of
an edge source is dipped, and the core goes on at the address in the vector word. After an IRET no instruction issues
before such a source is taken. -/
def Obligations.TrapAndInterruptEntry : Prop :=
  (∀ (s : State) (k : Fin 4) (t : Cause), t.code < 64 → t.detail < 256 → s.cores[k].st stTH = false →
    let c := s.cores[k]
    let u := takeTrap k t s
    (c.sec = false → Entered c u.cores[k] t.code t.detail t.tval)
    ∧ (c.sec = true → u.cores[k].sec = false ∧ (∀ r : GReg, u.cores[k].getG r = 0) ∧ u.cores[k].getC 5 = c.getC 26
        ∧ getBits (u.cores[k].getC 7) 0 6 = trSECF ∧ getBits (u.cores[k].getC 7) 6 8 = t.code
        ∧ u.cores[k].pc = c.getC 3 + 14)
    ∧ u.mem = s.mem ∧ u.regs = s.regs ∧ (∀ j : Fin 4, pairOfCore j ≠ pairOfCore k → u.cores[j] = s.cores[j]))
  ∧ (∀ (s : State) (k : Fin 4) (n : Nat) (t : State) (v : Word), n < 256 →
    let c := s.cores[k]
    let l := s.fld (F.INT_CFG_LEVEL n)
    let a := c.getC 4 + BitVec.ofNat 36 n
    atBoundary s k = true → a.toNat < 2 ^ 24 →
    winner s (fun m => sourceFor s (codesOf s (targetOf k)) m && takeable c (s.fld (F.INT_CFG_LEVEL m))) = some n →
    busReadA .ok (coreReq c k) a.toNat (leaveIdle (acknowledge n s)) = (t, respOk, v) →
    takeable c l = true ∧
    Runs (exec (.interruptEntry k) s) (fun u => ∃ c1, u = t.setCore k c1 ∧ c1.pc = BitVec.ofNat 36 (v.toNat % 2 ^ 24)
      ∧ c1.getC (Fin.ofNat 64 (32 + l)) = c.pc ∧ c1.getC (Fin.ofNat 64 (40 + l)) = c.getC 0
      ∧ c1.st (stACT + l) = true ∧ c1.g = c.g ∧ c1.wait = .none)
    ∧ (c.afterIret = true → c.dhalt = false → ∀ i f1 f2, issue k i f1 f2 s = s))

/-- R80, R88, R107: TRAP and BRK enter their traps, TRET and IRET restore PC and STATUS (SEC and SPLIT stay: log entry
21), and outside a handler TRET and IRET are undefined. -/
def Obligations.TrapsAndReturns : Prop :=
  ∀ (s : State) (k : Fin 4) (imm : BitVec 8), Free s k →
    let c := s.cores[k]
    (c.sec = false → c.st stTH = false →
      Runs (exec (.trap k imm) s) (fun t => Entered c t.cores[k] 0x0F imm.toNat 0 ∧ t.mem = s.mem ∧ t.regs = s.regs)
      ∧ (attached s = false →
        Runs (exec (.brk k) s) (fun t => Entered c t.cores[k] 0x10 0 c.pc ∧ t.mem = s.mem ∧ t.regs = s.regs)))
    ∧ (c.st stTH = true → Runs (exec (.tret k) s) (fun t => ∃ c1, Ends s k c1 t ∧ c1.pc = c.getC 5 ∧ c1.g = c.g
        ∧ c1.st stTH = false ∧ c1.st stSEC = c.st stSEC ∧ c1.st stSPLIT = c.st stSPLIT
        ∧ ∀ i < 16, i ≠ stTH → i ≠ stSEC → i ≠ stSPLIT → c1.st i = bit (c.getC 6) i))
    ∧ (c.st stTH = false → Runs (exec (.tret k) s) (Traps s k c trILL 0 0))
    ∧ (c.act = 0 → Runs (exec (.iret k) s) (Traps s k c trILL 0 0))
    ∧ (∀ l : Nat, l < 8 → 2 ^ l ≤ c.act → c.act < 2 ^ (l + 1) →
      Runs (exec (.iret k) s) (fun t => ∃ c1, t = s.setCore k c1 ∧ c1.afterIret = true ∧ c1.pc = c.getC (Fin.ofNat 64 (32 + l)) ∧ c1.g = c.g
        ∧ c1.st stSEC = c.st stSEC ∧ c1.st stSPLIT = c.st stSPLIT
        ∧ ∀ i < 16, i ≠ stSEC → i ≠ stSPLIT → c1.st i = bit (c.getC (Fin.ofNat 64 (40 + l))) i))

/-- R109, R110, R111: the waits and the submission of the output set. -/
def Obligations.WaitsAndSubmission : Prop :=
  ∀ (s : State) (k : Fin 4) (rd : GReg),
    let c := s.cores[k]
    (Free s k →
      (routed s k = true → Runs (exec (.wfi k) s) (Retires s k c))
      ∧ (routed s k = false → Runs (exec (.wfi k) s) (fun t => t.cores[k].wait = .wfi ∧ t.cores[k].pc = c.pc + 1
          ∧ t.mem = s.mem ∧ t.regs = s.regs))
      ∧ (safetyIssuer s k = true →
          (∀ r, takeNow s k = none → s.lsc.release = some r → Runs (exec (.waitf k rd) s) (fun t => t.lsc.release = none
            ∧ t.cores[k].pc = c.pc + 1 ∧ (rd ≠ 0 → t.cores[k].getG rd = r.frame)
            ∧ bit (t.cores[k].getC 1) flagZ = r.compl ∧ t.mem = s.mem))
          ∧ (s.lsc.release = none ∨ takeNow s k ≠ none → Runs (exec (.waitf k rd) s) (fun t => t.cores[k].wait = .waitf rd
            ∧ t.cores[k].pc = c.pc ∧ t.lsc.release = s.lsc.release ∧ t.mem = s.mem)))
      ∧ (safetyIssuer s k = false → Runs (exec (.waitf k rd) s) (Traps s k c trPAIR 0 0)
          ∧ Runs (exec (.xsub k rd) s) (Traps s k c trPAIR 0 0))
      ∧ (inFlight c k s = 0 → (coreReq c k).cls < 2 → safetyIssuer s k = true →
          Runs (exec (.xsub k rd) s) (Traps s.useFree k c trCLASSV respClass s.freeVal))
      ∧ (inFlight c k s = 0 → 2 ≤ (coreReq c k).cls → safetyIssuer s k = true →
          (xsubStatus s = 0 → ∀ j < xNout s, SramGood s (s.fld F.XLA_OSBASE_OSBASE + j)) →
          Runs (exec (.xsub k rd) s) (fun t => t.mem = s.mem ∧ t.regs = s.regs ∧ t.cores[k].pc = c.pc + 1
            ∧ (rd ≠ 0 → t.cores[k].getG rd = BitVec.ofNat 36 (xsubStatus s))
            ∧ bit (t.cores[k].getC 1) flagZ = decide (xsubStatus s = 0)
            ∧ t.xla.accepted = if xsubStatus s = 0 then
                some (s.words (s.fld F.XLA_OSBASE_OSBASE) (xNout s)) else s.xla.accepted)))
    ∧ (coreLive s k = true → c.wait = .wfi → routed s k = true →
        Runs (exec (.wfiResume k) s) (fun t => t.cores[k].wait = .none ∧ t.cores[k].pc = c.pc ∧ t.mem = s.mem
          ∧ t.regs = s.regs ∧ clocked t = true))
    ∧ (∀ r, coreLive s k = true → c.wait = .waitf rd → s.lsc.release = some r → takeNow s k = none →
        Runs (exec (.waitfResume k) s) (fun t => t.cores[k].wait = .none ∧ t.cores[k].pc = c.pc + 1
          ∧ (rd ≠ 0 → t.cores[k].getG rd = r.frame) ∧ t.lsc.release = none ∧ t.mem = s.mem ∧ t.regs = s.regs))

/-- R112 to R114, R212, R213: the pair splits, each core reads its own number; a JOIN waits; when both have arrived
the lead's registers are copied and the pair goes on joined; a timeout leaves it split. R115, R184: HOIST hoists a
software flag and no other, DIP dips a flag that is not latched; numbers above 143 are undefined. -/
def Obligations.SplitHoistAndDip : Prop :=
  (∀ (s : State) (k : Fin 4) (rd ra : GReg),
    let c := s.cores[k]
    let p := pairOfCore k
    (Free s k → c.st stSPLIT = false → c.sec = false → (isSafety s p && splitForbidden s) = false → rd ≠ 0 →
      Runs (exec (.split k rd) s) (fun t => t.split[p] = true ∧ t.mem = s.mem
        ∧ ∀ j : Fin 4, pairOfCore j = p → t.cores[j].pc = c.pc + 1 ∧ t.cores[j].st stSPLIT = true
            ∧ t.cores[j].getG rd = BitVec.ofNat 36 j.val))
    ∧ (Free s k → (c.st stSPLIT = true ∨ c.sec = true ∨ (isSafety s p = true ∧ splitForbidden s = true)) →
      Runs (exec (.split k rd) s) (Traps s k c trPAIR 0 0))
    ∧ (Free s k → c.st stSPLIT = true → c.sec = false → c.joinLeft = none → c.joinOver = false →
      Runs (exec (.join k rd ra) s) (fun t => t.cores[k].wait = .join rd ∧ t.cores[k].pc = c.pc ∧ t.mem = s.mem
        ∧ t.regs = s.regs ∧ t.cores[k].joinLeft =
          some (if (c.getG ra).toNat % 2 ^ 24 = 0 then none else some ((c.getG ra).toNat % 2 ^ 24))))
    ∧ (Free s k → c.st stSPLIT = false → Runs (exec (.join k rd ra) s) (Traps s k c trPAIR 0 0))
    ∧ (∀ r2, clocked s = true → s.split[p] = true → k = leadOf p → c.wait = .join rd → c.joinOver = false →
        s.cores[shadowOf p].wait = .join r2 → s.cores[shadowOf p].joinOver = false → inFlight c k s = 0 →
        inFlight s.cores[shadowOf p] (shadowOf p) s = 0 →
        Runs (exec (.joinComplete p) s) (fun t => t.split[p] = false ∧ t.mem = s.mem
          ∧ ∀ j : Fin 4, pairOfCore j = p → t.cores[j].pc = c.pc + 1 ∧ t.cores[j].st stSPLIT = false
              ∧ t.cores[j].wait = .none ∧ bit (t.cores[j].getC 1) flagZ = true ∧ t.cores[j].getG rd = 0
              ∧ (∀ r : GReg, r ≠ rd → t.cores[j].getG r = c.getG r)
              ∧ (∀ i : Fin 64, 16 ≤ i.val → i.val ≤ 47 → t.cores[j].getC i = c.getC i)))
    ∧ (coreLive s k = true → c.wait = .join rd → (c.joinOver = true ∨ c.joinLeft = some (some 0) ∧ joinWaits s.cores[otherCore k] = false) →
        rd ≠ 0 → Runs (exec (.joinTimeout k) s) (fun t => t.cores[k].getG rd = 1 ∧ t.cores[k].pc = c.pc + 1
          ∧ bit (t.cores[k].getC 1) flagZ = false ∧ t.cores[k].wait = .none ∧ t.split = s.split ∧ t.mem = s.mem
          ∧ t.regs = s.regs)))
  ∧ (∀ (s : State) (k : Fin 4) (n : BitVec 8), Free s k →
    let c := s.cores[k]
    let i := n.toNat
    (143 < i → Runs (exec (.hoist k n) s) (Traps s k c trILL 0 0) ∧ Runs (exec (.dip k n) s) (Traps s k c trILL 0 0))
    ∧ (i ≤ 143 → inFlight c k s = 0 →
      (136 ≤ i → Runs (exec (.hoist k n) s) (fun t => flagSet t i = true ∧ (∀ m < 144, m ≠ i → flagSet t m = flagSet s m)
        ∧ t.cores[k].pc = c.pc + 1 ∧ t.mem = s.mem))
      ∧ (i < 136 → Runs (exec (.hoist k n) s) (Retires s k c))
      ∧ (flagLatched i = false → flagClass s i ≠ none →
        Runs (exec (.dip k n) s) (fun t => flagSet t i = false ∧ (∀ m < 144, m ≠ i → flagSet t m = flagSet s m)
          ∧ t.cores[k].pc = c.pc + 1 ∧ t.mem = s.mem))
      ∧ (flagLatched i = true ∨ flagClass s i = none → Runs (exec (.dip k n) s) (Retires s k c))))

/-- R63 to R65, R76, R116: entering and leaving secure mode, the end of its budget, and a late store error. -/
def Obligations.SecureModeAndStoreErrors : Prop :=
  ∀ (s : State) (k : Fin 4) (g : BitVec 6),
    let c := s.cores[k]
    let a := c.getC 25 + BitVec.ofNat 36 g.toNat
    (Free s k → c.sec = false → a.toNat < 2 ^ 24 → inFlight c k s = 0 → ∀ f t v,
      busReadA f ⟨k.val, 3, true⟩ a.toNat s = (t, respOk, v) → v.toNat < 2 ^ 24 →
      Runs (exec (.senter k g f) s) (fun u => ∃ c1, Ends t k c1 u ∧ c1.pc = v ∧ c1.sec = true ∧ c1.getC 26 = c.pc + 1
        ∧ c1.getC 27 = c.getC 24 ∧ c1.firstSec = false ∧ c1.g = c.g))
    ∧ (Free s k → c.sec = false → a.toNat < 2 ^ 24 → inFlight c k s = 0 → ∀ f t e v,
      busReadA f ⟨k.val, 3, true⟩ a.toNat s = (t, e, v) → e ≠ respOk →
      Runs (exec (.senter k g f) s) (Traps t k c (trapOfResp e) e a))
    ∧ (Free s k → c.sec = true →
      Runs (exec (.sexit k) s) (fun t => ∃ c1, Ends s k c1 t ∧ c1.pc = c.getC 26 ∧ c1.sec = false ∧ c1.g = c.g)
      ∧ Runs (exec (.sexitz k) s) (fun t => ∃ c1, Ends s k c1 t ∧ c1.pc = c.getC 26 ∧ c1.sec = false
          ∧ (∀ r : GReg, r.val ≤ 29 → c1.getG r = 0) ∧ (∀ i : Fin 64, 28 ≤ i.val → i.val ≤ 31 → c1.getC i = 0)
          ∧ c1.getG 30 = c.getG 30 ∧ c1.getG 31 = c.getG 31))
    ∧ (Free s k → c.sec = false → Runs (exec (.sexit k) s) (Traps s k c trPRIV 0xFF 0)
        ∧ Runs (exec (.sexitz k) s) (Traps s k c trPRIV 0xFF 0))
    ∧ (coreLive s k = true → c.sec = true → c.firstSec = false → c.getC 24 ≠ 0 → c.getC 27 = 0 → c.st stTH = false →
      Runs (exec (.secBudgetExpiry k) s) (fun t => t.cores[k].sec = false ∧ (∀ r : GReg, t.cores[k].getG r = 0)
        ∧ t.cores[k].getC 5 = c.getC 26 ∧ getBits (t.cores[k].getC 7) 0 6 = 0x0E ∧ getBits (t.cores[k].getC 7) 6 8 = 0x3F
        ∧ t.cores[k].pc = c.getC 3 + 14 ∧ t.mem = s.mem))
    ∧ (∀ tag b e r, coreLive s k = true → c.stErr = ⟨tag, b, e⟩ :: r → e < 256 → c.sec = false → c.st stTH = false →
      Runs (exec (.storeErrorResponse k) s) (fun t => Entered c t.cores[k] 0x0B e (BitVec.ofNat 36 b)
        ∧ bit (t.cores[k].getC 7) 14 = true ∧ t.cores[k].stErr = r ∧ t.mem = s.mem ∧ t.regs = s.regs))

/-- R91 to R107: for every instruction whose unused fields are 0, decoding its word gives it back. -/
def Obligations.MoagarEncodeDecode : Prop := ∀ i : MInstr, i.wf = true → i ≠ .undef → Moagar.decode (encode i) = i

/-! The signal datapath -/

/-- R342, R329: the data instructions, with any parallel move; Z and N from the result, OVB when it saturates; an
instruction that writes one register twice halts with cause 2. -/
def Obligations.SdpDataInstructions : Prop :=
  ∀ (s : State) (dd da db : Fin 8) (n : BitVec 6) (mv : Option SMove),
    let o := sdpBank s
    let ms := mv.toList
    let x := o.d[da]
    let y := o.d[db]
    let sh := y.toNat % 256
    let res := fun (r : Word) => { o with d := o.d.set dd.val r, z := decide (r = 0), n := r.msb }
    let ends := fun (r : Word) => SdpEnds s ms (res r) [] []
    let ovb : Fld := ⟨R.SDP_OVF, (sdpBankNo s).val, 1⟩
    let sat := fun (e : Int) (t : State) => SdpEnds s ms (res (clipped e)) [] [R.SDP_OVF, R.INT_PEND 7] t
      ∧ (exceeds e = true → t.fldB ovb = true)
    SdpGo s ms →
    (movesClash (some dd) ms = false →
      Runs (exec (.sdpAdd dd da db mv) s) (ends (x + y))
      ∧ Runs (exec (.sdpSub dd da db mv) s) (ends (x - y))
      ∧ Runs (exec (.sdpAdds dd da db mv) s) (sat (x.toInt + y.toInt))
      ∧ Runs (exec (.sdpSubs dd da db mv) s) (sat (x.toInt - y.toInt))
      ∧ Runs (exec (.sdpAnd dd da db mv) s) (ends (x &&& y))
      ∧ Runs (exec (.sdpOr dd da db mv) s) (ends (x ||| y))
      ∧ Runs (exec (.sdpXor dd da db mv) s) (ends (x ^^^ y))
      ∧ Runs (exec (.shlr dd da db mv) s) (ends (x <<< sh))
      ∧ Runs (exec (.shrr dd da db mv) s) (ends (x >>> sh))
      ∧ Runs (exec (.mov dd da mv) s) (ends x)
      ∧ (n.toNat ≤ 35 → Runs (exec (.sdpShl dd da n mv) s) (ends (x <<< n.toNat))
        ∧ Runs (exec (.sdpShr dd da n mv) s) (ends (x >>> n.toNat))
        ∧ Runs (exec (.sdpSar dd da n mv) s) (ends (x.sshiftRight n.toNat))))
    ∧ (movesClash none ms = false →
      Runs (exec (.sdpCmp da db mv) s) (SdpEnds s ms { o with z := decide (x - y = 0), n := (x - y).msb } [] []))
    ∧ (movesClash (some dd) ms = true →
      Runs (exec (.sdpAdd dd da db mv) s) (fun t => sdpState t = sdpHalted ∧ t.fld F.SDP_STAT_HCAUSE = 2
        ∧ t.fld F.SDP_STAT_HPC = o.pc.toNat ∧ (queuedOf 6 s = 0 → t.mem = s.mem)))
    ∧ (35 < n.toNat → Runs (exec (.sdpShl dd da n mv) s) (fun t => sdpState t = sdpHalted ∧ t.fld F.SDP_STAT_HCAUSE = 2
        ∧ t.fld F.SDP_STAT_HPC = o.pc.toNat ∧ (queuedOf 6 s = 0 → t.mem = s.mem)))

/-- R328, R341: the accumulator instructions and the extractions, with any parallel move. R330, R340: the MAC
instructions issue their products, with up to two moves; a product issued two issues before accumulates. -/
def Obligations.SdpAccumulatorsAndMacs : Prop :=
  (∀ (s : State) (ad as_ : Fin 4) (ds : Fin 8) (n : BitVec 8) (mv : Option SMove),
    let o := sdpBank s
    let ms := mv.toList
    let p := o.a[ad]
    let q := o.a[as_]
    let x := o.d[ds]
    let xq := BitVec.ofInt 80 (x.toInt * 2 ^ 32)
    let xi := BitVec.ofInt 80 x.toInt
    let acc := fun (r : BitVec 80) => { o with a := o.a.set ad.val r, z := decide (r = 0), n := r.msb }
    let ends := fun (r : BitVec 80) => SdpEnds s ms (acc r) [] []
    let dat := fun (r : Word) => { o with d := o.d.set ds.val r, z := decide (r = 0), n := r.msb }
    let ovb : Fld := ⟨R.SDP_OVF, (sdpBankNo s).val, 1⟩
    let sat := fun (e : Int) (t : State) => SdpEnds s ms (dat (clipped e)) [] [R.SDP_OVF, R.INT_PEND 7] t
      ∧ (exceeds e = true → t.fldB ovb = true)
    SdpGo s ms →
    (movesClash none ms = false →
      Runs (exec (.adda ad as_ mv) s) (ends (p + q))
      ∧ Runs (exec (.suba ad as_ mv) s) (ends (p - q))
      ∧ Runs (exec (.addq ad ds mv) s) (ends (p + xq))
      ∧ Runs (exec (.sdpAddi ad ds mv) s) (ends (p + xi))
      ∧ Runs (exec (.subq ad ds mv) s) (ends (p - xq))
      ∧ Runs (exec (.subi ad ds mv) s) (ends (p - xi))
      ∧ Runs (exec (.nega ad as_ mv) s) (ends (-q))
      ∧ Runs (exec (.clra ad mv) s) (ends 0)
      ∧ Runs (exec (.mova ad as_ mv) s) (ends q)
      ∧ Runs (exec (.asha ad as_ n mv) s)
          (ends (BitVec.ofInt 80 (if n.toInt < 0 then q.toInt / 2 ^ n.toInt.natAbs else q.toInt * 2 ^ n.toInt.natAbs)))
      ∧ (n ≠ 0 → Runs (exec (.rsha ad as_ n mv) s)
          (ends (BitVec.ofInt 80 ((q.toInt + 2 ^ (n.toNat - 1)) / 2 ^ n.toNat))))
      ∧ Runs (exec (.lda ad ds mv) s) (ends xq)
      ∧ Runs (exec (.ldai ad ds mv) s) (ends xi)
      ∧ Runs (exec (.cmpa ad as_ mv) s)
          (SdpEnds s ms { o with z := decide (p - q = 0), n := (p - q).msb } [] []))
    ∧ (movesClash (some ds) ms = false →
      Runs (exec (.abit ad ds mv) s)
        (SdpEnds s ms { acc (if x.getLsbD 31 then p + 1 else p - 1) with d := o.d.set ds.val (x <<< 1) } [] [])
      ∧ Runs (exec (.rnd ds as_ mv) s) (sat ((q.toInt + 2 ^ 31) / 2 ^ 32))
      ∧ Runs (exec (.rndi ds as_ mv) s) (sat q.toInt)
      ∧ Runs (exec (.exh ds as_ mv) s) (SdpEnds s ms (dat (q.extractLsb' 36 36)) [] [])
      ∧ Runs (exec (.exl ds as_ mv) s) (SdpEnds s ms (dat (q.extractLsb' 0 36)) [] [])
      ∧ Runs (exec (.exg ds as_ mv) s) (SdpEnds s ms (dat ((q.extractLsb' 72 8).signExtend 36)) [] [])))
  ∧ (∀ (s : State) (ad : Fin 4) (xs ys : Fin 8) (mop : BitVec 3) (mv0 mv1 : Option SMove),
    let o := sdpBank s
    let ms := mv0.toList ++ mv1.toList
    let x := o.d[xs]
    let y := o.d[ys]
    let x1 := o.d[xs + 1]
    let y1 := o.d[ys + 1]
    let ad1 : Fin 4 := if ad.val % 2 = 0 then ad + 1 else ad - 1
    let ss := fun (u v : Word) => BitVec.ofInt 80 (u.toInt * v.toInt)
    let su := fun (u v : Word) => BitVec.ofInt 80 (u.toInt * v.toNat)
    let two := fun (k : MacKind) (f : Word → Word → BitVec 80) => SdpEnds s ms o [⟨ad, k, f x y⟩, ⟨ad1, k, f x1 y1⟩] []
    (SdpGo s ms → movesClash none ms = false →
      Runs (exec (.mpy ad xs ys mv0 mv1) s) (SdpEnds s ms o [⟨ad, .mpy, ss x y⟩] [])
      ∧ Runs (exec (.mac ad xs ys mv0 mv1) s) (SdpEnds s ms o [⟨ad, .mac, ss x y⟩] [])
      ∧ Runs (exec (.msu ad xs ys mv0 mv1) s) (SdpEnds s ms o [⟨ad, .msu, ss x y⟩] [])
      ∧ Runs (exec (.macsu ad xs ys mv0 mv1) s) (SdpEnds s ms o [⟨ad, .mac, su x y⟩] [])
      ∧ (mop = 0 → Runs (exec (.mac2 mop ad xs ys mv0 mv1) s) (two .mpy ss))
      ∧ (mop = 1 → Runs (exec (.mac2 mop ad xs ys mv0 mv1) s) (two .mac ss))
      ∧ (mop = 2 → Runs (exec (.mac2 mop ad xs ys mv0 mv1) s) (two .msu ss))
      ∧ (mop = 3 → Runs (exec (.mac2 mop ad xs ys mv0 mv1) s) (two .mac su)))
    ∧ (SdpGo s ms → 4 ≤ mop.toNat → Runs (exec (.mac2 mop ad xs ys mv0 mv1) s) (fun t => sdpState t = sdpHalted
        ∧ t.fld F.SDP_STAT_HCAUSE = 2 ∧ t.fld F.SDP_STAT_HPC = o.pc.toNat))
    ∧ (∀ u : MacOp, clocked s = true → sdpState s = sdpRunning → upsetAt s (0x850800 + o.pc.toNat) = none →
      o.loops = [] → o.pipe2 = [u] →
      Runs (exec (.sdpNop 0) s) (fun t => (sdpBank t).a[u.acc] = (match u.kind with
          | .mpy => u.prod
          | .mac => o.a[u.acc] + u.prod
          | .msu => o.a[u.acc] - u.prod)
        ∧ (∀ j : Fin 4, j ≠ u.acc → (sdpBank t).a[j] = o.a[j]) ∧ (sdpBank t).d = o.d ∧ (sdpBank t).pc = o.pc + 1)))

/-- R334, R335, R337 to R339: the control instructions of the SDP with no repeat active, a word that is no
instruction, and the end of a repeat's body. -/
def Obligations.SdpControlInstructions : Prop :=
  ∀ (s : State) (tgt : BitVec 11) (cnt : BitVec 16) (ds : Fin 8),
    let o := sdpBank s
    let at_ := fun (b : SdpBank) => SdpAt s b [] []
    let nxt := { o with pc := o.pc + 1 }
    let stops := fun (cause : Nat) (pc : BitVec 11) (t : State) => sdpState t = sdpHalted
      ∧ t.fld F.SDP_STAT_HCAUSE = cause ∧ t.fld F.SDP_STAT_HPC = pc.toNat ∧ srcPending t 229 = true ∧ (queuedOf 6 s = 0 → t.mem = s.mem)
    let jump := fun (c : Bool) => at_ (if c then { o with pc := tgt } else nxt)
    let rep := fun (n : Nat) => at_ (if n = 0 then { o with pc := tgt + 1 }
      else { o with pc := o.pc + 1, loops := [⟨o.pc + 1, tgt, n⟩] })
    (SdpGo s [] →
      Runs (exec (.sdpNop 0) s) (at_ nxt)
      ∧ (∀ w, Sdp.decode w = none → Runs (exec (.sdpNop w) s) (stops 2 o.pc))
      ∧ Runs (exec .sdpHalt s) (stops 1 (o.pc + 1))
      ∧ Runs (exec (.jmp tgt) s) (jump true)
      ∧ Runs (exec (.jz tgt) s) (jump o.z)
      ∧ Runs (exec (.jnz tgt) s) (jump (!o.z))
      ∧ Runs (exec (.jn tgt) s) (jump o.n)
      ∧ Runs (exec (.jnn tgt) s) (jump (!o.n))
      ∧ (sdpInFlight s = 0 → Runs (exec .sync s) (at_ nxt))
      ∧ (tgt.toNat ≤ 3 → Runs (exec (.sig tgt) s) (fun t => SdpAt s nxt [] [R.INT_PEND 7] t
          ∧ srcPending t (224 + tgt.toNat) = true))
      ∧ (3 < tgt.toNat → Runs (exec (.sig tgt) s) (stops 2 o.pc))
      ∧ (s.fldB F.SDP_STAT_INFI = false →
          Runs (exec .wait s) (fun t => sdpState t = sdpWaiting ∧ (sdpBank t).pc = o.pc + 1 ∧ (sdpBank t).d = o.d
            ∧ t.mem = s.mem)
          ∧ Runs (exec .rti s) (stops 2 o.pc)
          ∧ Runs (exec .xbank s) (fun t => sdpBankNo t = 1 - sdpBankNo s ∧ (sdpBank t).pc = o.pc + 1
              ∧ (sdpBank t).d = s.sdp.bank[1 - sdpBankNo s].d ∧ sdpState t = sdpRunning ∧ t.mem = s.mem))
      ∧ (s.fldB F.SDP_STAT_INFI = true →
          Runs (exec .wait s) (stops 2 o.pc) ∧ Runs (exec .xbank s) (stops 2 o.pc)
          ∧ (s.fld F.SDP_STAT_BANK = 1 → Runs (exec .rti s) (fun t => sdpBankNo t = 0 ∧ t.fldB F.SDP_STAT_INFI = false
              ∧ sdpBank t = s.sdp.bank[0] ∧ sdpState t = sdpRunning ∧ t.mem = s.mem)))
      ∧ (o.pc.toNat < tgt.toNat →
          Runs (exec (.rep tgt cnt) s) (rep cnt.toNat) ∧ Runs (exec (.repr tgt ds) s) (rep (o.d[ds].toNat % 2 ^ 16)))
      ∧ (tgt.toNat ≤ o.pc.toNat →
          Runs (exec (.rep tgt cnt) s) (stops 4 o.pc) ∧ Runs (exec (.repr tgt ds) s) (stops 4 o.pc)))
    ∧ (∀ l : SdpLoop, clocked s = true → sdpState s = sdpRunning → upsetAt s (0x850800 + o.pc.toNat) = none →
        o.loops = [l] → o.pipe2 = [] → l.last = o.pc →
        Runs (exec (.sdpNop 0) s) (at_ (if 1 < l.count then { o with pc := l.start, loops := [{ l with count := l.count - 1 }] }
          else { nxt with loops := [] })))

/-- R332, R336, R343: loads, stores and address instructions of the SDP; the post-modify is modulo the circular
buffer. -/
def Obligations.SdpLoadsAndAddresses : Prop :=
  ∀ (s : State) (dd ds k : Fin 8) (imm : BitVec 11) (i28 : BitVec 28) (disp : BitVec 10) (i20 : BitVec 20),
    let o := sdpBank s
    let at_ := fun (b : SdpBank) => SdpAt s { b with pc := o.pc + 1 } [] []
    let setD := fun (v : Word) (b : SdpBank) => { b with d := b.d.set dd.val v }
    let zn := fun (v : Word) => { o with d := o.d.set dd.val v, z := decide (v = 0), n := v.msb }
    let la := 0x850400 + (o.i[k] + disp).toNat
    let ea := o.d[ds] + i20.signExtend 36
    let back := fun (x : Int) => { o with i := o.i.set k.val (BitVec.ofInt 10 x) }
    let ik : Int := o.i[k].toNat
    let bk : Int := o.b[k].toNat
    let mk : Int := o.m[k].toInt
    SdpGo s [] →
      Runs (exec (.ldi dd false i28) s) (at_ (setD (i28.signExtend 36) o))
      ∧ (i28.toNat < 2 ^ 18 → Runs (exec (.ldi dd true i28) s)
          (at_ (setD (i28.setWidth 18 ++ o.d[dd].setWidth 18) o)))
      ∧ (2 ^ 18 ≤ i28.toNat → Runs (exec (.ldi dd true i28) s) (fun t => sdpState t = sdpHalted
          ∧ t.fld F.SDP_STAT_HCAUSE = 2))
      ∧ (upsetAt s la = none → Runs (exec (.ldx dd k disp) s) (at_ (setD (s.reg la) o)))
      ∧ Runs (exec (.stx dd k disp) s) (fun t => SdpAt s { o with pc := o.pc + 1 } [] [la] t ∧ t.reg la = o.d[dd])
      ∧ (SramGood s ea.toNat → sdpInFlight s < 8 → Runs (exec (.ldf dd ds i20 .ok) s) (at_ (setD (s.word ea.toNat) o)))
      ∧ (SramOpen s (s.fld F.SDP_CTRL_CLS) ea.toNat → sdpInFlight s < 8 → Runs (exec (.stf dd ds i20 .ok) s) (fun t =>
          t.word ea.toNat = o.d[dd] ∧ MemKeptBut ea.toNat 1 s t ∧ (sdpBank t).pc = o.pc + 1 ∧ (sdpBank t).d = o.d
            ∧ sdpState t = sdpRunning))
      ∧ (2 ^ 24 ≤ ea.toNat → ∀ f, Runs (exec (.ldf dd ds i20 f) s) (fun t => sdpState t = sdpHalted
          ∧ t.fld F.SDP_STAT_HCAUSE = 5) ∧ Runs (exec (.stf dd ds i20 f) s) (fun t => sdpState t = sdpHalted
          ∧ t.fld F.SDP_STAT_HCAUSE = 5))
      ∧ (imm.toNat < 1024 →
          Runs (exec (.seti k imm) s) (at_ { o with i := o.i.set k.val (imm.setWidth 10) })
          ∧ Runs (exec (.setb k imm) s) (at_ { o with b := o.b.set k.val (imm.setWidth 10) })
          ∧ Runs (exec (.setl k imm) s) (at_ { o with l := o.l.set k.val (imm.setWidth 10) }))
      ∧ (1024 ≤ imm.toNat → Runs (exec (.seti k imm) s) (fun t => sdpState t = sdpHalted ∧ t.fld F.SDP_STAT_HCAUSE = 2))
      ∧ Runs (exec (.setm k imm) s) (at_ { o with m := o.m.set k.val imm })
      ∧ Runs (exec (.modi k) s) (at_ (back (if o.l[k] = 0 then ik + mk else bk + (ik - bk + mk) % (o.l[k].toNat : Int))))
      ∧ Runs (exec (.movi k ds) s) (at_ { o with i := o.i.set k.val (o.d[ds].setWidth 10) })
      ∧ Runs (exec (.movm k ds) s) (at_ { o with m := o.m.set k.val (o.d[ds].setWidth 11) })
      ∧ Runs (exec (.rdi dd k) s) (at_ (zn (o.i[k].setWidth 36)))
      ∧ Runs (exec (.rdm dd k) s) (at_ (zn (o.m[k].signExtend 36)))

/-- R327, R335 to R337, R345: start, stop, clear, timer, fast interrupt and late store error of the SDP. -/
def Obligations.SdpStartAndStop : Prop :=
  ∀ (s : State) (rq : Req) (v : Word) (n : Nat),
    let o := sdpBank s
    let live := sdpState s = sdpRunning ∨ sdpState s = sdpWaiting
    (Accepts s rq R.SDP_CTRL →
      (sdpState s = sdpStopped ∨ sdpState s = sdpHalted →
        Runs (exec (.sdpStart rq v) s) (fun t => sdpState t = sdpRunning ∧ t.fld F.SDP_STAT_BANK = 0
          ∧ t.fldB F.SDP_STAT_INFI = false ∧ (sdpBank t).pc.toNat = s.fld F.SDP_ENTRY_ADDR ∧ (sdpBank t).loops = []
          ∧ t.mem = s.mem ∧ t.cores = s.cores))
      ∧ (live → Runs (exec (.sdpStop rq v) s) (fun t => sdpState t = sdpHalted ∧ t.fld F.SDP_STAT_HCAUSE = 8
          ∧ t.fld F.SDP_STAT_HPC = o.pc.toNat ∧ srcPending t 229 = true ∧ (queuedOf 6 s = 0 → t.mem = s.mem) ∧ t.cores = s.cores)))
    ∧ (Accepts s rq R.SDP_CMD → sdpState s = sdpStopped ∨ sdpState s = sdpHalted →
        Runs (exec (.clr rq) s) (fun t => t.sdp.bank = Vector.replicate 2 sdpBankReset ∧ t.mem = s.mem
          ∧ RegsKeptBut [R.SDP_STAT] s t))
    ∧ (clocked s = true → s.fldB F.SDP_TMR_EN = true → s.fld F.SDP_TMR_PER ≠ 0 →
        Runs (exec .sdpTimer s) (fun t => srcPending t 228 = true ∧ t.mem = s.mem ∧ t.sdp = s.sdp
          ∧ RegsKeptBut [R.INT_PEND 7] s t))
    ∧ (clocked s = true → live → s.fldB F.SDP_CTRL_FIEN = true → s.fldB F.SDP_STAT_INFI = false →
        s.fld F.SDP_STAT_BANK = 0 → topOf s 4 = some n → n < 256 →
        Runs (exec .fastInterrupt s) (fun t => sdpBankNo t = 1 ∧ t.fldB F.SDP_STAT_INFI = true ∧ sdpState t = sdpRunning
          ∧ (sdpBank t).pc.toNat = s.fld F.SDP_FIVEC_ADDR ∧ (sdpBank t).d[7] = BitVec.ofNat 36 n
          ∧ t.sdp.bank[0] = s.sdp.bank[0] ∧ t.mem = s.mem))
    ∧ (∀ tag a e, clocked s = true → s.sdp.stErr = [⟨tag, a, e⟩] → e < 16 →
        (live → Runs (exec .sdpStoreError s) (fun t => sdpState t = sdpHalted ∧ t.fld F.SDP_STAT_HCAUSE = 6
          ∧ t.fld F.SDP_STAT_HRESP = e ∧ t.sdp.stErr = [] ∧ (queuedOf 6 s = 0 → t.mem = s.mem)))
        ∧ (¬live → Runs (exec .sdpStoreError s) (fun t => t.fld F.SDP_STAT_HRESP = e ∧ t.sdp.stErr = [] ∧ t.mem = s.mem
            ∧ RegsKeptBut [R.SDP_STAT] s t)))

/-! The queue, the clock and reset -/

/-- A step takes the command at the front of the queue and runs it on the lane with the queue's rest. -/
def Obligations.QueueFrontRuns : Prop :=
  ∀ (c : Instr) (r : List Instr) (s : State), step { s with pending := c :: r } = exec c { s with pending := r }

/-- With no command waiting one LCLK cycle passes (DESIGN CHOICE, log entry 3): the times advance, nothing else
of the cores' programs or of memory; a lane in its reset, in DEEP or in OFF does not change at all, and in SLEEP LTIME
alone runs. -/
def Obligations.IdleCycleAdvances : Prop :=
  ∀ s : State, s.pending = [] →
    (s.pwr.startDue.isSome = true ∨ s.pwr.pstate = .deep ∨ s.pwr.pstate = .off → step s = .next s)
    ∧ (s.pwr.startDue = none → clocked s = true →
      Runs (step s) (fun t => t.cycle = s.cycle + 1 ∧ t.dlk.dtime = s.dlk.dtime + 2 ∧ t.mem = s.mem ∧ t.pending = []
        ∧ t.lstate = s.lstate ∧ t.rstate = s.rstate ∧ t.fld F.INT_SWI_SWI = 0
        ∧ (t.ltime = s.ltime + 2 ∨ (s.corrN ≠ 0 ∧ (t.ltime = s.ltime + 1 ∨ t.ltime = s.ltime + 3)))
        ∧ (∀ k : Fin 4, t.cores[k].g = s.cores[k].g ∧ t.cores[k].pc = s.cores[k].pc ∧ t.cores[k].run = s.cores[k].run)
        ∧ (∀ n : Fin 2, s.fldB (F.PWM_STAT_RUN n.val) = false → t.fld (F.PWM_CNT_CNT n.val) = s.fld (F.PWM_CNT_CNT n.val))
        ∧ (s.fldB (F.PWM_STAT_RUN 0) = true → t.fld (F.PWM_CNT_CNT 0) =
            if periodDue 0 { s with ltime := t.ltime } then s.fld (F.PWM_CNT_CNT 0)
            else satInc (s.fld (F.PWM_CNT_CNT 0)) 1 (F.PWM_CNT_CNT 0).w)))
    ∧ (s.pwr.startDue = none → s.pwr.pstate = .sleep → s.corrN = 0 →
      Runs (step s) (fun t => t.ltime = s.ltime + 2 ∧ t.cycle = s.cycle ∧ t.mem = s.mem ∧ t.cores = s.cores))

/-- R13, R35, R203, R500, R535, R537, R547: the power-on reset and the lane resets: what they keep, and every other
register at its reset value; a core self-test that a lane reset aborts leaves verdict 6. -/
def Obligations.ResetsAndClockFault : Prop :=
  ∀ (s : State) (rq : Req),
    let base := fun (form cause : Nat) (t : State) =>
      t.lstate = lsOffline ∧ t.fld F.SYS_RSTCAUSE_CAUSE = cause ∧ t.pwr.startDue = some form
        ∧ t.fld F.HAL_RSTAT_STRKCAUSE = s.fld F.HAL_RSTAT_STRKCAUSE ∧ t.cores = State.reset.cores ∧ t.ltime = 0
        ∧ t.xla = xlaReset ∧ t.lcy.fuses = s.lcy.fuses ∧ t.rtc = { s.rtc with tickAt := 0 } ∧ t.pending = s.pending
        ∧ (∀ a, keptReg a = true → a ≠ R.CLK_RCNT → t.reg a = s.reg a)
        ∧ (∀ a, keptReg a = false → a ≠ R.HAL_RSTAT → a ≠ R.SYS_RSTCAUSE → a ≠ R.LSC_VERD → t.reg a = regReset a)
        ∧ (s.lsc.testQ = [] → t.reg R.LSC_VERD = regReset R.LSC_VERD)
        ∧ (∀ p l, s.lsc.testQ = p :: l → t.fld (if p = 0 then F.LSC_VERD_V0 else F.LSC_VERD_V1) = 6)
        ∧ (s.memc.mq = [] → MemKept s t)
    Runs (exec .powerOnReset s) (fun t => t.pwr = pwrReset ∧ t.cores = State.reset.cores ∧ t.lcy.fuses = s.lcy.fuses
        ∧ t.rtc = { s.rtc with tickAt := 0 } ∧ t.pending = s.pending ∧ t.lane = s.lane
        ∧ (∀ a, t.reg a = if a / 0x1000 = 0x806 then s.reg a else regReset a)
        ∧ (∀ a, inMram a = false → t.word a = 0) ∧ (s.memc.mq = [] → ∀ a, inMram a = true → t.word a = s.word a))
    ∧ (Accepts s rq R.SYS_RST → Runs (exec (.warmReset rq) s) (fun t => base 2 2 t ∧ t.reg R.CLK_RCNT = s.reg R.CLK_RCNT))
    ∧ (clocked s = true → Runs (exec .clockFault s) (fun t => base 2 3 t
        ∧ t.fld F.CLK_RCNT_CNT = satInc (s.fld F.CLK_RCNT_CNT) 1 8))
    ∧ (Accepts s rq R.BIST_CMD → destructiveAllowed s = true → s.lstate ≠ lsVoting →
        Runs (exec (.runlb rq) s) (fun t => base 2 2 t ∧ t.pwr.fullBist = true))
    ∧ (Accepts s rq R.BIST_CMD → (destructiveAllowed s = false ∨ s.lstate = lsVoting) →
        Runs (exec (.runlb rq) s) (fun t => Only [] [] [] s t))

/-- R506, R507, R509, R513, R514: the start-up; fuses that do not read leave the lane silent, a scrapped part stops
after step 1, and a failed partition outside the cores strikes the lane with cause 5. The hourly age check of the
power-up tests. -/
def Obligations.StartUpRuns : Prop :=
  ∀ (s : State) (r : StartUpRun) (form : Nat),
    (s.pwr.startDue = some form → s.pwr.pstate = .run → s.svp.silent = false →
      (r.fusesRead = false → Runs (exec (.startUp r) s) (fun t => t.svp.silent = true ∧ t.pwr.startDue = some form
        ∧ t.lstate = s.lstate ∧ t.cores = s.cores ∧ (∀ a, 0xF0000 ≤ a → a < 0x100000 → t.word a = 0)
        ∧ (∀ a, a < 0xF0000 ∨ 0x100000 ≤ a → t.word a = s.word a)))
      ∧ (r.fusesRead = true → form < 4 → lifeOf (s.lcy.fuses.life ||| r.lifeBad) = lcScrapped →
          Runs (exec (.startUp r) s) (fun t => t.fld F.BIST_STAT_STEP = 1 ∧ t.fld F.BIST_STAT_FORM = form
            ∧ t.lcState = lcScrapped ∧ t.lstate = s.lstate ∧ t.cores = s.cores ∧ t.pwr.startDue = none))
      ∧ (r.fusesRead = true → form ≠ formWake → lifeOf (s.lcy.fuses.life ||| r.lifeBad) ≠ lcScrapped →
          s.lstate = lsOffline → pairRetired s 0 = false → s.health (leadOf 0) = hcInUse → s.health (shadowOf 0) = hcInUse →
          Runs (exec (.startUp r) s) (fun t => t.pwr.startDue = none ∧ (t.lstate = lsSelftest ∨ t.lstate = lsStruck)
            ∧ (r.partF.toNat / 16 ≠ 0 → t.lstate = lsStruck ∧ t.fld F.HAL_RSTAT_STRKCAUSE = 5)
            ∧ (r.barrier = false ∨ r.llPath = false → t.lstate = lsStruck ∧ t.fld F.HAL_RSTAT_STRKCAUSE = 5)
            ∧ (∀ a, a < 0x100000 → t.lstate = lsStruck → t.word a = 0))))
    ∧ (s.pwr.startDue = none ∨ s.svp.silent = true → Runs (exec (.startUp r) s) (fun t => t = s))
    ∧ (clocked s = true → putDue s = true → s.fld F.BIST_PUTMAX_H ≠ 0 → (∃ i, i < 3 ∧ s.fld F.BIST_PUTMAX_H < putAge s i) →
        Runs (exec .powerupTestAge s) (fun t => srcPending t 253 = true ∧ Only [] [] [253] s t))
    ∧ (clocked s = true → putDue s = true → Runs (exec .powerupTestAge s) (fun t => t.pwr.putAt = some s.dlk.dtime
        ∧ (s.fld F.BIST_PUTMAX_H = 0 → Only [] [] [] s t)))
    ∧ (∀ d : DWord, s.pwr.putAt = some d → s.dlk.dtime.toNat < d.toNat + 3600000000000 →
        Runs (exec .powerupTestAge s) (fun t => t = s))

/-- R485 to R490: requests for a power state, its entry, which a source routed to a waiting core prevents, and the
wake. R493: a domain is unpowered when it is powered and idle, and keeps no state; an access powers it up, with source
10. -/
def Obligations.PowerStatesAndDomains : Prop :=
  (∀ (s : State) (rq : Req) (tgt : BitVec 3) (high : Nat) (ed : BitVec 2) (adr : Option (BitVec 8))
      (found : List (Nat × Upset)),
    let refused := fun (code n : Nat) (t : State) => t.fld F.PWR_REFUSER_CODE = code ∧ t.fld F.PWR_REFUSER_TGT = n
      ∧ t.fld F.PWR_REFUSE_CNT_CNT = satInc (s.fld F.PWR_REFUSE_CNT_CNT) 1 16 ∧ t.fld F.PWR_STAT_PEND = 0
      ∧ srcPending t 9 = true ∧ t.pwr.pstate = s.pwr.pstate
      ∧ Only [R.PWR_REFUSE_CNT, R.PWR_REFUSER, R.PWR_STAT] [] [9] s t
    -- the WAKE pin has passed its filter of WFLT µs, or has not; between the ends of the filter's tolerance it is free
    let w := max 1 (s.fld F.PWR_WAKECFG_WFLT)
    let sure := high < 700 * w ∨ 1300 * w ≤ high
    let called := adr.any fun a => decide (a.toNat = s.fld F.PWR_SVPADR_ADDR) || (s.fldB F.PWR_WAKECFG_BCEN && decide (a = 0xFF))
    let act : BitVec 5 := BitVec.ofNat 5 (b2n (decide (1300 * w ≤ high)) + 4 * ed.toNat + 16 * b2n (wakeAddress adr s))
    let m := wakeSources act s
    let woken := fun (m last : Nat) (t : State) => t.fld F.PWR_WSRC_ACT = m % 32 ∧ t.fld F.PWR_STAT_LAST = last
      ∧ maskHas m (t.fld F.PWR_WSRC_FIRST - 1) = true ∧ t.pwr.pstate = .run
    (Accepts s rq R.PWR_CMD →
      (∀ code, tgt ≠ 0 → entryRefusal tgt.toNat (s.fldB F.PWR_STAT_PEND) s = some code →
        Runs (exec (.powerStateRequest rq tgt) s) (refused code tgt.toNat))
      ∧ (tgt ≠ 0 → s.lstate = lsVoting → Runs (exec (.powerStateRequest rq tgt) s) (refused 1 tgt.toNat))
      ∧ (tgt ≠ 0 → entryRefusal tgt.toNat (s.fldB F.PWR_STAT_PEND) s = none →
        Runs (exec (.powerStateRequest rq tgt) s) (fun t => t.fld F.PWR_STAT_PEND = tgt.toNat ∧ Only [R.PWR_STAT] [] [] s t))
      ∧ (tgt = 0 → Runs (exec (.powerStateRequest rq tgt) s) (fun t => t = s))
      ∧ Runs (exec (.cancel rq) s) (fun t => t.fld F.PWR_STAT_PEND = 0 ∧ Only [R.PWR_STAT] [] [] s t)
      ∧ Runs (exec (.padrel rq) s) (fun t => t.fld F.PWR_STAT_PADHOLD = 0
          ∧ (s.fldB F.PWR_STAT_PADHOLD = true → t.pwr.pads = none) ∧ Only [R.PWR_STAT] [] [] s t))
    ∧ (clocked s = true → allWait s = true → waitOver s = false → s.fld F.PWR_STAT_PEND ≠ 0 →
      (∀ code cut, entryRefusal (s.fld F.PWR_STAT_PEND) false s = some code →
        Runs (exec (.powerEntry cut) s) (refused code (s.fld F.PWR_STAT_PEND)))
      ∧ (entryRefusal (s.fld F.PWR_STAT_PEND) false s = none →
        Runs (exec (.powerEntry 1) s) (refused 8 (s.fld F.PWR_STAT_PEND))
        ∧ Runs (exec (.powerEntry 2) s) (refused 11 (s.fld F.PWR_STAT_PEND))
        ∧ (s.fld F.PWR_STAT_PEND = 2 → Runs (exec (.powerEntry 0) s) (fun t => t.pwr.pstate = .sleep
            ∧ t.fldB F.PWR_STAT_PADHOLD = true ∧ t.fld F.PWR_STAT_PEND = 0 ∧ t.pwr.pads = some (padLevels s)
            ∧ t.mem = s.mem ∧ t.cores = s.cores))
        ∧ (s.fld F.PWR_STAT_PEND = 3 → Runs (exec (.powerEntry 0) s) (fun t => t.pwr.pstate = .deep
            ∧ t.fldB F.PWR_STAT_PADHOLD = true ∧ t.pwr.pads = some (padLevels s) ∧ t.pwr.kept = s.fld F.MEMC_RET_KEEP
            ∧ ∀ a, a < 0x400000 → t.word a = if inMram a = true
                ∨ (a < 0x100000 ∧ maskHas (s.fld F.MEMC_RET_KEEP) (bankOf a) = true) then s.word a else 0))
        ∧ (s.fld F.PWR_STAT_PEND = 4 → Runs (exec (.powerEntry 0) s) (fun t => t.pwr.pstate = .off
            ∧ t.reg R.PWR_WAKECFG = s.reg R.PWR_WAKECFG ∧ ∀ a, t.word a = if inMram a = true then s.word a else 0))))
    ∧ (clocked s = true → waitOver s = true → Runs (exec (.powerEntry 0) s) (fun t => t = s))
    ∧ (wakeAddress adr s = true ↔ called)
    ∧ (sure → s.pwr.pstate = .sleep → m ≠ 0 → Runs (exec (.wakeEvent high ed adr found) s) (fun t => woken m 1 t ∧ srcPending t 8 = true
        ∧ t.mem = s.mem ∧ t.cores = s.cores))
    ∧ (sure → s.pwr.pstate = .deep → m ≠ 0 → Runs (exec (.wakeEvent high ed adr found) s) (fun t => woken m 2 t
        ∧ t.pwr.startDue = some formWake ∧ t.fld F.SYS_RSTCAUSE_CAUSE = rcWake))
    ∧ (sure → s.pwr.pstate = .off → maskHas m 0 = true → Runs (exec (.wakeEvent high ed adr found) s) (fun t => woken 1 3 t
        ∧ t.pwr.startDue = some formCold))
    ∧ (sure → clocked s = true → Runs (exec (.wakeEvent high ed adr found) s) (fun t => t.pwr.wakeAct = act ∧ Only [] [] [] s t)))
  ∧ (∀ (s : State) (rq : Req) (v d : Fin 5) (off : BitVec 5),
    (Accepts s rq R.PWR_DOMOFF →
      (off.getLsbD d.val = true → domainPowered s d.val = true → domainIdle s d.val = true →
        Runs (exec (.domainPowerDown rq off) s) (fun t => domainPowered t d.val = false
          ∧ (∀ a, domainOf a = some d.val → t.reg a = regReset a) ∧ t.mem = s.mem ∧ t.cores = s.cores))
      ∧ (off.getLsbD d.val = false ∨ domainIdle s d.val = false →
        Runs (exec (.domainPowerDown rq off) s) (fun t => domainPowered t d.val = domainPowered s d.val
          ∧ ∀ a, domainOf a = some d.val → t.reg a = s.reg a)))
    ∧ (clocked s = true → domainPowered s d.val = false →
        Runs (exec (.domainWake d) s) (fun t => domainPowered t d.val = true ∧ srcPending t 10 = true
          ∧ (∀ a, domainOf a = some d.val → t.reg a = regReset a) ∧ (v ≠ d → domainPowered t v.val = domainPowered s v.val)
          ∧ (∀ a, domainOf a ≠ some d.val → a ∉ [R.PWR_DOMST, R.PWR_DOMOFF, R.INT_PEND 0] → t.reg a = s.reg a)
          ∧ t.mem = s.mem ∧ t.cores = s.cores))
    ∧ (clocked s = true → domainPowered s d.val = true → Runs (exec (.domainWake d) s) (fun t => t = s)))

/-- R495 to R501: the calendar's tick with its trim, set, adoption and alarm, its cross-check, and the monitors of
clock and supply. -/
def Obligations.CalendarAndMonitors : Prop :=
  ∀ (s : State) (rq : Req) (v : Word) (which : Fin 3) (d : BitVec 8) (l : List (BitVec 8)) (i : Fin 3) (low : Bool),
    let left := if s.rtc.ticks % 2 ^ 20 = 0 then max (-255) (s.fldI F.RTC_CAL_CAL) else s.rtc.calLeft
    let next : Nat := (s.rtcTime + (if 0 < left then 2 else if left < 0 then 0 else 1)) % 2 ^ 63
    Runs (exec .rtcTick s) (fun t => t.rtc.ticks = s.rtc.ticks + 1 ∧ t.rtc.setDue = false ∧ t.rtc.adoptDue = false
        ∧ t.fldB F.RTC_STAT_XOK = true
        ∧ (s.rtc.setDue = true → t.rtcTime = timeOf (s.reg R.RTC_SETL) (s.reg R.RTC_SETH) ∧ t.fldB F.RTC_STAT_VALID = true)
        ∧ (s.rtc.setDue = false → s.rtc.adoptDue = true → (t.rtcTime : Int) = (Int.ofNat next - (s.reg R.RTC_XDIFF).toInt) % 2 ^ 63
            ∧ t.fldB F.RTC_STAT_VALID = true)
        ∧ (s.rtc.setDue = false → s.rtc.adoptDue = false → t.rtcTime = next
            ∧ t.fldB F.RTC_STAT_VALID = s.fldB F.RTC_STAT_VALID
            ∧ (s.fldB F.RTC_CTRL_ALMEN = true → s.rtc.dead = false → next = s.alarmTime →
                t.fldB F.RTC_FLG_AF = true ∧ srcPending t 12 = true))
        ∧ (next / 2 ^ 15 ≠ s.rtcTime / 2 ^ 15 → srcPending t 13 = true)
        ∧ Only [R.RTC_TIMEL, R.RTC_TIMEH, R.RTC_STAT, R.RTC_FLG] [] [12, 13] s t)
    ∧ (Accepts s rq R.RTC_CMD → Runs (exec (.rtcSet rq) s) (fun t => t.rtc.setDue = true ∧ Only [] [] [] s t)
        ∧ Runs (exec (.adopt rq) s) (fun t => t.rtc.adoptDue = true ∧ Only [] [] [] s t))
    ∧ (Accepts s rq R.RTC_XREF → Runs (exec (.rtcXrefWrite rq v) s) (fun t => t.reg R.RTC_XREF = v
        ∧ t.reg R.RTC_XDIFF = s.reg R.RTC_SNAPC - v
        ∧ ((s.fld F.RTC_XTOL_TOL : Int) < ((s.reg R.RTC_SNAPC - v).toInt.natAbs : Int) → flagSet t 116 = true
            ∧ srcPending t 14 = true ∧ t.fld F.RTC_XCNT_CNT = satInc (s.fld F.RTC_XCNT_CNT) 1 16)
        ∧ Only [R.RTC_XREF, R.RTC_XDIFF, R.RTC_XCNT] [116] (14 :: hoistSrcs) s t))
    ∧ (Accepts s rq (alarmReg which) → Runs (exec (.alarmWrite rq which v) s) (fun t =>
        (which = 0 → t.reg R.RTC_ALML = v) ∧ (which = 1 → t.fld F.RTC_ALMH_SECH = getBits v 0 12)
        ∧ (which = 2 → t.fld F.RTC_CTRL_ALMEN = getBits v 0 1)
        ∧ t.rtc.dead = (t.fldB F.RTC_CTRL_ALMEN && decide (t.alarmTime ≤ t.rtcTime))
        ∧ (t.rtc.dead = true → t.fldB F.RTC_FLG_APAST = true) ∧ Only [alarmReg which, R.RTC_FLG] [] [] s t))
    ∧ (s.rtc.stopped = true ∨ s.dlk.dtime.toNat < s.rtc.tickAt.toNat + 100000 →
        Runs (exec .rtcCrystalStop s) (fun t => t = s))
    ∧ (clocked s = true → s.rtc.stopped = false → s.rtc.tickAt.toNat + 100000 ≤ s.dlk.dtime.toNat →
        Runs (exec .rtcCrystalStop s) (fun t => t.rtc.stopped = true ∧ t.fldB F.RTC_FLG_XSTOP = true
        ∧ t.fldB F.RTC_STAT_XOK = false ∧ flagSet t 113 = true ∧ srcPending t 14 = true
        ∧ Only [R.RTC_FLG, R.RTC_STAT] [113] (14 :: hoistSrcs) s t))
    ∧ Runs (exec .rtcPowerUp s) (fun t => (∀ a, t.reg a = if a / 0x1000 = 0x806 then regReset a else s.reg a)
        ∧ t.rtc = ⟨0, 0, false, false, s.dlk.dtime, false, false⟩ ∧ t.mem = s.mem ∧ t.cores = s.cores)
    ∧ (clocked s = true →
        let beyond := decide (5 * (s.fld F.CLK_CTRL_WTHR + 1) < 2 * d.toInt.natAbs)
        (20 < d.toInt.natAbs → Runs (exec (.clockWarning [d]) s) (fun t => Runs (exec .clockFault s) (fun u => t = u)))
        ∧ (d.toInt.natAbs ≤ 20 → Runs (exec (.clockWarning [d]) s) (fun t => t.fld F.CLK_STAT_DEV = d.toNat
            ∧ t.fldB F.CLK_STAT_WARN = beyond ∧ t.pwr.clkOver = (if beyond then s.pwr.clkOver + 1 else 0)
            ∧ (beyond = true → s.pwr.clkOver = 4 → t.fld F.CLK_WCNT_CNT = satInc (s.fld F.CLK_WCNT_CNT) 1 F.CLK_WCNT_CNT.w
                ∧ flagSet t 113 = true ∧ srcPending t 11 = true ∧ Only [R.CLK_STAT, R.CLK_WCNT] [113] (11 :: hoistSrcs) s t)
            ∧ (beyond = false ∨ s.pwr.clkOver ≠ 4 → Only [R.CLK_STAT] [] [] s t))))
    ∧ Runs (exec (.clockWarning [d]) s) (fun u =>
        Runs (exec (.clockWarning (d :: l)) s) (fun t => Runs (exec (.clockWarning l) u) (fun w => t = w)))
    ∧ (s.pwr.pstate ≠ .off → Runs (exec (.supplyMonitor i low) s) (fun t => maskHas (t.reg R.PWR_SUP).toNat i.val = low
        ∧ (low = true → maskHas (s.reg R.PWR_SUP).toNat i.val = false → flagSet t 114 = true ∧ srcPending t 15 = true)
        ∧ Only [R.PWR_SUP] [114] (15 :: hoistSrcs) s t))

/-! Memory controller, DMA, overlays, life cycle -/

/-- R459, R461, R463, R465, R479: the wipe of the sealed bank, tamper events, the write-back of a corrected word
within 64 LCLK cycles of its read, the MRAM write queue and the scrub, each when it falls due. -/
def Obligations.MemoryControllerEvents : Prop :=
  ∀ (s : State) (i : Fin 4) (a : Nat) (w : MramWrite) (r : List MramWrite) (j : Fin 16) (b : Nat),
    let blk := s.fld F.MEMC_SCRPOS_BLOCK
    let quietBlk := clocked s = true ∧ s.fldB F.MEMC_CTRL_SCREN = true ∧ s.memc.mq = []
      ∧ (∀ n, n < 16 → upsetAt s (0x200000 + 16 * blk + n) = none) ∧ 659200000 ≤ s.memc.scrubNs
    let moved := fun (t : State) => (blk < 0x1FFFF → t.fld F.MEMC_SCRPOS_BLOCK = blk + 1)
      ∧ (blk = 0x1FFFF → t.fld F.MEMC_SCRPOS_BLOCK = 0 ∧ t.fld F.MEMC_SCRPOS_PASS = satInc (s.fld F.MEMC_SCRPOS_PASS) 1 19)
    let now := s.dlk.dtime.toNat
    (s.fldB F.MEMC_STAT_WIPE = true → s.memc.wipeAt.toNat + 32768 ≤ now → Runs (exec .wipeComplete s) (fun t => t.fldB F.MEMC_STAT_WIPE = false
        ∧ t.fldB F.XLA_KEYSTAT_LOADED = false ∧ Only [R.MEMC_STAT, R.XLA_KEYSTAT] [] [] s t))
    ∧ (now < s.memc.wipeAt.toNat + 32768 → Runs (exec .wipeComplete s) (fun t => t = s))
    ∧ (s.pwr.pstate ≠ .off → Runs (exec (.tamperEvent i) s) (fun t => maskHas (t.reg R.MEMC_TAMP).toNat i.val = true
        ∧ flagSet t 115 = true ∧ t.cores = s.cores
        ∧ (s.pwr.pstate = .deep → t.fldB F.MEMC_STAT_TPEND = true ∧ t.mem = s.mem)
        ∧ (s.pwr.pstate ≠ .deep → t.fldB F.MEMC_STAT_WIPE = true
          ∧ t.fld F.MEMC_WIPECNT_CNT = satInc (s.fld F.MEMC_WIPECNT_CNT) 1 16
          ∧ ∀ a, t.word a = if 0xF0000 ≤ a ∧ a < 0x100000 then 0 else s.word a)))
    ∧ (∀ d l, s.memc.wb = (a, d) :: l → Runs (exec (.eccWriteBack a) s) (fun t =>
        (∀ p ∈ t.memc.wb, p.1 ≠ a) ∧ (∀ x, x ≠ a → upsetAt t x = upsetAt s x) ∧ Only [] [] [] s t
        ∧ (now ≤ d.toNat + 128 → upsetAt t a = none) ∧ (d.toNat + 128 < now → upsetAt t a = upsetAt s a)))
    ∧ ((∀ p ∈ s.memc.wb, p.1 ≠ a) → Runs (exec (.eccWriteBack a) s) (fun t => t = s))
    ∧ (now < s.memc.mqAt.toNat + 60 → Runs (exec .mramWriteComplete s) (fun t => t = s))
    ∧ (s.memc.mq = w :: r → s.memc.mqAt.toNat + 60 ≤ now → Runs (exec .mramWriteComplete s) (fun t => t.word w.addr = w.val ∧ MemKeptBut w.addr 1 s t
        ∧ t.memc.mq = r ∧ t.regs = s.regs ∧ t.cores = s.cores))
    ∧ (quietBlk →
      Runs (exec (.scrubBlock []) s) (fun t => moved t ∧ Only [R.MEMC_SCRPOS] [] [] s t)
      ∧ Runs (exec (.scrubBlock [(j, .oneBit b)]) s) (fun t => moved t
          ∧ t.fld F.MEMC_SCRCNT_CORR = satInc (s.fld F.MEMC_SCRCNT_CORR) 1 16 ∧ upsetAt t (0x200000 + 16 * blk + j.val) = none
          ∧ Only [R.MEMC_SCRPOS, R.MEMC_SCRCNT] [] [] s t)
      ∧ Runs (exec (.scrubBlock [(j, .uncorrectable)]) s) (fun t => moved t ∧ flagSet t 111 = true ∧ srcPending t 251 = true
          ∧ t.fld F.MEMC_SCRCNT_UNC = satInc (s.fld F.MEMC_SCRCNT_UNC) 1 12
          ∧ t.fld F.MEMC_SCRADDR_ADDR = 0x200000 + 16 * blk + j.val ∧ t.fldB F.MEMC_SCRADDR_V = true
          ∧ Only [R.MEMC_SCRPOS, R.MEMC_SCRCNT, R.MEMC_SCRADDR] [111] (251 :: hoistSrcs) s t))
    ∧ (s.memc.scrubNs < 659200000 → Runs (exec (.scrubBlock []) s) (fun t => t = s))

/-- R470 to R476: start, refusal, abort and completion of a march after its time, without a failing read, with one
that is not repaired and with one that a spare row repairs. -/
def Obligations.MarchTests : Prop :=
  ∀ (s : State) (rq : Req) (m : MarchRun) (x : FailRead) (again : List FailRead),
    let banks := s.fld F.MEMC_MCFG_BANKS
    let b := bankOf x.addr
    let fails := m.banks < 2 ^ 16 ∧ x.diff ≠ 0 ∧ maskHas m.banks b = true ∧ m.cut = false
      ∧ 1 ≤ x.elem ∧ x.elem ≤ (if m.form then 5 else 4) ∧ x.bg < 4 ∧ (m.form = false ∨ m.allbg = true ∨ x.bg = m.bg)
    let pass := 1310720 * (if m.form && m.allbg then 4 else 1)
    let now := s.dlk.dtime.toNat
    let ended := fun (st : Nat) (t : State) => t.fld F.MEMC_MSTAT_STATE = st ∧ t.fldB F.MEMC_STAT_MBUSY = false
      ∧ t.memc.march = none ∧ t.cores = s.cores
    (Accepts s rq R.MEMC_MCMD → (maskHas banks 15 = true → 3 ≤ rq.cls) →
      (marchRefused s = false → Runs (exec (.marchStart rq) s) (fun t => t.fld F.MEMC_MSTAT_STATE = 1
        ∧ t.fldB F.MEMC_STAT_MBUSY = true ∧ t.fldB F.MEMC_MFAIL_V = false
        ∧ t.memc.march = some ⟨banks, s.fldB F.MEMC_MCFG_FORM, s.fldB F.MEMC_MCFG_REPAIR, s.fldB F.MEMC_MCFG_FUSE, false,
            s.fld F.MEMC_MCFG_BG, s.fldB F.MEMC_MCFG_ALLBG, s.dlk.dtime⟩
        ∧ Only [R.MEMC_MSTAT, R.MEMC_STAT, R.MEMC_MFAIL] [] [] s t))
      ∧ (marchRefused s = true → Runs (exec (.marchStart rq) s) (fun t => t.fld F.MEMC_MSTAT_STATE = 6
        ∧ t.memc = s.memc ∧ Only [R.MEMC_MSTAT] [] [] s t))
      ∧ (banks = 0 → marchRefused s = true) ∧ (s.memc.march = some m → marchRefused s = true))
    ∧ (Accepts s rq R.MEMC_MCMD → s.memc.march = some m → m.banks < 2 ^ 16 →
        Runs (exec (.marchAbort rq) s) (fun t => ended 5 t ∧ t.mem = s.mem
          ∧ (∀ n, n < 16 → poisoned t n = (poisoned s n || (m.form && maskHas m.banks n)))))
    ∧ (s.memc.march = some m → now < m.at_.toNat + pass → Runs (exec (.marchComplete [x] again) s) (fun t => t = s))
    ∧ (s.memc.march = some m → m.banks < 2 ^ 16 → m.at_.toNat + pass ≤ now →
        Runs (exec (.marchComplete [] []) s) (fun t => ended (if m.cut then 5 else 2) t ∧ t.fld F.MEMC_MSTAT_FAILB = 0
          ∧ srcPending t 248 = true
          ∧ (∀ n, n < 16 → poisoned t n = (poisoned s n && !(m.form && maskHas m.banks n)))
          ∧ ∀ a, t.word a = if m.form = true ∧ a < 0x100000 ∧ maskHas m.banks (bankOf a) = true then 0 else s.word a))
    ∧ (s.memc.march = some m → fails → m.repair = false → m.at_.toNat + pass ≤ now →
        Runs (exec (.marchComplete [x] again) s) (fun t => ended 4 t ∧ t.fld F.MEMC_MSTAT_FAILB = 2 ^ b
          ∧ t.fld F.MEMC_MFCNT_CNT = satInc (s.fld F.MEMC_MFCNT_CNT) 1 24 ∧ flagSet t 112 = true ∧ srcPending t 248 = true
          ∧ (s.fldB F.MEMC_MFAIL_V = false → t.fld F.MEMC_MFAIL_ADDR = x.addr ∧ t.fldB F.MEMC_MFAIL_V = true)))
    ∧ (∀ k, s.memc.march = some m → fails → m.repair = true → m.form = true → m.fuse = false → k < 44 →
        x.diff = BitVec.twoPow 44 k → s.fld (F.MEMC_REP_RF b) = 0 → s.fld (F.MEMC_REP_RS b) = 0 →
        m.at_.toNat + 2 * pass ≤ now →
        Runs (exec (.marchComplete [x] []) s) (fun t => ended 3 t ∧ t.fld (F.MEMC_REP_RS b) = 1
          ∧ t.fld F.MEMC_MSTAT_UNREP = 0 ∧ ∀ a, a < 0x100000 → bankOf a = b → t.word a = 0))

/-- R477, R478, R481: start, trigger, end, error and stop of a DMA transfer. -/
def Obligations.DmaTransfers : Prop :=
  ∀ (s : State) (rq : Req) (c : Fin 8) (v : Word) (r : DmaRun) (wlost : Nat) (fw : Arrive),
    let n := s.fld (F.DMA_CNT_CNT c.val)
    let busy := fun (t : State) => t.fldB (F.DMA_STAT_BUSY c.val)
    let frame := fun (t : State) => Only [R.DMA_CTL c.val, R.DMA_STAT c.val] [] [232 + c.val] s t
    let begun := fun (sinc dinc : Bool) (cls : Nat) (t : State) => busy t = true ∧ t.fld (F.DMA_STAT_LEFT c.val) = n
      ∧ t.dma[c] = some ⟨s.fld (F.DMA_SRC_ADDR c.val), s.fld (F.DMA_DST_ADDR c.val), n, sinc, dinc, cls, 0⟩ ∧ frame t
    (Accepts s rq (R.DMA_CTL c.val) → busy s = false →
      (n ≠ 0 → getBits v 3 2 ≠ 3 → getBits v 3 2 ≤ rq.cls → Runs (exec (.dmaStart rq c v) s) (fun t =>
        begun (bit v 1) (bit v 2) (getBits v 3 2) t ∧ t.fldB (F.DMA_CTL_EN c.val) = true
          ∧ t.fldB (F.DMA_STAT_ERR c.val) = false))
      ∧ (n = 0 → Runs (exec (.dmaStart rq c v) s) (fun t => srcPending t (232 + c.val) = true
          ∧ t.fldB (F.DMA_CTL_EN c.val) = false ∧ busy t = false ∧ t.dma = s.dma ∧ frame t)))
    ∧ (s.intc.edges.getLsbD (s.fld (F.DMA_CTL_TSRC c.val)) = false → Runs (exec (.dmaTrigger c) s) (fun t => t = s))
    ∧ (clocked s = true → s.fldB (F.DMA_CTL_EN c.val) = true → s.fldB (F.DMA_CTL_TEN c.val) = true →
      s.intc.edges.getLsbD (s.fld (F.DMA_CTL_TSRC c.val)) = true → s.intc.taken.getLsbD c.val = false →
      (busy s = false → n ≠ 0 → Runs (exec (.dmaTrigger c) s) (begun (s.fldB (F.DMA_CTL_SINC c.val))
        (s.fldB (F.DMA_CTL_DINC c.val)) (s.fld (F.DMA_CTL_CLS c.val))))
      ∧ (busy s = true → Runs (exec (.dmaTrigger c) s) (fun t => t.fld F.DMA_LOST_CNT = satInc (s.fld F.DMA_LOST_CNT) 1 16
          ∧ t.dma = s.dma ∧ Only [R.DMA_LOST] [] [] s t)))
    ∧ (clocked s = true → s.dma[c] = some r →
      (r.sinc = true → r.dinc = true → (∀ j, j < r.cnt → SramGood s (r.src + j) ∧ SramOpen s r.cls (r.dst + j)) →
        r.src + r.cnt ≤ r.dst ∨ r.dst + r.cnt ≤ r.src →
        Runs (exec (.dmaTransferEnd c wlost) s) (fun t => (∀ j, j < r.cnt → t.word (r.dst + j) = s.word (r.src + j))
          ∧ MemKeptBut r.dst r.cnt s t ∧ busy t = false ∧ t.fld (F.DMA_STAT_LEFT c.val) = 0 ∧ t.dma[c] = none
          ∧ srcPending t (232 + c.val) = true ∧ t.fld F.DMA_WLCNT_CNT = satInc (s.fld F.DMA_WLCNT_CNT) wlost 16
          ∧ t.fldB (F.DMA_CTL_EN c.val) = (s.fldB (F.DMA_CTL_EN c.val) && s.fldB (F.DMA_CTL_TEN c.val)) ∧ t.cores = s.cores))
      ∧ (r.cnt ≠ 0 → Runs (exec (.dmaError c 0 .timeout fw) s) (fun t => t.fld (F.DMA_STAT_RESP c.val) = 7
          ∧ t.fldB (F.DMA_STAT_ERR c.val) = true ∧ busy t = false ∧ t.fldB (F.DMA_CTL_EN c.val) = false ∧ t.dma[c] = none
          ∧ srcPending t (240 + c.val) = true ∧ Only [R.DMA_CTL c.val, R.DMA_STAT c.val] [] [240 + c.val] s t)))
    ∧ (Accepts s rq (R.DMA_CTL c.val) → Runs (exec (.dmaStop rq c 0) s) (fun t => t.fldB (F.DMA_CTL_EN c.val) = false
        ∧ busy t = false ∧ t.dma[c] = none ∧ t.fld (F.DMA_CTL_CLS c.val) = s.fld (F.DMA_CTL_CLS c.val)
        ∧ Only [R.DMA_CTL c.val, R.DMA_STAT c.val] [] [] s t))

/-- R210, R516 to R519, R525 to R527: the build of the inactive copy of the configuration window, OVEN and its bound,
and the end of a rolling LBIST run. -/
def Obligations.OverlaysAndRollingLbist : Prop :=
  ∀ (s : State) (rq : Req) (v : Word) (partF : BitVec 10) (j0 j1 : PairInj),
    let base := dirCwbase s + 0x1000 * (1 - s.fld F.SYS_OVLSTAT_CWSEL)
    let win := windowOf s (s.fld F.SYS_OVLSTAT_TGT)
    let fits := 2000 + 20 * (dirWlen s + 255) ≤ max 2 (getBits v 5 6) * s.fld F.XLA_TFRAME_TFRAME
    (clocked s = true → s.fldB F.SYS_OVLSTAT_BUILD = true → Runs (exec .overlayBuildComplete s) (fun t =>
        t.fldB F.SYS_OVLSTAT_BUILD = false ∧ t.ovl.built = true ∧ MemKeptBut base win.length s t
        ∧ (∀ i (h : i < win.length), t.word (base + i) = win[i]) ∧ t.cores = s.cores ∧ RegsKeptBut [R.SYS_OVLSTAT] s t))
    ∧ (clocked s = true → s.fldB F.SYS_OVLSTAT_BUILD = false → Runs (exec .overlayBuildComplete s) (fun t => t = s))
    ∧ (Accepts s rq R.SYS_OVLCFG → s.rwlLocked = false → Runs (exec (.oven rq v) s) (fun t =>
        (fits → t.fldB F.SYS_OVLCFG_OVEN = true) ∧ (¬fits → t.fldB F.SYS_OVLCFG_OVEN = false)
        ∧ t.fld F.SYS_OVLCFG_OWIDX = getBits v 1 4 ∧ t.fld F.SYS_OVLCFG_OLAT = getBits v 5 6
        ∧ Only [R.SYS_OVLCFG] [] [] s t))
    ∧ (Accepts s rq R.SYS_OVLCFG → s.rwlLocked = true → Runs (exec (.oven rq v) s) (fun t => t = s))
    ∧ (clocked s = true → s.ovl.rolling = true → s.fld F.BIST_RLBSTAT_RPH = 1 →
      Runs (exec (.rollingLbistEnd partF j0 j1) s) (fun t => t.ovl.rolling = false
        ∧ t.fld F.BIST_RLBSTAT_PARTF = partF.toNat % 512
        ∧ (16 ≤ partF.toNat % 512 → t.lstate = lsStruck ∧ t.fld F.BIST_RLBSTAT_RPH = 0 ∧ srcPending t 252 = true
            ∧ (s.lstate ≠ lsStruck → t.fld F.HAL_RSTAT_STRKCAUSE = 5))
        ∧ (partF.toNat % 512 < 16 → t.fldB F.LSC_STAT_JINH = true
            ∧ (t.lstate = lsStruck ∨ t.fld F.BIST_RLBSTAT_RPH = 4)
            ∧ (pairRetired s 0 = false → j0.passed = false → t.fld F.LSC_VERD_V0 = 4 ∧ pairRetired t 0 = true)
            ∧ (pairRetired s 1 = false → j1.passed = false → t.fld F.LSC_VERD_V1 = 4 ∧ pairRetired t 1 = true))))

/-- R520 to R523, R528 to R530, R536: seal records, update sessions, SCRAP and the key output. -/
def Obligations.LifeCycleRecords : Prop :=
  ∀ (s : State) (rq : Req) (r : List Word) (l : List Word),
    let ok := fun (ty : Nat) => clocked s = true ∧ s.pwr.startDue = none ∧ recType r = ty ∧ recCheck s r = stOk
    let moves := fun (n : Nat) (t : State) =>
      t.lcy.fuses.life = s.lcy.fuses.life ||| BitVec.ofNat 5 (2 ^ (n - 1)) ∧ t.pwr.startDue = some formWarm
        ∧ t.fld F.SYS_RSTCAUSE_CAUSE = rcLife ∧ t.lstate = lsOffline ∧ t.cores = State.reset.cores
        ∧ ((∀ q ∈ s.memc.mq, inMram q.addr = true) → ∀ a, 0xF0000 ≤ a → a < 0x100000 → t.word a = 0)
    let taken := fun (ty : Nat) (t : State) => t.reg R.LCY_RLAST = BitVec.ofNat 36 ty ∧ srcPending t 220 = true
      ∧ t.fld F.LCY_RCNT_ACC = satInc (s.fld F.LCY_RCNT_ACC) 1 F.LCY_RCNT_ACC.w ∧ t.lcy.lastSeq = some (recSeq r)
      ∧ t.cores = s.cores
    let n := (recPayload r).length
    (ok 1 → recN r = 16 → s.memc.mq = [] → Runs (exec (.owner r) s) (fun t => moves lcDevelop t
        ∧ t.lcy.fuses.ownerHash = some (BitVec.ofNat 256 (shaOfWords (recPayload r)))
        ∧ ∀ i (h : i < n), t.word (0x3FC000 + i) = (recPayload r)[i]))
    ∧ (ok 2 → (∀ i, i < recN r → inProtected (recAddr r + i) = true) → Runs (exec (.write r) s) (fun t => taken 2 t
        ∧ (∀ i (h : i < n), t.word (recAddr r + i) = (recPayload r)[i]) ∧ MemKeptBut (recAddr r) n s t))
    ∧ (ok 3 → recN r = 13 → Runs (exec (.keys r) s) (fun t => taken 3 t ∧ t.fldB F.LCY_KSTAT_PRES = true
        ∧ t.words 0x3FC010 18 = wrapKeys s (recPayload r) ∧ MemKeptBut 0x3FC010 18 s t))
    ∧ (ok 4 → sealMatches s r = true → Runs (exec (.seal r) s) (moves lcSealed))
    ∧ (ok 5 → Runs (exec (.sealOpen r) s) (fun t => taken 5 t ∧ t.fldB F.LCY_STATE_SESS = true ∧ srcPending t 222 = true
        ∧ t.mem = s.mem))
    ∧ (ok 6 → sealMatches s r = true → Runs (exec (.close r) s) (fun t => taken 6 t ∧ t.fldB F.LCY_STATE_SESS = false
        ∧ t.lcy.fuses.floor = max s.lcy.fuses.floor (recRb r)))
    ∧ (ok 7 → Runs (exec (.sealReturn r) s) (moves lcReturned))
    ∧ (ok 8 → Runs (exec (.scrapRecord r) s) (moves lcScrapped))
    ∧ (clocked s = true → s.pwr.startDue = none → recCheck s r ≠ stOk → recType r = 2 →
        Runs (exec (.write r) s) (fun t => t.reg R.LCY_RLAST = BitVec.ofNat 36 (2 + recCheck s r * 256)
          ∧ srcPending t 221 = true ∧ t.lcy = s.lcy ∧ Only [R.LCY_RLAST, R.LCY_RCNT] [] [221] s t))
    ∧ (Accepts s rq R.LCY_CMD → sealOk rq = true →
      (lcDevelop ≤ s.lcState → s.lcState ≤ lcReturned → Runs (exec (.scrap rq) s) (moves lcScrapped))
      ∧ Runs (exec (.endsess rq) s) (fun t => t.fldB F.LCY_STATE_SESS = false
          ∧ (s.fldB F.LCY_STATE_SESS = true → srcPending t 222 = true) ∧ Only [R.LCY_STATE] [] [222] s t))
    ∧ (Accepts s rq R.LCY_CMD → sealOk rq = false → Runs (exec (.scrap rq) s) (fun t => t = s))
    ∧ (Accepts s rq R.LCY_KOUT → sealOk rq = true → s.lcy.keys = some l → s.fldB F.LCY_KSTAT_UNWF = false →
        s.fld F.LCY_KSTAT_IDX < 13 → Runs (exec (.lcyKoutRead rq) s) (fun t =>
          t.fld F.LCY_KSTAT_IDX = s.fld F.LCY_KSTAT_IDX + 1 ∧ (s.fld F.LCY_KSTAT_IDX = 12 → srcPending t 254 = true)
          ∧ t.lcy = s.lcy ∧ Only [R.LCY_KSTAT] [] [254] s t))

/-- R37, R531 to R533, R538: the commands of the service port, a transaction that is cut short, whose CRC fails, whose
octets were lost between the clocks, or that arrives while the lane does not run; the first octet back is the status
of the one before. -/
def Obligations.ServicePort : Prop :=
  ∀ (s : State) (f : SvpFrame) (cmd : BitVec 8) (w : Word) (p l : List Word),
    let good := fun (c : Nat) => f.cut = false ∧ f.crc = crc8
      (BitVec.ofNat 8 c :: BitVec.ofNat 8 f.payload.length :: (packWords f.payload).map (BitVec.ofNat 8))
    let heard := fun (c : Nat) => svpHeard f s = true ∧ f.lost = false ∧ good c ∧ svpRunning s = true
    let bare := fun (c : Nat) => heard c ∧ f.payload = []
    let live := fun (c : Nat) => heard c ∧ s.lcState ≠ lcScrapped
    let was : BitVec 8 := BitVec.ofNat 8 (s.fld F.SVP_STAT_LAST)
    let a := getBits w 0 24
    let n := getBits w 24 5 + 1
    let done := fun (st : Nat) (t : State) => t.fld F.SVP_STAT_LAST = st ∧ srcPending t 223 = true ∧ t.cores = s.cores
      ∧ t.svp.sdo.head? = some was
    let turned := fun (st : Nat) (t : State) => done st t ∧ t.svp = { s.svp with sdo := [was] }
    let octets := fun (l : List Word) => (l.length :: packWords l).map (BitVec.ofNat 8)
    (bare 0 → Runs (exec (.svpNop f 0) s) (fun t => turned stOk t ∧ Only [R.SVP_STAT] [] [223] s t))
    ∧ (8 < cmd.toNat → heard cmd.toNat → Runs (exec (.svpNop f cmd) s) (fun t => turned stUndef t ∧ srcPending t 219 = true
        ∧ t.fld F.SVP_ERRCNT_CMD = satInc (s.fld F.SVP_ERRCNT_CMD) 1 F.SVP_ERRCNT_CMD.w
        ∧ Only [R.SVP_STAT, R.SVP_ERRCNT] [] [219, 223] s t))
    ∧ (bare 1 → Runs (exec (.ident f) s) (fun t => done stOk t ∧ Only [R.SVP_STAT] [] [223] s t
        ∧ t.svp.resp = .words [s.reg R.SYS_BURGEE0, s.reg R.SYS_BURGEE1, s.reg R.SYS_BURGEE2, s.reg R.SYS_BURGEE3]))
    ∧ (bare 2 → Runs (exec (.version f) s) (fun t => done stOk t ∧ t.svp.resp = .words [0x10101010]
        ∧ Only [R.SVP_STAT] [] [223] s t))
    ∧ (bare 6 →
      (s.svp.resp = .words l → Runs (exec (.fetch f) s) (fun t => done stOk t
          ∧ t.svp.sdo = was :: (octets l ++ [crc8 (octets l)]) ∧ Only [R.SVP_STAT] [] [223] s t))
      ∧ (s.svp.resp = .none → Runs (exec (.fetch f) s) (fun t => done stBusy t ∧ t.mem = s.mem)))
    ∧ (heard 1 → f.payload ≠ [] → Runs (exec (.ident f) s) (fun t => turned stUndef t ∧ t.mem = s.mem))
    ∧ (live 3 → f.payload = [w] →
      ((∀ i, i < n → loaderReads s (a + i) = true ∧ upsetAt s (a + i) = none ∧ queued s (a + i) = none) →
        Runs (exec (.read f) s) (fun t => done stOk t ∧ t.svp.resp = .words (s.words a n)
          ∧ Only [R.SVP_STAT] [] [223] s t))
      ∧ (loaderReads s a = false → Runs (exec (.read f) s) (fun t => turned stAddr t
          ∧ Only [R.SVP_STAT, R.SVP_ERRCNT] [] [219, 223] s t)))
    ∧ (live 4 → f.payload = w :: p → 1 ≤ p.length → p.length ≤ 31 →
      (s.lcState ≠ lcSealed → a + p.length ≤ 0xF0000 → (∀ i, i < p.length → marching s (bankOf (a + i)) = false) →
        Runs (exec (.svpWrite f) s) (fun t => done stOk t ∧ MemKeptBut a p.length s t
          ∧ ∀ i (h : i < p.length), t.word (a + i) = p[i]))
      ∧ (s.lcState = lcSealed → Runs (exec (.svpWrite f) s) (fun t => turned stState t ∧ t.mem = s.mem)))
    ∧ (live 5 → f.payload = w :: p → bit w 16 = false → p.length ≤ 31 → getBits w 0 16 = s.svp.chunk → s.svp.chunk ≠ 0 →
        Runs (exec (.record f) s) (fun t => done stOk t ∧ t.svp.chunks = s.svp.chunks ++ p
          ∧ t.svp.chunk = s.svp.chunk + 1 ∧ Only [R.SVP_STAT] [] [223] s t))
    ∧ (live 7 → f.payload = p → 1 ≤ p.length → p.length ≤ 8 → s.fldB F.SVP_MSG_RXV = false → s.fldB F.SVP_CFG_MSGEN = true →
        Runs (exec (.msg f) s) (fun t => done stOk t ∧ t.fldB F.SVP_MSG_RXV = true ∧ t.fld F.SVP_MSG_RXLEN = p.length
          ∧ srcPending t 216 = true ∧ t.svp.resp = .msg ∧ ∀ i (h : i < p.length), t.reg (R.SVP_RX i) = p[i]))
    ∧ (live 8 → f.payload = [] →
      (destructiveAllowed s = true → s.lstate ≠ lsVoting → Runs (exec (.runbist f) s) (fun t =>
          t.fld F.SVP_STAT_LAST = stOk ∧ t.pwr.startDue = some formWarm ∧ t.pwr.fullBist = true))
      ∧ (s.lcState = lcSealed ∨ s.lstate = lsVoting → Runs (exec (.runbist f) s) (fun t => turned stState t
          ∧ t.pwr = s.pwr)))
    ∧ (svpHeard f s = true → f.lost = true → Runs (exec (.ident f) s) (fun t => turned stBusy t
        ∧ Only [R.SVP_STAT, R.SVP_ERRCNT] [] [223] s t))
    ∧ (svpHeard f s = true → f.lost = false → ¬good 1 → Runs (exec (.ident f) s) (fun t => turned stCrc t
        ∧ srcPending t 218 = true ∧ Only [R.SVP_STAT, R.SVP_ERRCNT] [] [218, 223] s t))
    ∧ (svpHeard f s = true → f.lost = false → good 1 → svpRunning s = false → Runs (exec (.ident f) s) (fun t =>
        turned stBusy t ∧ Only [R.SVP_STAT, R.SVP_ERRCNT] [] [223] s t))
    ∧ (svpHeard f s = false → Runs (exec (.ident f) s) (fun t => t = s))

/-! Registers, halyard, lock-step pairs, debug port -/

/-- R10, R87, R293, R365: a write of a register by the access codes of its fields, the software interrupt, and reads
that clear or capture. -/
def Obligations.RegisterWritesAndReads : Prop :=
  ∀ (s : State) (rq : Req) (a : Addr) (v : Word) (sw : BitVec 8) (n : Fin 2) (r : Fin 4) (row : RegRow),
    let m := BitVec.ofNat 36 (row.rw ||| (if s.rwlLocked then 0 else row.rwl))
    let w1c := BitVec.ofNat 36 row.w1c
    let w1s := BitVec.ofNat 36 row.w1s
    let x := s.reg a.toNat
    let at_ := a.toNat / 0x1000
    (Accepts s rq a.toNat → blockAddr a.toNat = true → regRow? a.toNat = some row →
      (at_ = 0x802 ∨ at_ = 0x827 ∨ at_ = 0x832 →
        Runs (exec (.registerWrite rq a v) s) (fun t =>
          t.reg a.toNat = ((((x &&& ~~~m) ||| (v &&& m)) &&& ~~~(v &&& w1c)) ||| (v &&& w1s))
            ∧ Only [a.toNat] [] [] s t))
      ∧ (a.toNat ≠ R.LCY_KOUT → a.toNat ≠ R.LCY_CMD → ¬(0x850400 ≤ a.toNat ∧ a.toNat < 0x851000) →
        Runs (exec (.readClear rq a) s) (fun t =>
          t.reg a.toNat = x &&& ~~~(BitVec.ofNat 36 row.rc) ∧ Only [a.toNat] [] [] s t)))
    ∧ (clocked s = true → (blockAddr a.toNat = false ∨ regRow? a.toNat = none) →
        Runs (exec (.registerWrite rq a v) s) (fun t => t = s) ∧ Runs (exec (.readClear rq a) s) (fun t => t = s))
    ∧ (clocked s = true → wakeWindow a.toNat s = s → blockAddr a.toNat = true → rq.cls < 2 →
        classBlocks.contains (a.toNat / 0x1000) = true → Runs (exec (.registerWrite rq a v) s) (fun t => t = s))
    ∧ (Accepts s rq R.INT_SWI → Runs (exec (.softwareInterrupt rq sw) s) (fun t =>
        (∀ i, i < 8 → pendBit t i = (pendBit s i || sw.getLsbD i)) ∧ (∀ i, 8 ≤ i → i < 256 → pendBit t i = pendBit s i)
          ∧ (∀ i, i < 8 → bit (t.reg R.INT_SWI) i = (bit (s.reg R.INT_SWI) i || sw.getLsbD i))
          ∧ t.mem = s.mem ∧ t.cores = s.cores ∧ RegsKeptBut [R.INT_SWI, R.INT_PEND 0] s t))
    ∧ (Accepts s rq (R.ISN_IU n.val) → Runs (exec (.isnIuRead rq n) s) (fun t =>
        (rq.src ∉ [4, 5, 9] → ∀ b, b ∈ [R.ISN_IV n.val, R.ISN_IW n.val, R.ISN_TS n.val, R.ISN_QUAL n.val] → t.captured rq.src b = some (s.reg b))
          ∧ (rq.src ∈ [4, 5, 9] → t.caps = s.caps) ∧ Only [R.ISN_IU n.val] [] [] s t))
    ∧ (Accepts s rq (R.SENT_FC r.val) → Runs (exec (.sentFcRead rq r) s) (fun t =>
        (∀ b, b ∈ [R.SENT_FC2 r.val, R.SENT_TS r.val] → t.captured rq.src b = some (s.reg b))
          ∧ Only [R.SENT_FC r.val] [] [] s t))

/-- R17, R176 to R182, R189: a line of the halyard changes at the controller die and at the gate-drive die, whose
status packets carry what it observes; the quiet time and the arming time elapse, the own line sticks; the claim and
its release by software. -/
def Obligations.HalyardAndClaim : Prop :=
  ∀ (s : State) (rq : Req) (x : Fin 3) (level atCtrl atDie : Bool),
    let at_ := fun (c : Bool) (o : Nat) => if c then maskHas o x.val = level else True
    let kept := fun (regs flags srcs : List Nat) (t : State) => Only (R.HAL_STAT :: regs) flags srcs s t
    let now := s.dlk.dtime.toNat
    let since := fun (o : Option DWord) (d n : Nat) => o.any fun t => decide (t.toNat + n ≤ d)
    let held := fun (t : State) => t.fldB F.HAL_STAT_ENSIGN = (t.fldB F.HAL_STAT_CLAIM && decide (t.obs = s.laneBit))
    Runs (exec (.halyardChange x level atCtrl atDie) s) (fun t =>
        at_ (atCtrl && clocked s) t.obs ∧ at_ (atDie && s.die.powered) t.die.gobs
          ∧ (atCtrl = false → t.obs = s.obs) ∧ (atDie = false → t.die = s.die)
          ∧ (∀ y : Fin 3, y ≠ x → maskHas t.obs y.val = maskHas s.obs y.val
            ∧ maskHas t.die.gobs y.val = maskHas s.die.gobs y.val)
          ∧ t.fld F.HAL_STAT_GOBS = s.fld F.HAL_STAT_GOBS ∧ t.fldB F.HAL_STAT_SHEN = s.fldB F.HAL_STAT_SHEN
          ∧ (atCtrl = true → clocked s = true → maskHas s.obs x.val ≠ level → held t ∧ (level = true → t.fldB F.HAL_STAT_QUIET = false))
          ∧ (atDie = true → s.die.powered = true → maskHas s.die.gobs x.val ≠ level → t.die.gobs ≠ s.laneBit → t.die.shen = false)
          ∧ (atCtrl = true → clocked s = true → level = true → maskHas s.obs x.val = false → s.lstate = lsVoting →
              s.fldB F.HAL_STAT_CLAIM = true → s.fldB F.HAL_STAT_CONT = true → x < s.lane → t.fldB F.HAL_STAT_CLAIM = false
                ∧ t.fldB F.HAL_STAT_REQ = false)
          ∧ (atCtrl = true → clocked s = true → level = true → s.lstate = lsVoting → s.fldB F.HAL_STAT_CLAIM = true → x ≠ s.lane →
              s.obs = s.laneBit → s.fldB F.HAL_STAT_CONT = false → flagSet t 17 = true ∧ srcPending t 32 = true
                ∧ t.fld F.HAL_CCNT_CNT = satInc (s.fld F.HAL_CCNT_CNT) 1 16 ∧ t.fldB F.HAL_STAT_CLAIM = decide (s.lane < x)
                ∧ t.fldB F.HAL_STAT_CONT = decide (s.lane < x))
          ∧ kept [R.HAL_CCNT, R.HAL_HOCNT] [17] (32 :: 33 :: 34 :: hoistSrcs) t)
    ∧ (clocked s = true → s.obs = 0 → s.hal.quietAt.toNat + 20000 ≤ now → Runs (exec .quietTimeElapsed s) (fun t => t.fldB F.HAL_STAT_QUIET = true
        ∧ (t.fldB F.HAL_STAT_CLAIM = (s.fldB F.HAL_STAT_CLAIM
          || (s.fldB F.HAL_STAT_REQ && !s.pwr.noClaim && decide (s.lstate = lsVoting))))
        ∧ kept [R.HAL_HOCNT] [] [33, 34, 38] t))
    ∧ (s.obs ≠ 0 ∨ now < s.hal.quietAt.toNat + 20000 → Runs (exec .quietTimeElapsed s) (fun t => t = s))
    ∧ (s.die.gobs = s.laneBit → since s.die.armAt s.die.dtime.toNat 1000 →
        Runs (exec .sharedGateArm s) (fun t => t.die.shen = true ∧ Only [] [] [] s t))
    ∧ (s.die.gobs ≠ s.laneBit ∨ ¬since s.die.armAt s.die.dtime.toNat 1000 →
        Runs (exec .sharedGateArm s) (fun t => t = s))
    ∧ (¬since s.hal.diffAt now 1000 → Runs (exec .halyardStuck s) (fun t => t = s))
    ∧ (clocked s = true → since s.hal.diffAt now 1000 → Runs (exec .halyardStuck s) (fun t => flagSet t 18 = true
        ∧ Only [] [18] hoistSrcs s t))
    ∧ (Accepts s rq R.HAL_CMD → s.fldB F.HAL_CTRL_AUTO = false →
      (s.lstate = lsVoting → Runs (exec (.claim rq) s) (fun t => t.fldB F.HAL_STAT_REQ = true
        ∧ (t.fldB F.HAL_STAT_CLAIM = (s.fldB F.HAL_STAT_CLAIM || (s.fldB F.HAL_STAT_QUIET && !s.pwr.noClaim)))
        ∧ kept [R.HAL_HOCNT] [] [33, 34, 38] t))
      ∧ (s.lstate ≠ lsVoting → Runs (exec (.claim rq) s) (fun t => t = s))
      ∧ Runs (exec (.release rq) s) (fun t => t.fldB F.HAL_STAT_REQ = false ∧ t.fldB F.HAL_STAT_CLAIM = false
          ∧ t.fldB F.HAL_STAT_ENSIGN = false ∧ t.fldB F.HAL_STAT_CONT = false
          ∧ kept [] [] [34, 38] t))
    ∧ (Accepts s rq R.HAL_CMD → s.fldB F.HAL_CTRL_AUTO = true →
        Runs (exec (.claim rq) s) (fun t => t = s) ∧ Runs (exec (.release rq) s) (fun t => t = s))

/-- R167, R168, R171, R187, R188, R191: SAFE by software, the limp timer's events, the end of the release time, and
the fault log. -/
def Obligations.SafeLimpAndFaultLog : Prop :=
  ∀ (s : State) (rq : Req) (n : Fin 2) (v : Word) (e : LogEntry) (r : List LogEntry),
    let base := s.fld F.FLT_LOGBASE_BASE
    let seq := s.reg R.FLT_LOGHEAD
    let place := base + 4 + 4 * (seq.toNat % 2 ^ s.fld F.FLT_LOGCFG_SIZE)
    let legal := logRangeOk base (getBits v 1 4) = true
    let cause := fun (c : Nat) (t : State) =>
      (s.isMember = true → s.hal.safe = false → s.hal.safeDue = 0 → t.hal.safeDue = c)
        ∧ (s.hal.safeDue ≠ 0 → t.hal.safeDue = s.hal.safeDue)
    (Accepts s rq R.HAL_CMD → Runs (exec (.safe rq) s) (fun t => cause 4 t ∧ Only [] [] [] s t))
    ∧ (s.hal.inHalfMast = true → s.hal.limpWarned = false → s.fld F.HAL_HMCFG_LIMPT * 1000 ≤ s.fld F.HAL_LIMP_MS + 10000 →
        Runs (exec .limpWarning s) (fun t => srcPending t 39 = true
        ∧ t.hal.limpWarned = true ∧ Only [] [] [39] s t))
    ∧ (s.hal.inHalfMast = true → s.fld F.HAL_HMCFG_LIMPT * 1000 ≤ s.fld F.HAL_LIMP_MS →
        Runs (exec .limpExpiry s) (fun t => flagSet t 20 = true ∧ cause 2 t ∧ Only [] [20] hoistSrcs s t))
    ∧ (s.hal.inHalfMast = false → Runs (exec .limpWarning s) (fun t => t = s) ∧ Runs (exec .limpExpiry s) (fun t => t = s))
    ∧ (s.hal.safe = true → s.hal.relt[n] = true →
      s.hal.safeAt.toNat + 1000000 * s.fld F.HAL_SAFECFG_RELT ≤ s.dlk.dtime.toNat → Runs (exec (.releaseTimeExpiry n) s) (fun t =>
        t.fldB (F.PWM_TRIP_SAFET n.val) = true ∧ t.fldB (F.PWM_TRIP_SAFESH n.val) = false ∧ t.hal.relt[n] = false
          ∧ Only [R.PWM_TRIP n.val] [] [] s t))
    ∧ (s.dlk.dtime.toNat < s.hal.safeAt.toNat + 1000000 * s.fld F.HAL_SAFECFG_RELT →
        Runs (exec (.releaseTimeExpiry n) s) (fun t => t = s))
    ∧ (logRangeOk base (s.fld F.FLT_LOGCFG_SIZE) = false → Runs (exec .faultLogWrite s) (fun t => t = s))
    ∧ (s.logQ = e :: r → logRangeOk base (s.fld F.FLT_LOGCFG_SIZE) = true → Runs (exec .faultLogWrite s) (fun t =>
        t.words place 4 = [seq, e.w1, e.w2, e.w3] ∧ t.word base = seq + 1 ∧ t.reg R.FLT_LOGHEAD = seq + 1 ∧ t.logQ = r
          ∧ (∀ a, a ≠ base → ¬(place ≤ a ∧ a < place + 4) → t.word a = s.word a) ∧ t.cores = s.cores
          ∧ RegsKeptBut [R.FLT_LOGHEAD] s t))
    ∧ (s.logQ = [] → Runs (exec .faultLogWrite s) (fun t => t = s))
    ∧ (Accepts s rq R.FLT_LOGCFG → s.rwlLocked = false → Runs (exec (.faultLogEnable rq v) s) (fun t =>
        (legal → t.fld F.FLT_LOGCFG_SIZE = getBits v 1 4 ∧ t.fldB F.FLT_LOGCFG_EN = true)
          ∧ (¬legal → t = s)
          ∧ (legal → s.fldB F.FLT_LOGCFG_EN = false → t.reg R.FLT_LOGHEAD = s.word base)
          ∧ Only [R.FLT_LOGCFG, R.FLT_LOGHEAD] [] [] s t))
    ∧ (Accepts s rq R.FLT_LOGCFG → s.rwlLocked = false → bit v 0 = false →
        Runs (exec (.registerWrite rq (BitVec.ofNat 24 R.FLT_LOGCFG) v) s) (fun t =>
          t.fldB F.FLT_LOGCFG_EN = false ∧ t.fld F.FLT_LOGCFG_SIZE =
              (if 8 ≤ getBits v 1 4 ∧ getBits v 1 4 ≤ 12 then getBits v 1 4 else s.fld F.FLT_LOGCFG_SIZE)
          ∧ Only [R.FLT_LOGCFG] [] [] s t))
    ∧ (Accepts s rq R.FLT_LOGCFG → s.rwlLocked = true → Runs (exec (.faultLogEnable rq v) s) (fun t => t = s))

/-- R196 to R207, R217: a comparator mismatch and a comparator fault, the verdict of the core self-test, RESTART1,
RETIRE1, and the mismatch of the duplicated input-agreement block. -/
def Obligations.LockStepPairs : Prop :=
  ∀ (s : State) (rq : Req) (p : Fin 2) (g : BitVec 64) (pc : Addr) (leadOk shadowOk : Bool),
    let others := fun (t : State) => ∀ k : Fin 4, pairOfCore k ≠ p → t.cores[k] = s.cores[k]
    let code := if leadOk then (if shadowOk then (if s.fld (tcntFld p) = 0 then 1 else 5) else 3)
      else if shadowOk then 2 else 4
    let runsAt := fun (q : Fin 2) (entry : Nat) (t : State) => t.pst q = psJoined ∧ t.cores[leadOf q] = coreAt entry
      ∧ t.cores[shadowOf q] = coreAt entry
    let struck := fun (c : Nat) (t : State) => (strikable s = true ∨ s.lstate = lsDebug →
      t.lstate = lsStruck ∧ t.fld F.HAL_RSTAT_STRKCAUSE = c ∧ flagSet t 22 = true)
    (clocked s = true → s.pst p = psJoined → g ≠ 0 → s.fldB F.DBG_STAT_ATTACHED = false →
      Runs (exec (.comparatorMismatch p g pc) s) (fun t => flagSet t 0 = true ∧ srcPending t (16 + p.val) = true
        ∧ t.cores[leadOf p].run = .halted ∧ t.cores[shadowOf p].run = .halted ∧ others t
        ∧ t.fld (mmcntFld p) = satInc (s.fld (mmcntFld p)) 1 16 ∧ t.fldB (F.LSC_MM_VALID p.val) = true
        ∧ t.fld (F.LSC_MM_PC p.val) = pc.toNat
        ∧ g.getLsbD (t.fld (F.LSC_MM_GROUP p.val)) = true
        ∧ (s.lsc.testQ = [] → t.pst p = psTesting ∧ t.lsc.testQ = [p])
        ∧ (s.safetyPair = p.val → t.fldB F.LSC_STAT_JINH = true ∧ t.xla.leave = true
            ∧ (s.lstate = lsVoting → t.lstate = lsWithdrawn))
        ∧ (s.safetyPair ≠ p.val → t.lstate = s.lstate)
        ∧ (s.safetyPair ≠ p.val ∨ s.lstate = lsVoting → t.mem = s.mem)))
    ∧ (clocked s = true → Runs (exec (.comparatorFault p g pc) s) (fun t => flagSet t 1 = true ∧ struck 3 t
        ∧ t.cores = s.cores ∧ (g ≠ 0 → flagSet t 0 = true ∧ t.fldB (F.LSC_MM_VALID p.val) = true)))
    ∧ (clocked s = true → s.lsc.testQ.head? = some p →
      Runs (exec (.selfTestVerdict p leadOk shadowOk) s) (fun t => t.fld (verdFld p) = code
        ∧ srcPending t (18 + p.val) = true ∧ p ∉ t.lsc.testQ
        ∧ (code = 1 → s.safetyPair = p.val → p = 0 → pairRetired s 1 = true → t.pst 0 = psHalted ∧ t.cores = s.cores)
        ∧ (code = 1 → s.safetyPair = p.val → p = 1 ∨ pairRetired s 1 = false → s.fldB F.DBG_STAT_ATTACHED = false →
            runsAt p (s.fld (F.LSC_RENTRY_ADDR 0)) t ∧ t.fld (tcntFld p) = 1)
        ∧ (code ≠ 1 → t.pst p = psRetired ∨ t.pst p = psSingle)
        ∧ (code = 2 ∨ code = 4 → t.health (leadOf p) = hcFailed) ∧ (code = 3 ∨ code = 4 → t.health (shadowOf p) = hcFailed)
        ∧ (code = 5 → flagSet t 5 = true)))
    ∧ (Accepts s rq R.LSC_CMD → s.safetyPair ≠ 1 → s.lsc.takeover = false →
      (s.pst 1 = psHalted → s.fldB F.DBG_STAT_ATTACHED = false →
        Runs (exec (.restart1 rq) s) (fun t => runsAt 1 (s.fld (F.LSC_RENTRY_ADDR 1)) t ∧ t.mem = s.mem
          ∧ t.cores[(0 : Fin 4)] = s.cores[(0 : Fin 4)] ∧ t.cores[(1 : Fin 4)] = s.cores[(1 : Fin 4)]))
      ∧ (s.pst 1 ≠ psHalted → Runs (exec (.restart1 rq) s) (fun t => t = s))
      ∧ (s.pst 1 ≠ psRetired → Runs (exec (.retire1 rq) s) (fun t => t.pst 1 = psRetired ∧ srcPending t 21 = true
          ∧ t.cores[(2 : Fin 4)].run = .parked ∧ t.cores[(3 : Fin 4)].run = .parked ∧ t.mem = s.mem
          ∧ t.health 2 = hcParked ∧ t.health 3 = hcParked)))
    ∧ (Accepts s rq R.LSC_CMD → s.safetyPair = 1 → Runs (exec (.restart1 rq) s) (fun t => t = s)
        ∧ Runs (exec (.retire1 rq) s) (fun t => t = s))
    ∧ (clocked s = true → Runs (exec .xlaDuplicateMismatch s) (fun t => flagSet t 13 = true ∧ struck 4 t
        ∧ (s.lstate = lsVoting → flagSet t 9 = true ∧ srcPending t 27 = true) ∧ t.cores = s.cores))

/-- R208, R214 to R216, R539, R559: the instructions of the debug TAP, the attach, the debug access register and
DCTRL. -/
def Obligations.DebugPort : Prop :=
  ∀ (s : State) (code : BitVec 5) (n : BitVec 6) (v : Word) (j : Fin 4),
    let k := s.tap.core
    let c := s.cores[k]
    let loads := fun (ir : BitVec 5) (t : State) => t.tap = { s.tap with ir := ir } ∧ Only [] [] [] s t
    let live := clocked s = true ∧ portOpen s = true
    let access := live ∧ s.tap.ir = tapAttach
    let ready := attached s = true ∧ issuesAlone s k = true ∧ c.run = .running ∧ s.pwr.pstate = .run
    let halts := fun (cause : Nat) (pc : Word) (t : State) => t.cores[k].dhalt = true ∧ getBits (t.cores[k].getC 49) 0 3 = cause
      ∧ t.cores[k].getC 58 = pc ∧ t.cores[k].pc = pc ∧ t.cores[k].g = c.g ∧ t.mem = s.mem
      ∧ ∀ i, i ≠ k → t.cores[i] = s.cores[i]
    (portOpen s = true →
      Runs (exec .extest s) (loads 0) ∧ Runs (exec .samplePreload s) (loads 1) ∧ Runs (exec .idcode s) (loads 2)
      ∧ (code ∉ [0, 1, 2, 16] → Runs (exec (.bypass code) s) (loads code)))
    ∧ (portOpen s = false → Runs (exec .extest s) (fun t => t = s) ∧ Runs (exec (.attach none none) s) (fun t => t = s)
        ∧ (clocked s = true → Runs (exec .tapActivity s) (fun t => srcPending t 255 = true ∧ Only [] [] [255] s t)))
    ∧ Runs (exec .tapReset s) (fun t => t.tap.ir = 2 ∧ t.tap.core = s.tap.core ∧ Only [] [] [] s t)
    ∧ (live → s.lstate ≠ lsOffline → attached s = false → Runs (exec (.attach none none) s) (fun t =>
        attached t = true ∧ flagSet t 3 = true ∧ t.tap.ir = tapAttach ∧ t.mem = s.mem
          ∧ t.lstate = (if s.lstate = lsStruck then lsStruck else lsDebug)
          ∧ (∀ p : Fin 2, (s.pst p = psJoined → t.pst p = psDebug) ∧ t.cores[leadOf p] = s.cores[leadOf p]
            ∧ (s.health (shadowOf p) ≠ hcSingle → s.cores[shadowOf p].run = .running →
                t.cores[shadowOf p].run = .stopped))))
    ∧ (live → attached s = true → Runs (exec (.attach none none) s) (loads tapAttach))
    ∧ (∀ (p : Fin 2) (g : BitVec 64) (pc : Addr), live → s.lstate ≠ lsOffline → attached s = false → s.pst p = psJoined → g ≠ 0 →
        Runs (exec (if p = 0 then .attach (some (g, pc)) none else .attach none (some (g, pc))) s) (fun t =>
          attached t = true ∧ t.pst p = psHalted ∧ flagSet t 0 = true ∧ t.fldB (F.LSC_MM_VALID p.val) = true
            ∧ t.lsc.testQ = s.lsc.testQ ∧ t.cores[leadOf p].run = .halted ∧ t.cores[shadowOf p].run = .halted))
    ∧ (access →
      (48 ≤ n.toNat → Runs (exec (.debugRead n) s) (fun t => t.tap.status = dbgDone ∧ Only [] [] [] s t
        ∧ t.tap.result = if n = 48 ∨ 60 ≤ n.toNat then 0 else c.getC (Fin.ofNat 64 n.toNat)))
      ∧ (n.toNat < 48 → Runs (exec (.debugRead n) s) (fun t => t.tap.status = dbgRefused ∧ Only [] [] [] s t)
        ∧ Runs (exec (.debugWrite n v) s) (fun t => t.tap.status = dbgRefused ∧ Only [] [] [] s t))
      ∧ (attached s = true → 50 ≤ n.toNat → n.toNat ≤ 57 → Runs (exec (.debugWrite n v) s) (fun t => t.tap.status = dbgDone
          ∧ t.cores = s.cores.set k.val (c.setC (Fin.ofNat 64 n.toNat) (v &&& ctlMask n.toNat))
          ∧ t.mem = s.mem ∧ RegsKeptBut [] s t))
      ∧ (n = 49 ∨ 58 ≤ n.toNat → Runs (exec (.debugWrite n v) s) (fun t => t.tap.status = dbgDone ∧ Only [] [] [] s t))
      ∧ Runs (exec (.debugSelectCore j) s) (fun t => t.tap.core = j ∧ t.tap.status = dbgDone ∧ Only [] [] [] s t)
      ∧ (ready → c.dhalt = false → Runs (exec .halt s) (halts 1 (if c.wait = .wfi then c.pc - 1 else c.pc)))
      ∧ (ready → c.dhalt = true → Runs (exec .resume s) (fun t => t.cores[k].dhalt = false ∧ t.cores[k].pc = c.pc
          ∧ t.cores[k].g = c.g ∧ t.mem = s.mem ∧ RegsKeptBut [R.DBG_STAT] s t))
      ∧ (ready → c.dhalt = true → c.wait = .none → c.afterIret = false → SramGood s c.pc.toNat → SramGood s (c.pc.toNat + 1) →
          Moagar.decode (s.word c.pc.toNat) = .nop → issuesInPairs (Moagar.decode (s.word (c.pc.toNat + 1))) = false →
          Runs (exec .step s) (halts 2 (c.pc + 1))))

/-! Input agreement, vote, formation and frames -/

/-- R122, R126, R127, R133, R135, R137, R138: the rounds of the input exchange, its messages, selection with the
agreed vector, and the release of the frame wait. -/
def Obligations.InputExchange : Prop :=
  ∀ (s : State) (link : Fin 3) (symOk : Bool) (m : XMsg) (vs : List Word) (e : XErr) (r : Release) (wlost : Nat),
    let ck := clocked s = true
    let on := ck ∧ xlaRuns s = true
    let types := if 2 ≤ s.phase ∧ s.phase ≤ 5 then [mtInput] else []
    let ag := s.fld F.XLA_AGBASE_AGBASE
    let agreed := fun (t : State) => ((∀ i, i < 128 → SramOpen s 2 (ag + i)) → xNin s ≤ 24 →
        t.word ag = s.frame ∧ (∀ i, i < xNin s → t.word (ag + 4 + i) = (selectVar s i).value))
      ∧ t.fld F.XLA_MEMB_PRES = presMask s ∧ t.xla.relWait = some ⟨s.frame, decide (presMask s ≠ 0)⟩
      ∧ t.xla.selected = true ∧ (xNin s ≤ 24 → MemKeptBut ag 100 s t)
    (ck → stepDue 1 tI1 s = true → s.xla.attempt = false →
      (contributes s = true → s.xla.ownSet = some vs → vs.length < 64 → Runs (exec .inputRound1 s) (fun t =>
        ∃ x : XMsg, t.xla.sent = (farLanes s).map (fun y => (y, x)) ∧ xmType x = mtInput ∧ xmFrame x = s.frame
          ∧ xmLane x = s.lane.val ∧ xmMemb x = s.fld F.XLA_MEMB_CUR ∧ xmPayload x = vs ∧ macOk s x = true
          ∧ t.xla.viewI[s.lane] = [x] ∧ t.phase = 3 ∧ Only [R.XLA_STAT] [] [] s t))
      ∧ (s.xla.ownSet = none → Runs (exec .inputRound1 s) (fun t => t.xla.sent = []
          ∧ flagSet t 6 = true ∧ t.phase = 3 ∧ Only [R.XLA_STAT] [6] hoistSrcs s t))
      ∧ (contributes s = false → s.xla.ownSet = some vs → Runs (exec .inputRound1 s) (fun t => t.xla.sent = [] ∧ t.phase = 3
          ∧ Only [R.XLA_STAT] [] [] s t)))
    ∧ (ck → stepDue 1 tI1 s = false → Runs (exec .inputRound1 s) (fun t => t = s))
    ∧ (ck → stepDue 2 (tI2 s) s = true → Runs (exec .inputRound2 s) (fun t =>
        t.phase = (if s.xla.selected then s.phase else 4) ∧ Only [R.XLA_STAT] [] [] s t
        ∧ t.xla.sent = (farLanes s).map fun y => (y, (s.xla.peer[thirdLane s y].admI).getD [])))
    ∧ (on → link ≠ s.lane →
      (checkRound s link false symOk types tI1 m = none → Runs (exec (.inputMessage link false symOk m) s) (fun t =>
        t.xla.viewI[link] = viewAdd s.xla.viewI[link] m ∧ t.xla.peer[link].in1 = true
          ∧ t.reg (R.XLA_TOFF link.val) = xmTx m + BitVec.ofNat 36 (ldly s link) - s.lt36
          ∧ t.xla.peer[link].memb = some (xmMemb m)))
      ∧ (checkRound s link false symOk types tI1 m = some e → Runs (exec (.inputMessage link false symOk m) s) (fun t =>
        t.fld (xErrFld e link) = satInc (s.fld (xErrFld e link)) 1 (xErrFld e link).w ∧ srcPending t 28 = true
          ∧ t.xla = s.xla ∧ (e = .setv → flagSet t 8 = true)
          ∧ Only [(xErrFld e link).addr] [8] (28 :: hoistSrcs) s t))
      ∧ (symOk = false → checkRound s link false symOk types tI1 m = some .corr)
      ∧ Runs (exec (.inputMessage link true true []) s) (fun t => t.xla.peer[link].in2 = true
          ∧ t.xla.viewI = s.xla.viewI ∧ Only [] [] [] s t))
    ∧ (on → s.xla.selected = false →
      (allIn s = true → 1 ≤ s.xla.xstep → s.xla.xstep < 3 → Runs (exec .inputSelection s) (fun t => agreed t ∧ t.phase = 5))
      ∧ (allIn s = false → Runs (exec .inputSelection s) (fun t => t = s))
      ∧ (stepDue 3 (cI s) s = true → Runs (exec .inputClose s) (fun t => agreed t ∧ t.phase = 6)))
    ∧ (ck → stepDue 3 (cI s) s = false → Runs (exec .inputClose s) (fun t => t = s))
    ∧ (ck → stepDue 3 (cI s) s = true → s.xla.selected = true → Runs (exec .inputClose s) (fun t => t.phase = 6 ∧ Only [R.XLA_STAT] [] [] s t))
    ∧ (ck → s.xla.relWait = some r →
      (joinFrame s = false ∨ finalIn s = true ∧ s.xla.attempt = true ∧ s.xla.copies = [] →
        Runs (exec (.frameWaitRelease wlost) s) (fun t =>
          t.lsc.release = some r ∧ t.xla.relWait = none ∧ srcPending t 25 = true
            ∧ t.fld F.XLA_TREL_REL = (s.ltime.toNat - s.frameStart.toNat) % 2 ^ F.XLA_TREL_REL.w
            ∧ (joinFrame s = true → t.xla.finalFrame = none ∧ t.xla.attempt = false ∧ t.fld F.XLA_RSTAT_RPHASE = 5)
            ∧ Only [R.XLA_WLCNT, R.XLA_TREL, R.XLA_RSTAT] [] [25, 30] s t))
      ∧ (joinFrame s = true → finalIn s = false → Runs (exec (.frameWaitRelease wlost) s) (fun t => t = s)))

/-- R135, R136: the selection rules on three, two, one and no contributing values. R142: the outcome of the vote from
the OUTPUT messages of the members. -/
def Obligations.SelectionAndVote : Prop :=
  (∀ (par prev a b c : Word) (x y z : Fin 3),
    let mid := fun (p q r : Int) => max (min p q) (min (max p q) r)
    let far := fun (p m : Int) => decide (par ≠ 0) && decide ((par.toNat : Int) < (p - m).natAbs)
    let sel := fun (rule : Nat) (l : List (Fin 3 × Word)) => selectBy rule par prev l
    let l3 := [(x, a), (y, b), (z, c)]
    let l2 := [(x, a), (y, b)]
    ((sel 0 l3).value.toInt = mid a.toInt b.toInt c.toInt ∧ (sel 1 l3).value.toNat = mid a.toNat b.toNat c.toNat)
    ∧ (sel 0 l3).dev = (let m := mid a.toInt b.toInt c.toInt; far a.toInt m || far b.toInt m || far c.toInt m)
    ∧ ((sel 0 l2).value.toInt = (a.toInt + b.toInt + 1) / 2 ∧ (sel 1 l2).value.toNat = (a.toNat + b.toNat + 1) / 2)
    ∧ (sel 0 l2).dev = far a.toInt b.toInt
    ∧ (sel 2 l3).value = (a &&& b) ||| (a &&& c) ||| (b &&& c) ∧ (sel 2 l2).value = a &&& b ∧ (sel 2 []).value = 0
    ∧ (sel 3 l3).value = (a &&& b) ||| (a &&& c) ||| (b &&& c) ∧ (sel 3 l2).value = a ||| b
    ∧ (sel 3 []).value = BitVec.allOnes 36
    ∧ (sel 4 l3).value = a &&& b &&& c ∧ (sel 4 l2).value = a &&& b ∧ (sel 4 []).value = 0
    ∧ (a = b ∨ a = c → (sel 5 l3).value = a ∧ (sel 5 l3).dev = false)
    ∧ (a ≠ b → b = c → (sel 5 l3).value = b)
    ∧ (a ≠ b → a ≠ c → b ≠ c → (sel 5 l3).value = par ∧ (sel 5 l3).dev = true)
    ∧ (sel 5 l2).value = (if a = b then a else par) ∧ (sel 5 []).value = par
    ∧ (∀ rule, rule ≤ 5 → (sel rule [(x, a)]).value = a ∧ (sel rule [(x, a)]).hold = false ∧ (sel rule []).hold = true
        ∧ (sel rule l2).hold = false ∧ (sel rule l3).hold = false)
    ∧ (sel 0 []).value = prev ∧ (sel 1 []).value = prev)
  ∧ (∀ (s : State) (a b c : XMsg),
    let o := outputOf s
    let pa := xmPayload a
    let pb := xmPayload b
    let pc := xmPayload c
    let v := voteOutcome s
    (o 0 = some a → o 1 = some b → o 2 = some c →
      (pa = pb → pb = pc → v = ⟨0, some pa, 0⟩) ∧ (pa = pb → pb ≠ pc → v = ⟨1, some pa, 4⟩)
      ∧ (pa = pc → pa ≠ pb → v = ⟨1, some pa, 2⟩) ∧ (pb = pc → pa ≠ pb → v = ⟨1, some pb, 1⟩)
      ∧ (pa ≠ pb → pb ≠ pc → pa ≠ pc → v = ⟨3, none, 0⟩))
    ∧ (∀ x y z : Fin 3, x < y → z ≠ x → z ≠ y → o x = some a → o y = some b → o z = none →
      (pa = pb → v.set = some pa ∧ v.diff = 0 ∧ v.outcome = if equivV s 0 || equivV s 1 || equivV s 2 then 1 else 0)
      ∧ (pa ≠ pb → v = ⟨3, none, 0⟩))
    ∧ (∀ x : Fin 3, o x = some a → (∀ y, y ≠ x → o y = none) → v = ⟨2, some pa, 0⟩)
    ∧ ((∀ x, o x = none) → v = ⟨4, none, 0⟩))

/-- R140 to R147, R173: the rounds of the vote, its messages, the vote with its committed buffer, and the end of the
isolation test. -/
def Obligations.VoteExchange : Prop :=
  ∀ (s : State) (link : Fin 3) (symOk : Bool) (m : XMsg) (set : List Word) (e : XErr),
    let ck := clocked s = true
    let on := ck ∧ xlaRuns s = true
    let types := if 6 ≤ s.phase ∧ s.phase ≤ 8 then [mtOutput, mtState] else []
    let buf := bufAddr s (1 - s.fld F.XLA_COMMIT_BUF)
    let sends := fun (ty : Nat) (p : List Word) (t : State) => ∃ x : XMsg, t.xla.sent = (farLanes s).map (fun y => (y, x))
      ∧ xmType x = ty ∧ xmFrame x = s.frame ∧ xmLane x = s.lane.val ∧ xmPayload x = p ∧ macOk s x = true
      ∧ t.xla.viewV[s.lane] = [x] ∧ t.phase = 7 ∧ t.mem = s.mem ∧ t.cores = s.cores ∧ (ty = mtState → xmJreq x = requestsResync s)
    let takes := fun (i : Instr) => Runs (exec i s) (fun t => t.xla.viewV[link] = viewAdd s.xla.viewV[link] m
      ∧ t.xla.peer[link].vt1 = true ∧ t.reg (R.XLA_TOFF link.val) = xmTx m + BitVec.ofNat 36 (ldly s link) - s.lt36)
    let counts := fun (i : Instr) => Runs (exec i s) (fun t =>
      t.fld (xErrFld e link) = satInc (s.fld (xErrFld e link)) 1 (xErrFld e link).w ∧ srcPending t 28 = true ∧ t.xla = s.xla
        ∧ Only [(xErrFld e link).addr] [8] (28 :: hoistSrcs) s t)
    let votes := fun (v : VoteResult) (t : State) => t.fld F.XLA_VOTE_OUTCOME = v.outcome ∧ t.xla.voted = true
      ∧ t.xla.commitDue = some (v.set.isNone, decide (v.outcome = 2)) ∧ srcPending t 26 = true ∧ t.phase = 9
      ∧ ((∀ i, i < (v.set.getD (committedSet s)).length → SramOpen s 2 (buf + i)) →
          ∀ i (h : i < (v.set.getD (committedSet s)).length), t.word (buf + i) = (v.set.getD (committedSet s))[i])
    (ck → stepDue 5 (tV1 s) s = true → s.xla.attempt = false → s.xla.finalFrame = none →
      (contributes s = true → s.xla.accepted = some set → set.length < 64 → Runs (exec .voteRound1 s) (sends mtOutput set))
      ∧ (contributes s = false ∨ s.xla.accepted = none → Runs (exec .voteRound1 s) (sends mtState [])))
    ∧ (ck → stepDue 5 (tV1 s) s = false → Runs (exec .voteRound1 s) (fun t => t = s))
    ∧ (ck → stepDue 6 (tV2 s) s = true → Runs (exec .voteRound2 s) (fun t => t.phase = 8 ∧ Only [R.XLA_STAT] [] [] s t
        ∧ t.xla.sent = (farLanes s).map fun y => (y, (s.xla.peer[thirdLane s y].admV).getD [])))
    ∧ (on → link ≠ s.lane →
      (checkRound s link false symOk types (tV1 s) m = none → takes (.outputMessage link false symOk m)
        ∧ takes (.stateMessage link false symOk m))
      ∧ (checkRound s link false symOk types (tV1 s) m = some e → counts (.outputMessage link false symOk m)
        ∧ counts (.stateMessage link false symOk m)))
    ∧ (ck → stepDue 7 (cV s) s = true → frameReached s (xT s - 500) = false →
        (s.xla.voted = false → Runs (exec .voteClose s) (votes (voteOutcome s)))
        ∧ (s.xla.voted = true → Runs (exec .voteClose s) (fun t => t.phase = 9 ∧ Only [R.XLA_STAT] [] [] s t)))
    ∧ (ck → (stepDue 7 (cV s) s = false ∨ frameReached s (xT s - 500) = true) → Runs (exec .voteClose s) (fun t => t = s))
    ∧ (ck → stepDue 7 (xT s - 500) s = true → s.xla.voted = false → Runs (exec .voteIncomplete s) (votes ⟨4, none, 0⟩))
    ∧ (ck → (stepDue 7 (xT s - 500) s = false ∨ s.xla.voted = true) → Runs (exec .voteIncomplete s) (fun t => t = s))
    ∧ (ck → (s.hal.isoLeft ≠ some 0 ∨ frameReached s (xT s) = false ∨ s.lstate ≠ lsWithdrawn) →
        Runs (exec .isolationTestEnd s) (fun t => t = s))
    ∧ (ck → s.hal.isoLeft = some 0 → frameReached s (xT s) = true → s.lstate = lsWithdrawn → Runs (exec .isolationTestEnd s) (fun t =>
        t.hal.isoLeft = none ∧ (s.hal.isoClaimSeen = true → t.xla.resync = true ∧ Only [] [] [] s t)
          ∧ (s.hal.isoClaimSeen = false → t.xla.voteNext = true ∧ t.fld F.XLA_MEMB_NEXT = s.laneBit
            ∧ Only [R.XLA_MEMB] [] [29] s t)))

/-- R149 to R156: JOIN, the delay of a link, the founder's proposal and its deadlines, MIRROR and the windows, and a
final block that does not come. -/
def Obligations.JoinAndMirror : Prop :=
  ∀ (s : State) (link : Fin 3) (symOk : Bool) (m : XMsg) (e : XErr) (f : Word),
    let ck := clocked s = true
    let formed := s.fldB F.XLA_STAT_FORMED
    let propose := BitVec.ofNat 72 ((s.ltime.toNat + 999) / 1000 * 1000 + 40 * xT s)
    let head := checkHead s link false symOk [mtJoin] m
    let p := xmPayload m
    let heard := fun (t : State) => t.xla.peer[link].lastJoin = some (xmTx m, s.lt36) ∧ t.xla.peer[link].answerDue = true
      ∧ t.xla.peer[link].ready = bit (p.getD 2 0) 0
    let acc := maskOf fun x => decide (x ≠ s.lane) && isPeer s x && s.xla.peer[x].accept
    let place := s.fld F.XLA_MBASE_MBASE + 32 * mirBlock m
    let mirrors := fun (stop : Int) (x : Fin 3) => (s.xla.capture.take (mirrorFit (roomTo stop s))).zipIdx.map fun q =>
      (x, mirrorMsg s (s.lt36 + BitVec.ofNat 36 (4550 * q.2)) (s.xla.mseq + q.2) q.1)
    (ck → s.fldB F.XLA_CTRL_EN = true → formed = false → s.lstate = lsSyncing ∨ s.lstate = lsWithdrawn →
      s.xla.announced.getD 0 < 8 → joinSendDue s = true → Runs (exec .joinSend s) (fun t => (∀ x, x ≠ s.lane → ∃ j, (x, j) ∈ t.xla.sent ∧ xmType j = mtJoin ∧ xmFrame j = 0
        ∧ xmLane j = s.lane.val ∧ (xmPayload j).take 2 = [(s.xla.peer[x].lastJoin.getD (0, 0)).1, (s.xla.peer[x].lastJoin.getD (0, 0)).2])
        ∧ Only [] [] [] s t))
    ∧ (ck → xlaReady s = true → link ≠ s.lane →
      (head = some e → Runs (exec (.joinMessage link symOk m) s) (fun t =>
        t.fld (xErrFld e link) = satInc (s.fld (xErrFld e link)) 1 (xErrFld e link).w ∧ srcPending t 28 = true
          ∧ t.xla = s.xla ∧ Only [(xErrFld e link).addr] [8] (28 :: hoistSrcs) s t))
      ∧ (head = none → formed = true → Runs (exec (.joinMessage link symOk m) s) (fun t => heard t
          ∧ (joinFormed m = false → Only [R.XLA_LDLY] [] [] s t) ∧ (joinFormed m = true → t.xla.peer[link].memb = some (xmMemb m))
          ∧ (p.getD 0 0 ≠ 0 → s.xla.peer[link].samples.length < 7 → t.xla.peer[link].samples =
              ((s.lt36 - p.getD 0 0) - (xmTx m - p.getD 1 0)) >>> 1 :: s.xla.peer[link].samples)))
      ∧ (head = none → formed = false → s.lane = 0 → xmMemb m = 0 → s.xla.founding = false → s.xla.solo = false →
          s.xla.peer[link].delayOk = true → bit (p.getD 2 0) 0 = true → getBits (p.getD 2 0) 18 18 = xT s →
          Runs (exec (.joinMessage link symOk m) s) (fun t => heard t ∧ t.xla.founding = true ∧ t.xla.epoch = some propose
            ∧ t.ltime = s.ltime)))
    ∧ (ck → s.xla.founding = true → formed = false → xlaReady s = true → s.xla.announced = none → acceptTime s = true → Runs (exec .acceptDeadline s) (fun t =>
        (acc ≠ 0 → t.xla.announced = some (acc + s.laneBit) ∧ t.xla.epoch = s.xla.epoch)
          ∧ (acc = 0 → t.xla.epoch = some propose ∧ t.xla.announced = s.xla.announced) ∧ Only [] [] [] s t))
    ∧ (ck → s.fldB F.XLA_CTRL_SOLO = true → s.fldB F.XLA_CTRL_EN = true → s.lstate = lsSyncing → formed = false →
        (∀ x, x ≠ s.lane → isPeer s x = false) → s.xla.solo = false → soloDue s = true → Runs (exec .soloTimeout s) (fun t =>
          t.xla.solo = true ∧ t.xla.epoch = some propose ∧ Only [] [] [] s t))
    ∧ (ck → stepDue 4 (cI s + 50) s = true →
      (s.xla.served = none ∨ contributes s = false → Runs (exec .midWindowStart s) (fun t =>
          t.xla.sent = (joinLanes 0 s).map (fun x => (x, joinMsg s s.lt36 x))
            ∧ (∀ x, t.xla.peer[x].answerDue = (s.xla.peer[x].answerDue && decide (x ∉ joinLanes 0 s))) ∧ Only [] [] [] s t))
      ∧ (∀ x, s.xla.served = some x → contributes s = true → Runs (exec .midWindowStart s) (fun t =>
          (mirrors ((tV1 s : Int) - 100) x).IsPrefix t.xla.sent ∧ Only [] [] [] s t)))
    ∧ (ck → stepDue 8 (cV s + 50) s = true →
      (s.xla.served = none ∨ contributes s = false → Runs (exec .tailWindowStart s) (fun t => t.xla.sent = [] ∧ Only [] [] [] s t))
      ∧ (∀ x, s.xla.served = some x → contributes s = true → Runs (exec .tailWindowStart s) (fun t =>
          t.xla.sent = mirrors ((xT s + tI1 : Nat) - 100) x ∧ t.xla.capture = s.xla.capture.drop t.xla.sent.length
            ∧ t.xla.mseq = s.xla.mseq + t.xla.sent.length ∧ Only [] [] [] s t)))
    ∧ (ck → (stepDue 4 (cI s + 50) s = false → Runs (exec .midWindowStart s) (fun t => t = s))
      ∧ (stepDue 8 (cV s + 50) s = false → Runs (exec .tailWindowStart s) (fun t => t = s)))
    ∧ (ck → xlaRuns s = true → link ≠ s.lane →
      (checkMirror s link symOk m = some e → Runs (exec (.mirrorMessage link symOk m) s) (fun t =>
        t.fld (xErrFld e link) = satInc (s.fld (xErrFld e link)) 1 (xErrFld e link).w ∧ srcPending t 28 = true
          ∧ t.xla = s.xla ∧ Only [(xErrFld e link).addr] [8] (28 :: hoistSrcs) s t))
      ∧ (checkMirror s link symOk m = none → s.lstate = lsSyncing ∨ s.lstate = lsWithdrawn → xmJlane m = s.lane.val →
          inAttempt s (mirAttempt m) = true → s.xla.failedAtt ≠ some (mirAttempt m) → s.xla.copies = [] →
          missedJfin link m s = false → mirBlock m < mblks s → mirFinal m = false → mirrorSources s = 1 → mirSeq m = s.xla.nextMseq →
          (∀ i, i < 32 → SramOpen s 2 (place + i)) →
          Runs (exec (.mirrorMessage link symOk m) s) (fun t => t.words place 32 = p.drop 1 ∧ MemKeptBut place 32 s t
            ∧ t.xla.nextMseq = (s.xla.nextMseq + 1) % 4096 ∧ flagSet t 11 = true ∧ t.cores = s.cores))
      ∧ (checkMirror s link symOk m = none → xmFrame m = s.frame → missedJfin link m s = true → xmJlane m ≠ s.lane.val →
          Runs (exec (.mirrorMessage link symOk m) s) (fun t => flagSet t 12 = true ∧ t.xla.attempt = false ∧ t.mem = s.mem ∧ t.cores = s.cores)))
    ∧ (ck → s.xla.finalFrame = some f → s.frame = f + 1 → frameReached s (tV1 s - 100) = true → Runs (exec .resyncBlockTimeout s) (fun t =>
        flagSet t 12 = true ∧ t.xla.attempt = false ∧ t.xla.finalFrame = none ∧ t.fld F.XLA_RSTAT_RPHASE = 6
          ∧ (s.lstate = lsVoting → t.lstate = lsWithdrawn ∨ t.lstate = lsStruck) ∧ t.cores = s.cores))

/-- R131, R158, R159, R162, R570: EN set with its configuration check and cleared, and the commands of XLA_CMD. -/
def Obligations.XlaCommands : Prop :=
  ∀ (s : State) (rq : Req) (v : Word),
    let key := fun (i : Nat) => (((getBits (s.word (0xFFFF0 + 4 * i)) 0 32 * 2 ^ 32 + getBits (s.word (0xFFFF1 + 4 * i)) 0 32)
      * 2 ^ 32 + getBits (s.word (0xFFFF2 + 4 * i)) 0 32) * 2 ^ 32 + getBits (s.word (0xFFFF3 + 4 * i)) 0 32)
    (Accepts s rq R.XLA_CTRL → s.fldB F.XLA_CTRL_EN = false → s.fldB F.XLA_KEYSTAT_LOADED = true →
      (xlaConfigOk s = true → Runs (exec (.xlaEnable rq v) s) (fun t => t.fldB F.XLA_CTRL_EN = true
        ∧ t.fldB F.XLA_STAT_CFGERR = false ∧ t.phase = 1 ∧ t.fld F.XLA_RSTAT_RPHASE = 1
        ∧ (s.lstate = lsSelftest → startupDone s = true → t.lstate = lsSyncing) ∧ (s.lstate ≠ lsSelftest → t.lstate = s.lstate)
        ∧ t.mem = s.mem ∧ t.cores = s.cores))
      ∧ (xlaConfigOk s = false → Runs (exec (.xlaEnable rq v) s) (fun t => t.fldB F.XLA_CTRL_EN = false
        ∧ t.fldB F.XLA_STAT_CFGERR = true ∧ Only [R.XLA_CTRL, R.XLA_STAT] [] [] s t)))
    ∧ (Accepts s rq R.XLA_CTRL → s.fldB F.XLA_CTRL_EN = true →
      Runs (exec (.xlaEnable rq v) s) (fun t => t.fldB F.XLA_CTRL_EN = true ∧ Only [R.XLA_CTRL] [] [] s t)
      ∧ (s.xla.attempt = true → s.lstate = lsWithdrawn → Runs (exec (.xlaDisable rq v) s) (fun t =>
          t.fldB F.XLA_CTRL_EN = false ∧ t.xla.attempt = false ∧ flagSet t 12 = true))
      ∧ (s.xla.attempt = false → Runs (exec (.xlaDisable rq v) s) (fun t => t.fldB F.XLA_CTRL_EN = false ∧ t.fldB F.XLA_STAT_FORMED = false
          ∧ t.fldB F.XLA_STAT_MEMBER = false ∧ t.phase = 0
          ∧ t.lstate = (if s.lstate = lsVoting then lsWithdrawn else s.lstate) ∧ t.mem = s.mem ∧ t.cores = s.cores)))
    ∧ (Accepts s rq R.XLA_CMD →
      Runs (exec (.resync rq) s) (fun t => t.xla = { s.xla with resync := true } ∧ Only [] [] [] s t)
      ∧ Runs (exec (.leave rq) s) (fun t => t.xla = { s.xla with leave := true } ∧ Only [] [] [] s t)
      ∧ Runs (exec (.abort rq) s) (fun t => t.xla.resync = false ∧ t.xla.attempt = false ∧ t.fld F.XLA_RSTAT_RPHASE = 0
          ∧ t.lstate = s.lstate ∧ Only [R.XLA_RSTAT] [] [30] s t)
      ∧ (s.fldB F.XLA_CTRL_EN = false → poisoned s 15 = false → s.fldB F.MEMC_STAT_WIPE = false → marching s 15 = false →
          (∀ i, i < 13 → upsetAt s (0xFFFF0 + i) = none) →
          Runs (exec (.keyld rq) s) (fun t => t.fldB F.XLA_KEYSTAT_LOADED = true
            ∧ (∀ i : Fin 3, t.xla.keys[i] = BitVec.ofNat 128 (key i.val))
            ∧ t.fldB F.XLA_KEYSTAT_ZERO = (decide (key 0 = 0) || decide (key 1 = 0) || decide (key 2 = 0))
            ∧ t.fld F.XLA_KEYSTAT_KVER = getBits (s.word 0xFFFFC) 0 16 ∧ Only [R.XLA_KEYSTAT] [] [] s t))
      ∧ (s.fldB F.XLA_CTRL_EN = true → Runs (exec (.keyld rq) s) (fun t => t = s)))

/-- R22 to R24, R33, R143, R148, R166 to R168, R570: the start of a frame, and of frame 0 at the epoch of a formation.
-/
def Obligations.FrameStarts : Prop :=
  ∀ (s : State) (m : Nat) (e : DWord),
    let at_ := s.xla.frameEpoch + BitVec.ofNat 72 ((s.frame.toNat + 1) * xT s)
    let due := s.fldB F.XLA_STAT_FORMED = true ∧ s.fldB F.XLA_CTRL_EN = true ∧ at_.toNat ≤ s.ltime.toNat
    let next := s.fld F.XLA_MEMB_NEXT
    (clocked s = true → due → Runs (exec .frameStart s) (fun t => t.frame = s.frame + 1 ∧ t.frameStart = at_
        ∧ t.pennant = pennantOf s.frame.toNat s ∧ t.fld F.XLA_MEMB_CUR = next ∧ srcPending t 24 = true
        ∧ t.xla.selected = false ∧ t.xla.voted = false
        ∧ (∀ h g, s.xla.commitDue = some (h, g) → t.fld F.XLA_COMMIT_BUF = 1 - s.fld F.XLA_COMMIT_BUF
            ∧ t.fldB F.XLA_COMMIT_HOLD = h ∧ t.fldB F.XLA_COMMIT_SINGLE = g)
        ∧ (s.xla.commitDue = none → t.fld F.XLA_COMMIT_BUF = s.fld F.XLA_COMMIT_BUF)
        ∧ (s.hal.safe = false → s.hal.safeDue ≠ 0 →
            t.hal.safe = true ∧ t.rstate = rsSafe ∧ flagSet t 21 = true ∧ t.fld F.HAL_RSTAT_SAFECAUSE = s.hal.safeDue % 8)
        ∧ (s.hal.safe = false → s.hal.safeDue = 0 → s.hal.inHalfMast = false → next = 7 → t.rstate = rsTriplex)))
    ∧ (clocked s = true → ¬due → Runs (exec .frameStart s) (fun t => t = s))
    ∧ (clocked s = true → formationMembers s = some m → s.xla.epoch = some e → s.fldB F.XLA_CTRL_EN = true →
        s.fldB F.XLA_STAT_FORMED = false → xlaReady s = true → e.toNat ≤ s.ltime.toNat →
        Runs (exec .formationEpoch s) (fun t => t.frame = 0 ∧ t.frameStart = e ∧ t.xla.frameEpoch = e
          ∧ t.fldB F.XLA_STAT_FORMED = true ∧ t.fld F.XLA_MEMB_CUR = m % 8 ∧ srcPending t 24 = true
          ∧ (s.lstate = lsSyncing → t.lstate = lsVoting) ∧ (s.lstate = lsWithdrawn → t.lstate = lsWithdrawn)))

/-! Generators, trips, chopper, drive link -/

/-- R220 to R225, R229 to R231, R234, R241, R248, R252: when a period of a bank starts, the period start of a bank,
its enable and disable, and a load round. -/
def Obligations.PwmPeriods : Prop :=
  ∀ (s : State) (n : Fin 2) (rq : Req) (v : Word) (banks : BitVec 2),
    let q : Fin 3 := ⟨n.val, by omega⟩
    let m : Nat := 1 - n.val
    let lt : Int := s.ltime.toNat
    let len : Int := 2 * s.fld (F.PWM_APER_APER 0)
    let base : Int := s.pwm[(0 : Fin 2)].base.toNat
    let slot : Int := s.frameStart.toNat + 2 * (s.fld (F.PWM_APER_APER 0) * s.fld (F.PWM_STAT_SLOT 0) / 3 : Nat)
    let stretched := s.pwm[(0 : Fin 2)].fresh = false ∧ s.fldB (F.PWM_STAT_STRETCH 0) = true
    let on := clocked s = true ∧ s.fldB (F.PWM_CTRL_EN n.val) = true
    let per := s.fld (F.PWM_PER_PER 0)
    let lim := fun (lo x hi : Nat) => lo ≤ x ∧ x ≤ hi
    let dt := s.fld (F.PWM_DT_DT n.val)
    let ofs := s.fld (F.PWM_OFS_OFS 1)
    let fits := s.fldB F.XLA_CTRL_EN = false ∨ ∃ k ∈ [1, 2, 3, 4, 5, 6, 7, 8], xT s = k * 2 * per
    let valid := lim 2500 per 100000 ∧ lim 10 dt 500 ∧ lim 150 (s.fld (F.PWM_LIM_MINON n.val)) 1000
      ∧ lim (dt + 10) (s.fld (F.PWM_LIM_MINON n.val)) 1000 ∧ lim (dt + 10) (s.fld (F.PWM_LIM_MINOFF n.val)) 1000
      ∧ lim (dt + 10) (s.fld (F.PWM_RFR_RFW n.val)) 1000 ∧ lim 1 (s.fld (F.PWM_RFR_RFPER n.val)) 63
      ∧ (n = 1 → 300 ≤ ofs ∧ ofs + 300 ≤ per ∧ s.fldB (F.PWM_CTRL_EN 0) = true) ∧ s.fld F.DLK_STAT_LSTATE = 4
      ∧ s.lstate ≠ 0 ∧ s.lstate ≠ 1 ∧ s.lstate ≠ 5 ∧ (n = 0 → fits)
    let compared := fun (t : State) (i : Fin 3) =>
      let c := t.pwm[n].acmp[i].toNat % 2 ^ 20
      let full := t.pwm[n].acmp[i].getLsbD 20
      let p := t.fld (F.PWM_APER_APER n.val)
      let e := t.fld (F.PWM_ECMP_E n.val i.val)
      let on := s.fld (F.PWM_LIM_MINON n.val)
      let off := s.fld (F.PWM_LIM_MINOFF n.val)
      t.fldB (F.PWM_ECMP_FULL n.val i.val) = full ∧ (full = true → e = p) ∧ (full = false → (c < on → e = 0)
        ∧ (on ≤ c → c ≤ p - off → e = c) ∧ (on ≤ c → p - off < c → e = p - off))
    let loaded := fun (t : State) => t.reg (R.PWM_AOVR n.val) = s.reg (R.PWM_OVR n.val)
      ∧ ∀ i : Fin 3, t.pwm[n].acmp[i] = (s.reg (R.PWM_CMP n.val i.val)).setWidth 21
    let included := fun (k : Fin 2) => banks.getLsbD k.val = true ∧ s.fldB (F.PWM_CTRL_EN k.val) = true
      ∧ (s.fldB F.PWM_LOAD_LOADALL = true → s.pwm[k].done = false)
    let left := s.fldB (F.PWM_CTRL_EN m) = true ∧ maskHas (s.fld F.PWM_LOAD_BANKS) m = true ∧ s.pwm[1 - n].done = false
    (on → n = 0 → 0 < len → (periodDue n s = true ↔ s.pwm[n].fresh = true
        ∨ (¬stretched ∧ ¬(base ≤ lt ∧ lt < base + len))
        ∨ (stretched ∧ (s.pwm[n].ripe.any fun r => decide ((r.toNat - slot) / len < (lt - slot) / len)) = true)))
    ∧ (on → n = 1 → (periodDue n s = true ↔ s.pwm[(0 : Fin 2)].fresh = false ∧ s.pwm[n].answered = false
        ∧ ofs ≤ s.fld (F.PWM_CNT_CNT 0)))
    ∧ (on → periodDue n s = true → Runs (exec (.periodStart n) s) (fun t =>
        (n = 0 → t.pwm[(1 : Fin 2)].answered = false ∧ (0 < len → len ≤ lt →
            len ∣ (t.pwm[n].base.toNat : Int) - (if stretched then slot else base)
              ∧ (t.pwm[n].base.toNat : Int) ≤ lt ∧ lt < t.pwm[n].base.toNat + len))
        ∧ (n = 1 → t.pwm[n].answered = true)
        ∧ t.fld (F.PWM_CNT_CNT n.val) = 0 ∧ t.reg (R.PWM_PSTART n.val) = s.lt36 ∧ srcPending t (40 + 8 * n.val) = true
        ∧ t.fld (F.PWM_CNT_PIDX n.val)
            = (if s.pwm[n].fresh then s.fld (F.PWM_CNT_PIDX n.val) else (s.fld (F.PWM_CNT_PIDX n.val) + 1) % 2 ^ 16)
        ∧ t.fldB (F.PWM_STAT_STRETCH n.val) = s.pwm[n].strNext ∧ (∀ i, compared t i)
        ∧ (s.fldB (F.PWM_STAT_PEND n.val) = true → loaded t ∧ t.fldB (F.PWM_STAT_PEND n.val) = false
            ∧ srcPending t (41 + 8 * n.val) = true ∧ (s.fldB F.PWM_LOAD_LOADALL = true → ¬left →
              t.fldB F.PWM_LOAD_LOADALL = false ∧ srcPending t 45 = true)
            ∧ (s.fldB F.PWM_LOAD_LOADALL = true → left → t.fldB F.PWM_LOAD_LOADALL = true)
            ∧ (n = 0 → fits → t.fld (F.PWM_APER_APER 0) = per)
            ∧ (n = 0 → ¬fits → t.fldB (F.PWM_STAT_PERR 0) = true ∧ srcPending t 47 = true
                ∧ t.fld (F.PWM_APER_APER 0) = s.fld (F.PWM_APER_APER 0)))
        ∧ (s.fldB (F.PWM_STAT_PEND n.val) = false → t.reg (R.PWM_AOVR n.val) = s.reg (R.PWM_AOVR n.val)
            ∧ t.pwm[n].acmp = s.pwm[n].acmp ∧ (n = 0 → t.fld (F.PWM_APER_APER 0) = s.fld (F.PWM_APER_APER 0)))
        ∧ (n = 1 → t.fld (F.PWM_APER_APER 1) = s.fld (F.PWM_APER_APER 0))
        ∧ t.fld (F.PWM_STAT_TSTATE n.val) = (if resolvedTrip n.val s = 0 then 0 else s.fld (F.PWM_STAT_TSTATE n.val))
        ∧ (linkUp s = true → ∃ p l, t.dlk.edgeQ[q] = s.dlk.edgeQ[q] ++ p :: l ∧ p.first = true
            ∧ p.etime = (s.dlk.dtime.toNat + 160 + trimOf q s) % 2 ^ 20 ∧ ∀ e ∈ l, e.first = false ∧ e.resume = false)
        ∧ t.mem = s.mem ∧ t.cores = s.cores))
    ∧ (clocked s = true → periodDue n s = false → Runs (exec (.periodStart n) s) (fun t => t = s))
    ∧ (clocked s = true → s.fldB (F.PWM_CTRL_EN n.val) = false → periodDue n s = false)
    ∧ (Accepts s rq (R.PWM_CTRL n.val) → s.fldB (F.PWM_CTRL_EN n.val) = false →
      (valid → cfgFull s = true → Runs (exec (.pwmEnable rq n v) s) (fun t => t = s))
      ∧ (valid → cfgFull s = false → Runs (exec (.pwmEnable rq n v) s) (fun t => t.fldB (F.PWM_CTRL_EN n.val) = true
        ∧ t.fldB (F.PWM_STAT_RUN n.val) = true ∧ t.fldB (F.PWM_STAT_CFGERR n.val) = false ∧ t.reg (R.PWM_CNT n.val) = 0
        ∧ loaded t ∧ t.fld (F.PWM_APER_APER n.val) = (if n = 0 then per else s.fld (F.PWM_APER_APER 0))
        ∧ t.dlk.cfgQ = s.dlk.cfgQ ++ [⟨1, dieDt + n.val, BitVec.ofNat 36 dt, 0, 0, 0⟩] ∧ t.mem = s.mem ∧ t.cores = s.cores))
      ∧ (¬valid → Runs (exec (.pwmEnable rq n v) s) (fun t => t.fldB (F.PWM_CTRL_EN n.val) = false
        ∧ t.fldB (F.PWM_STAT_CFGERR n.val) = true ∧ Only [R.PWM_STAT n.val] [] [] s t)))
    ∧ (Accepts s rq (R.PWM_CTRL n.val) → s.fldB (F.PWM_CTRL_EN n.val) = true →
      Runs (exec (.pwmEnable rq n v) s) (fun t => t = s)
      ∧ Runs (exec (.pwmDisable rq n v) s) (fun t => t.fldB (F.PWM_CTRL_EN n.val) = false
        ∧ t.fldB (F.PWM_STAT_RUN n.val) = false ∧ t.fldB (F.PWM_CTRL_EN 1) = false ∧ t.dlk.edgeQ[q] = []
        ∧ (linkUp s = true → ∃ o ∈ t.dlk.tripQ, o / 4 ^ n.val % 4 = 2)
        ∧ Only [R.PWM_CTRL 0, R.PWM_CTRL 1, R.PWM_STAT 0, R.PWM_STAT 1, R.PWM_LOAD] [] [45] s t))
    ∧ (Accepts s rq R.PWM_LOAD → Runs (exec (.loadall rq banks) s) (fun t => t.fld F.PWM_LOAD_BANKS = banks.toNat
        ∧ (∀ k : Fin 2, t.fldB (F.PWM_STAT_PEND k.val) = true ↔ included k)
        ∧ (s.fldB F.PWM_LOAD_LOADALL = false → t.fldB F.PWM_LOAD_LOADALL = true)
        ∧ (s.fldB F.PWM_LOAD_LOADALL = true → ¬included 0 → ¬included 1 →
            s.pwm[(0 : Fin 2)].done = true ∨ s.pwm[(1 : Fin 2)].done = true →
            t.fldB F.PWM_LOAD_LOADALL = false ∧ srcPending t 45 = true)
        ∧ Only [R.PWM_LOAD, R.PWM_STAT 0, R.PWM_STAT 1] [] [45] s t))

/-- R235, R236, R264 to R269: the trip sources and what they resolve to, the event matrix and its test register, and
the chopper generator. -/
def Obligations.TripsAndChopper : Prop :=
  ∀ (s : State) (rq : Req) (n : Fin 2) (force : BitVec 24),
    let b := fun (f : Nat → Fld) => s.fldB (f n.val) = true
    let r := resolvedTrip n.val s
    let was := s.fld (F.PWM_STAT_TSTATE n.val)
    let offs := b F.PWM_TRIP_EMOFF ∨ b F.PWM_TRIP_SWOFF ∨ (b F.PWM_TRIP_XLAT ∧ ¬b F.PWM_TRIP_XLASH)
      ∨ (b F.PWM_TRIP_SAFET ∧ ¬b F.PWM_TRIP_SAFESH)
    let shorts := b F.PWM_TRIP_EMSHORT ∨ b F.PWM_TRIP_SWSHORT ∨ b F.PWM_TRIP_XLAT ∨ b F.PWM_TRIP_SAFET
    let act := fun (t : State) => t.fld (F.PWM_STAT_TSTATE 0) + 4 * t.fld (F.PWM_STAT_TSTATE 1) + 16 * s.fld F.SYS_CHSTAT_FORCED
    let ins := s.fld F.GDC_RPT_RPT ||| s.fld F.SYS_EMTEST_FORCE
    let on := s.fldB F.SYS_CHCFG_EN = true ∧ s.lstate ≠ 0 ∧ s.lstate ≠ 1 ∧ s.lstate ≠ 5 ∧ bit (s.reg R.GDC_RPT) 17 = true
      ∧ s.fldB F.SYS_CHSTAT_FORCED = false
    let gate := s.fldB F.SYS_CHSTAT_GATE = true
    let now := s.dlk.dtime.toNat
    let minOver := s.chop.onAt.toNat + 1000 * s.fld F.SYS_CHCFG_MINON ≤ now
    let maxOver := s.chop.onAt.toNat + 10000 * s.fld F.SYS_CHCFG_MAXON ≤ now
    let restOver := s.chop.restAt.toNat + 1000 * s.fld F.SYS_CHCFG_REST ≤ now
    let routed := fun (m : Nat) (t : State) => t.fld F.SYS_EMSTAT_IN = m ∧ t.mem = s.mem ∧ t.cores = s.cores
      ∧ (∀ i, i < 24 → maskHas m i = true →
          (s.fld (F.SYS_EMRT_B0 i) = 1 → t.fldB (F.PWM_TRIP_EMSHORT 0) = true)
          ∧ (s.fld (F.SYS_EMRT_B0 i) = 2 → t.fldB (F.PWM_TRIP_EMOFF 0) = true)
          ∧ (s.fld (F.SYS_EMRT_B1 i) = 1 → t.fldB (F.PWM_TRIP_EMSHORT 1) = true)
          ∧ (s.fld (F.SYS_EMRT_B1 i) = 2 → t.fldB (F.PWM_TRIP_EMOFF 1) = true)
          ∧ (s.fldB (F.SYS_EMRT_CHOFF i) = true → t.fldB F.SYS_CHSTAT_FORCED = true ∧ t.fldB F.SYS_CHSTAT_GATE = false)
          ∧ (s.fldB (F.SYS_EMRT_IRQ i) = true → maskHas (s.fld F.SYS_EMSTAT_IN) i = false → srcPending t (64 + i) = true))
      ∧ ((∀ i, i < 24 → maskHas m i = true → s.fldB (F.SYS_EMRT_CHOFF i) = false) → t.fldB F.SYS_CHSTAT_FORCED = false)
    let turned := fun (t : State) => t.fldB F.SYS_CHSTAT_GATE = true ∧ srcPending t 89 = true
      ∧ t.fld F.SYS_CHCNT_CNT = satInc (s.fld F.SYS_CHCNT_CNT) 1 24
    ((offs → r = 2) ∧ (¬offs → shorts → r = 1) ∧ (¬offs → ¬shorts → r = 0))
    ∧ (Accepts s rq (R.PWM_CMD n.val) →
      Runs (exec (.tripoff rq n) s) (fun t => t.fldB (F.PWM_TRIP_SWOFF n.val) = true ∧ resolvedTrip n.val t = 2
        ∧ Only [R.PWM_TRIP n.val] [] [] s t)
      ∧ Runs (exec (.tripshort rq n) s) (fun t => t.fldB (F.PWM_TRIP_SWSHORT n.val) = true
          ∧ resolvedTrip n.val t = (if r = 2 then 2 else 1) ∧ Only [R.PWM_TRIP n.val] [] [] s t))
    ∧ (clocked s = true → n.val = 0 ∨ maskHas (s.fld F.PWR_DOMST_PWRD) 1 = true →
      (r ≠ 0 → r ≠ was → Runs (exec (.tripAssert n) s) (fun t => t.fld (F.PWM_STAT_TSTATE n.val) = r
        ∧ (linkUp s = true → t.dlk.tripQ = s.dlk.tripQ ++ [act t]) ∧ (was = 0 → srcPending t (42 + 8 * n.val) = true)
        ∧ Only [R.PWM_STAT n.val] [] [42 + 8 * n.val] s t))
      ∧ (r = 0 ∨ r = was → Runs (exec (.tripAssert n) s) (fun t => t = s)))
    ∧ (Accepts s rq R.SYS_EMTEST →
      (s.lstate = 1 ∨ s.lstate = 4 → Runs (exec (.emtest rq force) s) (fun t =>
        t.fld F.SYS_EMTEST_FORCE = s.fld F.SYS_EMTEST_FORCE ||| force.toNat ∧ routed (ins ||| force.toNat) t))
      ∧ (s.lstate ≠ 1 → s.lstate ≠ 4 → Runs (exec (.emtest rq force) s) (fun t => t = s)))
    ∧ (clocked s = true → Runs (exec (.emtestExpiry force) s) (fun t =>
        let left := t.fld F.SYS_EMTEST_FORCE
        (∀ i : Fin 24, maskHas left i.val = (maskHas (s.fld F.SYS_EMTEST_FORCE) i.val
            && !(force.getLsbD i.val && passed s s.chop.emAt[i] 1000))) ∧ routed (s.fld F.GDC_RPT_RPT ||| left) t
          ∧ (s.fldB (F.PWM_TRIP_EMOFF n.val) = true → t.fldB (F.PWM_TRIP_EMOFF n.val) = true)))
    ∧ (clocked s = true → gate →
      (minOver → Runs (exec .chopperMinon s) (fun t => t.chop.minDone = true ∧ (on → t.fldB F.SYS_CHSTAT_GATE = true)
        ∧ (¬on → t.fldB F.SYS_CHSTAT_GATE = false ∧ srcPending t 90 = true) ∧ Only [R.SYS_CHSTAT] [] [90] s t))
      ∧ (s.fld F.SYS_CHCFG_MAXON ≠ 0 → maxOver → Runs (exec .chopperMaxon s) (fun t => srcPending t 90 = true
          ∧ (s.fld F.SYS_CHCFG_REST ≠ 0 → t.fldB F.SYS_CHSTAT_GATE = false ∧ t.fldB F.SYS_CHSTAT_RESTING = true)
          ∧ (s.fld F.SYS_CHCFG_REST = 0 → on → turned t) ∧ Only [R.SYS_CHSTAT, R.SYS_CHCNT] [] [89, 90] s t)))
    ∧ (clocked s = true → (¬gate ∨ ¬minOver → Runs (exec .chopperMinon s) (fun t => t = s))
        ∧ (¬gate ∨ ¬maxOver → Runs (exec .chopperMaxon s) (fun t => t = s))
        ∧ (s.fldB F.SYS_CHSTAT_RESTING = false ∨ ¬restOver → Runs (exec .chopperRestEnd s) (fun t => t = s)))
    ∧ (clocked s = true → ¬gate → s.fldB F.SYS_CHSTAT_RESTING = true → restOver → Runs (exec .chopperRestEnd s) (fun t =>
        t.fldB F.SYS_CHSTAT_RESTING = false ∧ (¬on → t.fldB F.SYS_CHSTAT_GATE = false)
          ∧ (on → turned t ∧ (linkUp s = true → t.dlk.edgeQ[(2 : Fin 3)] = s.dlk.edgeQ[(2 : Fin 3)]
              ++ [⟨(s.dlk.dtime.toNat + 160 + s.fld F.DLK_TRIM_TCH) % 2 ^ 20, 32, false, false⟩]))
          ∧ Only [R.SYS_CHSTAT, R.SYS_CHCNT] [] [89] s t))

/-- R238 to R245, R248, R258, R375: the packets from the controller die to the gate-drive die, what a CRC error does,
and the gates they command. -/
def Obligations.DriveLinkPackets : Prop :=
  ∀ (s : State) (n : Fin 2) (crcOk : Bool) (p : EdgePkt) (ps : List EdgePkt) (e : DieEdge) (es : List DieEdge)
      (o c : Nat) (delay : BitVec 10) (os : List Nat) (w : CfgWrite) (ws : List CfgWrite) (d : DWord) (on : Bool) (sos : List (Nat × Bool)),
    let q : Fin 3 := ⟨n.val, by omega⟩
    let now := s.die.dtime.toNat
    let at_ := fullTime now p.etime
    let late := fun (t : State) => t.die.lateN = s.die.lateN + (if at_ < now then 1 else 0)
      ∧ (at_ < now → (1, dieErrors) ∈ t.die.dirty)
    let bad := fun (t : State) => t.die.crcN = s.die.crcN + 1 ∧ (1, dieErrors) ∈ t.die.dirty
    let turn := s.dlk.tripQ = [] ∧ guardWindow s = false
    let idle := turn ∧ ∀ q : Fin 3, s.dlk.edgeQ[q] = []
    let synced := idle ∧ s.dlk.dtime < s.dlk.tsyncAt
    let b := s.die.bank[n]
    let packet := fun (ok : Bool) => exec (.edgePacket q ok) s
    let up := s.die.powered = true
    let turnsOn := fun (g : Nat) => maskHas e.gs g = true ∧ maskHas b.gates g = false
    let follows := fun (w : CfgWrite) => up ∧ w.seq = (s.die.lastSeq + 1) % 8
    (s.dlk.edgeQ[q] = p :: ps → turn → up →
      (s.die.patHeld = false → b.accept = true ∨ p.resume = true → b.discard = false ∨ p.first = true →
        Runs (packet true) (fun t => t.dlk.edgeQ[q] = ps ∧ ⟨Nat.max at_ now, p.gs, false⟩ ∈ t.die.bank[n].sched
          ∧ t.dlk.downLine = some (edgePkt q p)
          ∧ (∀ x ∈ b.sched, x ∈ t.die.bank[n].sched) ∧ t.die.bank[n].accept = true
          ∧ t.die.bank[n].discard = false ∧ late t
          ∧ (b.sched.Pairwise (fun x y => x.at_ ≤ y.at_) → t.die.bank[n].sched.Pairwise (fun x y => x.at_ ≤ y.at_))
          ∧ Only [] [] [] s t))
      ∧ (s.die.patHeld = true ∨ (b.accept = false ∧ p.resume = false) ∨ (b.discard = true ∧ p.first = false) →
        Runs (packet true) (fun t => t.dlk.edgeQ[q] = ps ∧ t.die = s.die ∧ Only [] [] [] s t))
      ∧ Runs (packet false) (fun t => t.dlk.edgeQ[q] = ps ∧ bad t ∧ t.die.bank[n].discard = true
          ∧ (b.accept = true → t.die.bank[n].sched = [] ∧ t.die.bank[n].gates = 0)
          ∧ (b.accept = false → t.die.bank[n].sched = b.sched ∧ t.die.bank[n].gates = b.gates) ∧ Only [] [] [] s t))
    ∧ (s.dlk.edgeQ[q] = [] ∨ ¬turn → Runs (packet crcOk) (fun t => t = s))
    ∧ (s.dlk.edgeQ[(2 : Fin 3)] = p :: ps → turn → up → s.die.patHeld = false → Runs (exec (.edgePacket 2 true) s) (fun t =>
        t.dlk.edgeQ[(2 : Fin 3)] = ps ∧ ⟨Nat.max at_ now, p.gs, false⟩ ∈ t.die.chopSched ∧ late t ∧ Only [] [] [] s t))
    ∧ (b.sched = e :: es → now < e.at_ → Runs (exec (.edgeExecution q) s) (fun t => t = s))
    ∧ (b.sched = e :: es → e.at_ ≤ now → e.gs < 64 → Runs (exec (.edgeExecution q) s) (fun t =>
        (∀ i, i < 3 → ¬(maskHas t.die.bank[n].gates (5 - 2 * i) = true ∧ maskHas t.die.bank[n].gates (4 - 2 * i) = true))
          ∧ ((∀ i, i < 3 → ¬(maskHas e.gs (5 - 2 * i) = true ∧ maskHas e.gs (4 - 2 * i) = true)) →
              (∀ g h : Fin 6, turnsOn g.val → h.val = otherGate g.val → maskHas b.gates h.val = false
                ∧ b.offAt[h].all fun x => decide (x + 5 * dieFld s F.GDC_LOCK_LKT ≤ e.at_)) →
              t.die.bank[n].gates = e.gs ∧ t.die.bank[n].sched = es.filter fun x => !x.delayed)
          ∧ Only [] [] [] s t))
    ∧ (s.die.chopSched = e :: es → e.at_ ≤ now → Runs (exec (.edgeExecution 2) s) (fun t =>
        t.die.chop = decide (32 ≤ e.gs) ∧ t.die.chopSched = es ∧ Only [] [] [] s t))
    ∧ (s.dlk.tripQ = o :: os → up →
      (s.die.patHeld = false → Runs (exec (.tripPacket true) s) (fun t => t.dlk.tripQ = os
        ∧ (o / 4 ^ n.val % 4 = 0 → t.die.bank[n] = s.die.bank[n])
        ∧ (o / 4 ^ n.val % 4 = 1 → t.die.bank[n].gates = b.gates &&& 21 ∧ t.die.bank[n].accept = false
            ∧ t.die.bank[n].sched = [⟨now + 2 * s.die.dt[n], 21, false⟩])
        ∧ (o / 4 ^ n.val % 4 = 2 → t.die.bank[n].gates = 0 ∧ t.die.bank[n].accept = false ∧ t.die.bank[n].sched = [])
        ∧ (maskHas o 4 = true → t.die.chop = false) ∧ t.dlk.downLine = some (tripPkt o) ∧ Only [] [] [] s t))
      ∧ Runs (exec (.tripPacket false) s) (fun t => t.dlk.tripQ = os ∧ bad t ∧ t.die.bank = s.die.bank ∧ t.die.chop = s.die.chop
          ∧ Only [] [] [] s t))
    ∧ (clocked s = true → (linkUp s = false ∨ ¬synced ∨ 7 ≤ s.dlk.cfgSent.length) →
        Runs (exec (.configurationWrite crcOk) s) (fun t => t = s))
    ∧ (clocked s = true → linkUp s = true → synced → s.dlk.cfgSent.length < 7 →
      (s.dlk.soPend = [] → s.dlk.cfgQ = w :: ws →
        let x := { w with seq := s.dlk.nextSeq, sentAt := s.dlk.dtime }
        Runs (exec (.configurationWrite crcOk) s) (fun t => t.dlk.cfgQ = ws ∧ t.dlk.cfgSent = s.dlk.cfgSent ++ [x]
          ∧ t.dlk.nextSeq = (s.dlk.nextSeq + 1) % 8 ∧ t.dlk.downLine = some (cfgPkt x) ∧ (crcOk = false → up → bad t)
          ∧ (crcOk = false → t.die.lastSeq = s.die.lastSeq ∧ t.die.dt = s.die.dt ∧ t.die.regs = s.die.regs)
          ∧ (crcOk = true → follows x → t.die.lastSeq = x.seq ∧ (w.space = 1 → w.off = dieDt + n.val →
              t.die.dt[n] = getBits w.data 0 9) ∧ (w.space = 0 → w.off = R.GDC_LOCK % 0x1000 →
              dieFld t F.GDC_LOCK_LKT = getBits w.data 0 5))
          ∧ (crcOk = true → ¬follows x → t.die = s.die) ∧ Only [R.DLK_CFGQ] [] [] s t))
      ∧ (s.dlk.soPend = (c, on) :: sos → c < 4 → Runs (exec (.configurationWrite crcOk) s) (fun t => t.dlk.soPend = sos
          ∧ t.dlk.cfgQ = s.dlk.cfgQ ∧ (crcOk = true → up → s.dlk.nextSeq = (s.die.lastSeq + 1) % 8 →
            maskHas t.die.soCmd c = on ∧ ∀ i, i < 4 → i ≠ c → maskHas t.die.soCmd i = maskHas s.die.soCmd i)
          ∧ Only [R.DLK_CFGQ] [] [] s t))
      ∧ (s.dlk.soPend = [] → s.dlk.cfgQ = [] → Runs (exec (.configurationWrite crcOk) s) (fun t => t = s)))
    ∧ (clocked s = true → linkUp s = true → s.dlk.cfgSent = w :: ws → passed s w.sentAt 800 = true →
      (w.tries < 3 → synced → Runs (exec (.configurationRepeat crcOk) s) (fun t =>
        t.dlk.cfgSent = { w with tries := w.tries + 1, sentAt := s.dlk.dtime } :: ws
        ∧ (crcOk = false → up → bad t) ∧ (crcOk = true → follows w → t.die.lastSeq = w.seq) ∧ Only [] [] [] s t))
      ∧ (3 ≤ w.tries → Runs (exec (.configurationRepeat crcOk) s) (fun t => t.fldB F.DLK_CFGQ_CFGF = true
          ∧ srcPending t 60 = true ∧ t.dlk = s.dlk ∧ Only [R.DLK_CFGQ] [] [60] s t)))
    ∧ (clocked s = true → linkUp s = true → s.dlk.cfgSent = w :: ws → passed s w.sentAt 800 = false →
        Runs (exec (.configurationRepeat crcOk) s) (fun t => t = s))
    ∧ (clocked s = true → linkUp s = true → idle → s.dlk.tsyncAt ≤ s.dlk.dtime → s.dlk.dtime.toNat < 2 ^ 71 →
        Runs (exec .tsyncSend s) (fun t => t.dlk.tsync = some s.dlk.dtime ∧ s.dlk.dtime < t.dlk.tsyncAt
          ∧ t.dlk.tsyncAt.toNat ≤ s.dlk.dtime.toNat + 1600 ∧ (t.dlk.tsyncAt.toNat - s.dlk.tsyncAt.toNat) % 1600 = 0
          ∧ t.dlk.downLine = some (tsyncPkt s.dlk.dtime) ∧ Only [] [] [] s t))
    ∧ (clocked s = true → (linkUp s = false ∨ ¬idle ∨ s.dlk.dtime < s.dlk.tsyncAt) → Runs (exec .tsyncSend s) (fun t => t = s))
    ∧ (s.dlk.tsync = some d → up → Runs (exec (.tsync false delay) s) (fun t => t.die.dtime = s.die.dtime ∧ bad t
        ∧ t.dlk.tsync = none ∧ Only [] [] [] s t))
    ∧ (s.dlk.tsync = some d → up →
        let err : Int := s.fld F.DLK_LDLY_DLY - delay.toNat
        let theirs : Int := s.dlk.dtime.toNat
        let own : Int := s.die.dtime.toNat
        2000 ≤ theirs → theirs < 2 ^ 71 → (theirs - own).natAbs < 2 ^ 22 →
        (s.die.tsAt = none ∨ (theirs + err - own).natAbs ≤ 2 → Runs (exec (.tsync true delay) s) (fun t =>
          (t.die.dtime.toNat : Int) = theirs + max (-1) (min 1 err) ∧ t.die.tsBad = 0 ∧ t.die.tsAt = some t.die.dtime
            ∧ t.dlk.tsync = none ∧ Only [] [] [] s t))
        ∧ (s.die.tsAt ≠ none → 2 < (theirs + err - own).natAbs → Runs (exec (.tsync true delay) s) (fun t =>
          t.die.dtime = s.die.dtime ∧ t.die.tsBad = s.die.tsBad + 1 ∧ t.die.tsAt = some s.die.dtime
            ∧ t.dlk.tsync = none ∧ Only [] [] [] s t)))

/-- R246 to R251, R253, R260, R261, R263, R268, R273, R294, R547: bring-up, loss and release of the link, the monitors
of the gate-drive die, its packets to the controller die, and its supply. -/
def Obligations.DriveLinkManagement : Prop :=
  ∀ (s : State) (n : Fin 2) (rq : Req) (vmaj vmin : BitVec 4) (dly : BitVec 10) (quiet : Bool) (codes level held : Nat) (k : Fin 24)
      (ph : Fin 3) (octets : List (BitVec 8)) (vbus vgd : BitVec 12) (tdie : BitVec 9) (pins : BitVec 4) (v off ack : Nat) (x : Word)
      (st : List (Nat × Nat × Nat × Word)) (r : Nat × Nat) (rs : List (Nat × Nat)),
    let ll := s.fld F.DLK_STAT_LSTATE
    let bad := fun (t : State) => t.fld F.DLK_ERRCNT_CRC = satInc (s.fld F.DLK_ERRCNT_CRC) 1 12 ∧ srcPending t 58 = true
      ∧ Only [R.DLK_ERRCNT] [] [58] s t
    let rpt := fun (t : State) => dieFld t F.GDC_RPT_RPT
    let inDie := fun (t : State) => t = { s with die := t.die }
    let code := s.die.llpat / 4 ^ n.val % 4
    let status := exec (.statusPacket true) s
    let toPacket := fun (ok : Bool) => exec (.eventPacket ok) s
    let seen := v % 2 ^ 24
    let retrainable := s.fldB F.DLK_CTRL_EN = true ∧ ll = 0 ∧ s.lstate ≠ 0 ∧ s.lstate ≠ 5
      ∧ s.dlk.stopAt.all fun x => decide (x.toNat + 1000 ≤ s.dlk.dtime.toNat)
    let formed := evaluated k ph s = true ∧ conditionOf k level s = true ∧ filterNs k.val s ≤ held
    let freed := releaseOf k level s = true ∧ filterNs k.val s ≤ held
    let lost := quiet = true ∨ 4 ≤ codes ∨ 3 ≤ s.die.tsBad ∨ s.die.tsAt.any fun x => decide (x.toNat + 5000 ≤ s.die.dtime.toNat)
    let product := (getBits x 0 12 : Int) * (s.reg R.ISN_VGAIN).toInt
    (clocked s = true → retrainable → Runs (exec .linkRetrain s) (fun t => t.fld F.DLK_STAT_LSTATE = 1 ∧ Only [R.DLK_STAT] [] [] s t))
    ∧ (clocked s = true → ¬retrainable → Runs (exec .linkRetrain s) (fun t => t = s))
    ∧ (clocked s = true → ll = 1 → s.die.powered = true → Runs (exec (.hello vmaj vmin dly) s) (fun t => t.fld F.DLK_STAT_LSTATE = 2
        ∧ t.fld F.DLK_LDLY_DLY = dly.toNat ∧ t.dlk.downLine = some (helloPkt 1 0) ∧ t.dlk.upLine = some (helloPkt vmaj vmin) ∧ t.fld F.DLK_STAT_DVMAJ = vmaj.toNat
        ∧ t.fldB F.DLK_STAT_VERR = decide (vmaj ≠ 1) ∧ (vmaj ≠ 1 → srcPending t 59 = true ∧ t.die.bank[n].gates = 0)
        ∧ Only [R.DLK_STAT, R.DLK_LDLY] [] [59] s t))
    ∧ (clocked s = true → ll = 2 → s.fldB F.DLK_STAT_VERR = false → s.die.powered = true → Runs (exec .linkUp s) (fun t =>
        srcPending t 56 = true
        ∧ (s.dlk.patNext = true → t.fld F.DLK_STAT_LSTATE = 3 ∧ t.die.patHeld = true ∧ Only [R.DLK_STAT] [] [56] s t)
        ∧ (s.dlk.patNext = false → t.fld F.DLK_STAT_LSTATE = 4 ∧ t.die.patHeld = false
            ∧ (∀ i, i < 0x18 → t.reg (0x823000 + i) = regReset (0x823000 + i)))))
    ∧ (Accepts s rq R.DLK_CMD →
      (ll = 3 → Runs (exec (.llrel rq) s) (fun t => t.fld F.DLK_STAT_LSTATE = 4 ∧ t.die.patHeld = false
        ∧ t.pwm[n].resume = true ∧ Only [R.DLK_STAT] [] [] s t))
      ∧ (ll ≠ 3 → Runs (exec (.llrel rq) s) (fun t => t = s))
      ∧ Runs (exec (.retrain rq) s) (fun t => t.fldB F.DLK_CFGQ_CFGF = false ∧ t.fld F.DLK_STAT_LSTATE = 0
          ∧ t.dlk.patNext = true ∧ t.dlk.tripQ = [] ∧ t.dlk.cfgSent = [] ∧ (∀ q : Fin 3, t.dlk.edgeQ[q] = [])
          ∧ t.dlk.cfgQ = ((s.dlk.cfgSent.filter fun w => !w.safety).map fun w => { w with tries := 0 }) ++ s.dlk.cfgQ
          ∧ Only [R.DLK_STAT, R.DLK_CFGQ] [] [] s t))
    ∧ (s.die.powered = true → ¬lost → Runs (exec (.linkLoss quiet codes) s) (fun t => t.die.codeN = s.die.codeN + codes
        ∧ t.die.bank = s.die.bank ∧ t.die.patHeld = s.die.patHeld ∧ t.die.chop = s.die.chop ∧ t.die.soCmd = s.die.soCmd
        ∧ Only [] [] [] s t))
    ∧ (s.die.powered = true → lost → Runs (exec (.linkLoss quiet codes) s) (fun t => t.die.codeN = s.die.codeN + codes
          ∧ (code = 1 → t.die.bank[n].gates = s.die.bank[n].gates &&& 21)
          ∧ (code ≠ 1 → t.die.bank[n].gates = 0) ∧ t.die.bank[n].accept = false ∧ t.die.patHeld = true ∧ t.die.chop = false
          ∧ t.die.soCmd = 0 ∧ dieFld t F.GDC_STAT_DSTATE = 3 ∧ Only [] [] [] s t))
    ∧ (clocked s = true → ll = 0 ∨ (quiet = false ∧ codes < 4) → Runs (exec (.controllerLinkLoss quiet codes) s) (fun t =>
        t.fld F.DLK_ERRCNT_UCODE = satInc (s.fld F.DLK_ERRCNT_UCODE) codes 12 ∧ t.dlk = s.dlk ∧ Only [R.DLK_ERRCNT] [] [] s t))
    ∧ (clocked s = true → ll ≠ 0 → quiet = true ∨ 4 ≤ codes → Runs (exec (.controllerLinkLoss quiet codes) s) (fun t => t.fld F.DLK_STAT_LSTATE = 0
        ∧ t.fld F.DLK_ERRCNT_UCODE = satInc (s.fld F.DLK_ERRCNT_UCODE) codes 12
        ∧ t.fld F.DLK_LLCNT_CNT = satInc (s.fld F.DLK_LLCNT_CNT) 1 16 ∧ flagSet t 36 = true ∧ srcPending t 57 = true
        ∧ t.dlk.patNext = true ∧ t.dlk.upBits = none ∧ t.dlk.upEvent = none ∧ t.dlk.upStatus = []
        ∧ Only [R.DLK_ERRCNT, R.DLK_LLCNT, R.DLK_STAT] [36] (57 :: hoistSrcs) s t))
    ∧ Runs (exec .gateDriveReset s) (fun t => inDie t ∧ t.die.powered = false ∧ t.die.bank[n].gates = 0 ∧ t.die.chop = false
        ∧ t.die.soCmd = 0 ∧ t.die.regs = [])
    ∧ (s.die.powered = false → Runs (exec .gateDrivePowerUp s) (fun t => inDie t ∧ t.die.powered = true
        ∧ t.die.bank[n].gates = 0 ∧ t.die.soCmd = 0 ∧ t.die.regs = []))
    ∧ (s.die.powered = true → Runs (exec .gateDrivePowerUp s) (fun t => t = s))
    ∧ (s.die.powered = true → k.val ≠ 18 → formed → Runs (exec (.monitorReport k ph level held) s) (fun t => inDie t
        ∧ (∀ i, i < 24 → maskHas (rpt t) i = (maskHas (rpt s) i || decide (i = k.val)))
        ∧ (∀ i, i < 24 → maskHas (dieFld t F.GDC_LATCH_LAT) i = (maskHas (dieFld s F.GDC_LATCH_LAT) i || decide (i = k.val)))
        ∧ (k.val = 19 ∨ k.val = 20 → maskHas (dieFld t F.GDC_BSTAT_BUV) (3 * (k.val - 19) + ph.val) = true)
        ∧ (rpt t ≠ rpt s → t.die.evDue = true)))
    ∧ (k.val = 18 ∨ ¬formed → Runs (exec (.monitorReport k ph level held) s) (fun t => inDie t ∧ t.die.regs = s.die.regs))
    ∧ (s.die.powered = true → k.val ≠ 18 → k.val ≠ 19 → k.val ≠ 20 → freed → Runs (exec (.monitorRelease k ph level held) s) (fun t =>
        inDie t ∧ (∀ i, i < 24 → i ≠ k.val → maskHas (rpt t) i = maskHas (rpt s) i)
          ∧ maskHas (rpt t) k.val = (maskHas (rpt s) k.val && !reportHeld k s)
          ∧ (maskHas (rpt t) k.val = true → maskHas t.die.relDue k.val = true)))
    ∧ (k.val = 18 ∨ ¬freed → Runs (exec (.monitorRelease k ph level held) s) (fun t => inDie t ∧ t.die.regs = s.die.regs))
    ∧ (∀ w, s.die.chopAt = some w → chopOut s = true →
        w.1.toNat + 1000 * max 1 (dieFld s F.GDC_CHOP_CHT) ≤ s.die.dtime.toNat →
        Runs (exec (.chopperEffectCheck level) s) (fun t => inDie t
          ∧ maskHas (rpt t) 18 = (maskHas (rpt s) 18 || decide (w.2 < level + 100 * max 1 (dieFld s F.GDC_CHOP_CHDV)))))
    ∧ (s.die.chopAt = none → Runs (exec (.chopperEffectCheck level) s) (fun t => inDie t ∧ t.die.regs = s.die.regs))
    ∧ (dieReports s = true → Runs (exec (.upstreamSlot octets vbus vgd tdie pins) s) (fun t => t.die.pins = pins.toNat
          ∧ t.dlk.upBits = some (s.die.bitSeq, octets.take 7) ∧ t.die.bitSeq = (s.die.bitSeq + 1) % 256 ∧ t.die.evDue = false
          ∧ t.dlk.upEvent = (if s.die.evDue = true ∨ rpt s ≠ 0 then some (rpt s) else none)
          ∧ dieFld t F.GDC_VBUS_V = vbus.toNat ∧ dieFld t F.GDC_VGD_V = vgd.toNat ∧ dieFld t F.GDC_TDIE_T = tdie.toNat
          ∧ (s.die.dirty = r :: rs → ∃ y, t.dlk.upStatus = [(r.1, r.2, s.die.lastSeq, y)]) ∧ Only [] [] [] s t))
    ∧ (dieReports s = false → Runs (exec (.upstreamSlot octets vbus vgd tdie pins) s) (fun t => t = s))
    ∧ (clocked s = true → s.dlk.upBits ≠ none → Runs (toPacket true) (fun t => t = s) ∧ Runs status (fun t => t = s))
    ∧ (clocked s = true → s.dlk.upBits = none → s.dlk.upEvent = some v → Runs (toPacket true) (fun t => t.fld F.GDC_RPT_RPT = seen ∧ srcPending t 61 = true
        ∧ t.fld F.SYS_EMSTAT_IN = (seen ||| s.fld F.SYS_EMTEST_FORCE)
        ∧ (∀ i f, i < 24 → maskHas v i = true → maskHas (s.fld F.GDC_RPT_RPT) i = false → reportFlag i = some f →
            flagSet t f = true) ∧ t.mem = s.mem ∧ t.cores = s.cores)
      ∧ Runs (toPacket false) bad)
    ∧ (clocked s = true → s.dlk.upBits = none → s.dlk.upEvent = none → s.die.evDue = true → dieReports s = true → Runs (toPacket true) (fun t =>
        t.fld F.GDC_RPT_RPT = rpt s % 2 ^ 24 ∧ t.die.evDue = false ∧ srcPending t 61 = true))
    ∧ (clocked s = true → s.dlk.upBits = none → eventDue s = none → s.dlk.upStatus = (1, dieHalyard, ack, x) :: st →
        Runs status (fun t => t.fld F.HAL_STAT_GOBS = getBits x 0 3 ∧ t.fld F.HAL_STAT_SHEN = getBits x 3 1
          ∧ Only [R.HAL_STAT, R.DLK_CFGQ] [] [] s t))
    ∧ (clocked s = true → s.dlk.upBits = none → eventDue s = none → s.dlk.upStatus = (1, dieErrors, ack, x) :: st →
        Runs status (fun t => t.fld F.DLK_LATE_CNT = satInc (s.fld F.DLK_LATE_CNT) (getBits x 0 12) 16
          ∧ t.fld F.DLK_ERRCNT_DCODE = satInc (s.fld F.DLK_ERRCNT_DCODE) (getBits x 12 12) 12
          ∧ t.fld F.DLK_ERRCNT_CRC = satInc (s.fld F.DLK_ERRCNT_CRC) (getBits x 24 12) 12
          ∧ (getBits x 0 12 ≠ 0 → srcPending t 62 = true) ∧ (getBits x 24 12 ≠ 0 → srcPending t 58 = true)
          ∧ Only [R.DLK_LATE, R.DLK_ERRCNT, R.DLK_CFGQ] [] [58, 62] s t))
    ∧ (clocked s = true → s.dlk.upBits = none → eventDue s = none → s.dlk.upStatus = (0, off, ack, x) :: st →
      (off < 0x18 → off ≠ 0x10 → off ≠ 0x13 → off ≠ 0x14 → Runs status (fun t => t.reg (0x823000 + off) = x
        ∧ (∀ w ∈ t.dlk.cfgSent, w ∈ s.dlk.cfgSent) ∧ (s.dlk.cfgSent.head?.map (·.seq) = some ack →
            t.dlk.cfgSent = s.dlk.cfgSent.drop 1) ∧ Only [0x823000 + off, R.DLK_CFGQ] [] [] s t))
      ∧ (off = 0x10 → Runs status (fun t => t.fld F.GDC_RPT_RPT = getBits x 0 24 ∧ t.mem = s.mem ∧ t.cores = s.cores))
      ∧ (off = 0x13 → Runs status (fun t => t.reg R.GDC_XC = x ∧ (getBits x 0 6 &&& (63 - s.fld F.GDC_XC_OVL) ≠ 0 →
          flagSet t 41 = true ∧ srcPending t 88 = true)
          ∧ Only [R.GDC_XC, R.DLK_CFGQ, R.GDC_XCCNT] [41] (88 :: hoistSrcs) s t))
      ∧ (off = 0x14 → Runs status (fun t => t.reg R.GDC_VBUS = x ∧ t.reg R.ISN_VBUS = clipped product
          ∧ Only [R.GDC_VBUS, R.ISN_VBUS, R.DLK_CFGQ] [] [] s t))
      ∧ Runs (exec (.statusPacket false) s) bad)

/-! Sensing, safety inputs and outputs -/

/-- R279, R285 to R287: a change of the Hall inputs, standstill, the catch timeout and the locked rotor. R246, R290 to
R292, R294: a bitstream packet and the sample of a bank. -/
def Obligations.HallAndCurrents : Prop :=
  (∀ (s : State) (n : Fin 2) (raw : BitVec 3),
    let k := n.val
    let en := if n = 0 then s.fldB F.HALL_CTRL_EN0 else s.fldB F.HALL_CTRL_EN1
    let filt := s.fld (F.HALL_STAT_FILT k)
    let entry := fun (x : Nat) => s.fld (F.HALL_MAP_MAP k) / 8 ^ x % 8
    let old := entry filt
    let new := entry raw.toNat
    let at_ := s.lt36 - BitVec.ofNat 36 (s.fld F.HALL_CTRL_HFT * 100)
    let angle := [R.COM_STAT k, R.COM_ANG k, R.COM_ATS k, R.COM_FBCNT k]
    let goes := exec (.hallChange n raw) s
    let only := fun (t : State) => t.fld (F.HALL_STAT_RAW k) = raw.toNat ∧ t.fld (F.HALL_STAT_FILT k) = raw.toNat
      ∧ Only ([R.HALL_STAT k, R.HALL_TEDGE k, R.HALL_TSEC k, R.HALL_ERR k] ++ angle) [] [116 + k, 118, 144 + k, 146 + k, 148 + k] s t
    let edge := fun (d : Nat) (t : State) => t.fld (F.HALL_STAT_SECT k) = new ∧ t.fld (F.HALL_STAT_DIR k) = d
      ∧ t.fld (F.HALL_TSEC_T k) = min (at_ - s.reg (R.HALL_TEDGE k)).toNat 0xFFFFFFFF ∧ t.reg (R.HALL_TEDGE k) = at_
      ∧ t.fldB (F.HALL_STAT_TSV k) = decide (s.fld (F.HALL_STAT_DIR k) = d) ∧ srcPending t (144 + k) = true
      ∧ (s.fldB (F.COM_LOCK_LSRC k) = false → lockMs n t = 0)
    let now := s.dlk.dtime.toNat
    let stable := (if s.fld (F.HALL_STAT_RAW k) = raw.toNat then s.com[n].rawAt.toNat else now) + 100 * s.fld F.HALL_CTRL_HFT ≤ now
    let still := s.com[n].edgeAt.toNat + 1000000 * max 1 (s.fld F.HALL_CTRL_HSTO) ≤ now
    let catching := s.com[n].mode = some 2 ∧ s.fld (F.COM_STAT_PHASE k) = 1 ∧ s.com[n].next = none
      ∧ s.com[n].startAt.toNat + 1000000 * s.fld (F.COM_SS_FSTO k) ≤ now
    let ms := (s.ltime.toNat - s.com[n].lockAt.toNat) / 1000000
    let lock := s.fld (F.COM_LOCK_LOCKT k)
    (clocked s = true → en = true → filt ≠ raw.toNat → stable →
      (old < 6 → new < 6 → (new + 6 - old) % 6 = 1 → Runs goes (fun t => only t ∧ edge 1 t))
      ∧ (old < 6 → new < 6 → (new + 6 - old) % 6 = 5 → Runs goes (fun t => only t ∧ edge 2 t))
      ∧ (old < 6 → new < 6 → 2 ≤ (new + 6 - old) % 6 → (new + 6 - old) % 6 ≤ 4 → Runs goes (fun t => only t
          ∧ t.fld (F.HALL_ERR_SKIP k) = satInc (s.fld (F.HALL_ERR_SKIP k)) 1 12 ∧ srcPending t (148 + k) = true
          ∧ t.fld (F.HALL_STAT_SECT k) = new ∧ t.fld (F.HALL_STAT_DIR k) = 0 ∧ t.fldB (F.HALL_STAT_TSV k) = false))
      ∧ (old < 6 → new = old → Runs goes (fun t => only t ∧ t.reg (R.HALL_TEDGE k) = at_
          ∧ t.fld (F.HALL_STAT_SECT k) = s.fld (F.HALL_STAT_SECT k) ∧ t.fld (F.HALL_STAT_DIR k) = s.fld (F.HALL_STAT_DIR k)))
      ∧ (6 ≤ old → new < 6 → Runs goes (fun t => only t ∧ t.fld (F.HALL_STAT_SECT k) = new
          ∧ t.fld (F.HALL_STAT_DIR k) = 0 ∧ t.fldB (F.HALL_STAT_TSV k) = false))
      ∧ (6 ≤ new → Runs goes (fun t => only t ∧ t.fldB (F.HALL_STAT_TSV k) = false
          ∧ t.fld (F.HALL_ERR_INV k) = satInc (s.fld (F.HALL_ERR_INV k)) 1 12 ∧ srcPending t (146 + k) = true)))
    ∧ (clocked s = true → en = false ∨ filt = raw.toNat ∨ ¬stable → Runs goes (fun t => t.fld (F.HALL_STAT_RAW k) = raw.toNat
        ∧ t.fld (F.HALL_STAT_FILT k) = filt ∧ Only [R.HALL_STAT k] [] [] s t))
    ∧ (clocked s = true → en = true → still → Runs (exec (.hallStandstill n) s) (fun t => t.fldB (F.HALL_STAT_TSV k) = false
        ∧ t.fld (F.HALL_STAT_DIR k) = 0 ∧ srcPending t 150 = true ∧ Only (R.HALL_STAT k :: angle) [] [116 + k, 118, 150] s t))
    ∧ (clocked s = true → en = false ∨ ¬still → Runs (exec (.hallStandstill n) s) (fun t => t = s))
    ∧ (clocked s = true → catching → Runs (exec (.catchTimeout n) s) (fun t => t.fld (F.COM_STAT_CATCH k) = 1
        ∧ t.com[n].next = some 2 ∧ Only [R.COM_STAT k] [] [] s t))
    ∧ (clocked s = true → ¬catching → Runs (exec (.catchTimeout n) s) (fun t => t = s))
    ∧ (clocked s = true → lock ≠ 0 → lock * (s.com[n].lockN + 1) ≤ ms → Runs (exec (.lockedRotor n) s) (fun t =>
        flagSet t 48 = true ∧ t.com[n].lockN = s.com[n].lockN + 1
          ∧ srcPending t (114 + k) = true ∧ Only [] [48] ((114 + k) :: hoistSrcs) s t))
    ∧ (clocked s = true → lock = 0 ∨ ms < lock * (s.com[n].lockN + 1) → Runs (exec (.lockedRotor n) s) (fun t => t = s)))
  ∧ (∀ (s : State) (n : Fin 2) (crcOk : Bool) (q l : Nat) (os : List (BitVec 8)) (x : Int),
    let k := n.val
    let o := (s.isn.owed[n]).getD (sampleNow n s)
    let trim := if n = 0 then s.fld F.DLK_TRIM_TB0 else s.fld F.DLK_TRIM_TB1
    let anchor := o.start.toNat + 2 * o.spt + 160 + trim
    let late := bitsAfter anchor s
    let newest := s.isn.newest.toNat
    let owes := s.fldB (F.PWM_CTRL_EN k) = true ∧ (s.isn.owed[n] ≠ none ∨ s.isn.sampled[n] = false)
    let due := owes ∧ (newest + 50 > anchor ∨ anchor + 550 ≤ s.ltime.toNat)
    let p := fun (i : Fin 3) => phaseSample n i late o s
    let v := fun (i : Fin 3) => (p i).valid
    let all := v 0 && v 1 && v 2
    let two := (v 0 && v 1) || (v 0 && v 2) || (v 1 && v 2)
    let en := if n = 0 then s.fldB F.ISN_CTRL_EN0 else s.fldB F.ISN_CTRL_EN1
    let third := fun (a b : Word) => clipped (-(clipped (a.toInt + b.toInt)).toInt)
    let takes := fun (i : Fin 3) (a b : Word) => if v i then (p i).i else third a b
    let l2n := 3 + s.fld (F.ISN_CFG_OSR k)
    let stays := fun (regs : List Nat) (t : State) =>
      Only ([R.ISN_QUAL k, R.ISN_MISS, R.ISN_REC, R.ISN_STALE, R.ISN_IBUS, R.ISN_TSB, R.ISN_QUALB] ++ regs) []
        [120 + k, 122, 123, 124, 125] s t
    let octet := fun (c : Fin 7) => octetBits (os.getD c.val 0)
    let lost := match s.isn.nextSeq with
      | some e => max ((q + 256 - e) % 256) (((s.ltime - 180).toNat - newest - 200) / 400)
      | none => 0
    (late = some l → (newest : Int) - 50 * l ≤ anchor ∧ (anchor : Int) < newest - 50 * l + 50)
    ∧ (∀ (i : Fin 3) (c : Fin 7), c.val = 3 * k + i.val →
      (late = some l → channelX c l2n l s = some x → (p i).i = clipped ((mulq (BitVec.ofInt 36 (x * 2 ^ (32 - 3 * l2n)))
          (s.reg (R.ISN_GAIN c.val))).toInt + (s.reg (R.ISN_OFFS c.val)).toInt)
        ∧ ((p i).ovld = true ↔ 15 * ((2 ^ l2n) ^ 3 : Int) < 16 * x.natAbs)
        ∧ v i = (s.fldB (F.ISN_CFG_SHMODE k) || decide (75 * 2 ^ l2n + s.fld (F.ISN_CFG_SETL k) < o.low[i])))
      ∧ (late = some l → channelX c l2n l s = none → v i = false) ∧ (late = none → v i = false))
    ∧ (clocked s = true → due → en = true →
      (two = true → late = some l → Runs (exec (.isnSample n) s) (fun t =>
        t.reg (R.ISN_IU k) = takes 0 (p 1).i (p 2).i ∧ t.reg (R.ISN_IV k) = takes 1 (p 0).i (p 2).i
          ∧ t.reg (R.ISN_IW k) = takes 2 (p 0).i (p 1).i ∧ t.reg (R.ISN_TS k) = windowTs l2n l s
          ∧ t.fldB (F.ISN_QUAL_STALE k) = false ∧ t.fld (F.ISN_QUAL_AGE k) = 0 ∧ t.fldB (F.ISN_QUAL_REC k) = !all
          ∧ t.fldB (F.ISN_QUAL_TRIP k) = (o.trip != 0) ∧ t.isn.owed[n] = none
          ∧ (all = false → t.fld F.ISN_REC_CNT = satInc (s.fld F.ISN_REC_CNT) 1 16) ∧ srcPending t (120 + k) = true
          ∧ stays [R.ISN_IU k, R.ISN_IV k, R.ISN_IW k, R.ISN_TS k] t))
      ∧ (two = false → Runs (exec (.isnSample n) s) (fun t => t.fldB (F.ISN_QUAL_STALE k) = true
          ∧ t.fld (F.ISN_QUAL_AGE k) = satInc (s.fld (F.ISN_QUAL_AGE k)) 1 8
          ∧ t.fld F.ISN_STALE_CNT = satInc (s.fld F.ISN_STALE_CNT) 1 16 ∧ srcPending t 123 = true ∧ stays [] t)))
    ∧ (clocked s = true → ¬due → Runs (exec (.isnSample n) s) (fun t => t = s))
    ∧ (clocked s = true → s.dlk.upBits = none → Runs (exec (.bitstream crcOk) s) (fun t => t = s))
    ∧ (clocked s = true → s.dlk.upBits = some (q, os) → Runs (exec (.bitstream crcOk) s) (fun t => t.isn.newest = s.ltime - 180
        ∧ t.isn.nextSeq = some ((q + 1) % 256) ∧ t.dlk.upBits = none ∧ t.dlk.upLine = some (bitPkt q os)
        ∧ (∀ c : Fin 7, t.isn.bits[c] = ((if crcOk then octet c else List.replicate 8 none)
            ++ List.replicate (8 * min lost 32) none ++ s.isn.bits[c]).take 256)
        ∧ (∀ c, c < 7 → t.fld (F.ISN_RAW_SLOT c) = (s.fld (F.ISN_RAW_SLOT c) + lost + 1) % 16)
        ∧ (crcOk = true → Only ((List.range 7).map R.ISN_RAW) [] [] s t)
        ∧ (crcOk = false → t.fld F.DLK_ERRCNT_CRC = satInc (s.fld F.DLK_ERRCNT_CRC) 1 12 ∧ srcPending t 58 = true
            ∧ Only (R.DLK_ERRCNT :: (List.range 7).map R.ISN_RAW) [] [58] s t))))

/-- R349 to R362: edges of an encoder, its index, speed, compare and divided output, and the faults of its wires. -/
def Obligations.Encoders : Prop :=
  ∀ (s : State) (n : Fin 2) (a b z : Bool) (rq : Req) (v : Word) (i : Fin 3) (j : Fin 2) (low edge : BitVec 3)
    (vp vn : Int) (held : Nat),
    let k := n.val
    let ck := clocked s = true ∧ maskHas (s.fld F.PWR_DOMST_PWRD) (2 + k) = true
    let lvl := s.fld (F.QEP_STAT_LVL k)
    let a0 := maskHas lvl 0
    let b0 := maskHas lvl 1
    let h := s.qep[n]
    let on := s.fldB (F.QEP_CTRL_EN k)
    let mode := s.fld (F.QEP_CTRL_MODE k)
    let swap := s.fldB (F.QEP_CTRL_SWAPD k)
    let steps : List (Bool × Bool × Bool × Bool) := [(false, false, true, false), (true, false, true, true), (true, true, false, true), (false, true, false, false)]
    let pos := s.reg (R.QEP_POS k)
    let at_ := s.ltime - BitVec.ofNat 72 (2 * (s.fld (F.QEP_CTRL_FLT k) + 3))
    let wasBack := s.fldB (F.QEP_STAT_DIR k)
    let cmp := s.reg (R.QEP_CMP k)
    let turn := fun (f : Nat) (src : Nat) (t : State) => bit (t.reg (R.QEP_FLG k)) f = true ∧ srcPending t (src + 8 * k) = true
    let signed := fun (back : Bool) (x : Nat) => BitVec.ofInt 36 (if back then -(x : Int) else x)
    let goes := exec (.qepEdge n a b) s
    let level := fun (t : State) => t.fld (F.QEP_STAT_LVL k) = b2n a + 2 * b2n b + 4 * b2n (maskHas lvl 2) ∧ t.mem = s.mem ∧ t.cores = s.cores
    let counts := fun (back : Bool) (t : State) =>
      let pos' := if back then pos - 1 else pos + 1
      let rev := h.hasEdge = true ∧ wasBack ≠ back
      let q := min h.n (2 ^ s.fld (F.QEP_SPCFG_SPDE k))
      let dt := (at_ - h.times.getD (q - 1) at_).toNat
      level t ∧ t.reg (R.QEP_POS k) = pos' ∧ t.fldB (F.QEP_STAT_DIR k) = back ∧ t.reg (R.QEP_TEDGE k) = BitVec.ofNat 36 at_.toNat
        ∧ (rev → turn 0 129 t) ∧ (rev ∨ h.n = 0 → t.fldB (F.QEP_STAT_SPDV k) = false ∧ t.reg (R.QEP_SPD k) = 0)
        ∧ (¬rev → 1 ≤ h.n → s.fld (F.QEP_STAT_WIRE k) % 4 = 0 → t.fldB (F.QEP_STAT_SPDV k) = true
            ∧ t.reg (R.QEP_PER k) = BitVec.ofNat 36 (min dt (2 ^ 36 - 1))
            ∧ (dt ≠ 0 → t.reg (R.QEP_SPD k) = signed back ((2 * q * 65536000000 + dt) / (2 * dt))))
        ∧ (s.fldB (F.QEP_CMPCFG_CEN k) = true → s.fldB (F.QEP_CMPCFG_CDIR k) = back → pos' = cmp → turn 1 130 t
            ∧ t.reg (R.QEP_CTS k) = BitVec.ofNat 36 at_.toNat
            ∧ t.reg (R.QEP_CMP k) = (if back then cmp - BitVec.ofNat 36 (s.fld (F.QEP_CMPCFG_STEP k)) else cmp + BitVec.ofNat 36 (s.fld (F.QEP_CMPCFG_STEP k))))
    let still := fun (t : State) => level t ∧ t.reg (R.QEP_POS k) = pos
    let indexed := s.fldB (F.QEP_CTRL_ZEN k) = true ∧ z ≠ s.fldB (F.QEP_CTRL_ZPOL k) ∧ 2 * b2n a0 + b2n b0 = s.fld (F.QEP_CTRL_ZQS k)
    let e := (s.ltime - h.lastEdge).toNat
    let decays := s.fldB (F.QEP_SPCFG_DECAY k) = true ∧ s.fldB (F.QEP_STAT_SPDV k) = true ∧ h.lastIv < e
    let behindAt := fun (c : Word) (back : Bool) => if back then 0 ≤ (c - pos).toInt else (c - pos).toInt ≤ 0
    let num := s.fld (F.QEP_DIV_N k)
    let wire := s.fld (F.QEP_STAT_WIRE k)
    let faulty := fun (x : Nat) (t : State) => maskHas (t.fld (F.QEP_STAT_WIRE k)) x = true ∧ flagSet t 73 = true
      ∧ srcPending t (134 + 8 * k) = true ∧ (x < 2 → t.fldB (F.QEP_STAT_SPDV k) = false ∧ t.reg (R.QEP_SPD k) = 0)
    let diff := s.fldB (F.QEP_CTRL_DIFF k)
    let out := (vp - vn).natAbs < 150 ∨ vp + vn < 2 * 500 ∨ 2 * 4000 < vp + vn
    let long := 1000 * max 1 (s.fld (F.QEP_WCFG_WFT k)) ≤ held
    let now := s.dlk.dtime.toNat
    let calm := h.idxLater = false
    let timeout := h.hasEdge = false ∨ h.lastEdge.toNat + 10000 * max 1 (s.fld (F.QEP_SPCFG_SSTO k)) ≤ s.ltime.toNat
    let pulls := diff = false ∧ s.fldB (F.QEP_WCFG_PTEN k) = true ∧ h.pullAt.toNat + 1000000 ≤ now
    let loaded := maskHas lvl i.val = true ∧ h.lvlAt[i].toNat + 2000 ≤ now
    let jj : Fin 3 := ⟨j.val, by omega⟩
    let stuckable := h.lvlAt[jj].toNat + 1000000 * s.fld (F.QEP_WCFG_WLT k) ≤ now ∧ diff = false ∧ mode ≤ 1 ∧ s.fld (F.QEP_WCFG_WLT k) ≠ 0 ∧ maskHas lvl j.val = false
      ∧ s.fld (F.QEP_WCFG_WSTK k) ≤ h.otherEdges[j]
    (ck → calm → on = true → mode = 0 →
      ((a0, b0, a, b) ∈ steps → Runs goes (counts swap)) ∧ ((a, b, a0, b0) ∈ steps → Runs goes (counts (!swap)))
      ∧ (a = a0 → b = b0 → Runs goes still)
      ∧ (a ≠ a0 → b ≠ b0 → Runs goes (fun t => still t ∧ turn 4 135 t ∧ t.fldB (F.QEP_STAT_SPDV k) = false
          ∧ t.fld (F.QEP_STAT_NSEQ k) = 0 ∧ t.fld (F.QEP_ERR_QERR k) = satInc (s.fld (F.QEP_ERR_QERR k)) 1 12)))
    ∧ (ck → calm → on = true → mode = 1 → (a ≠ a0 → Runs goes (counts (decide (a = b) != swap))) ∧ (a = a0 → Runs goes still))
    ∧ (ck → calm → on = true → 2 ≤ mode → (a = true → a0 = false → Runs goes (counts (b != swap)))
        ∧ (a = false ∨ a0 = true → Runs goes still))
    ∧ (ck → calm → on = false → Runs goes still)
    ∧ (ck → calm → indexed → h.idxCond = false → Runs (exec (.indexEvent n z) s) (fun t => t.reg (R.QEP_ILATCH k) = pos
        ∧ t.reg (R.QEP_ILPREV k) = s.reg (R.QEP_ILATCH k) ∧ t.reg (R.QEP_ITS k) = BitVec.ofNat 36 at_.toNat
        ∧ t.fldB (F.QEP_STAT_IVAL k) = true ∧ (on = true → t.fldB (F.QEP_STAT_IREF k) = decide (1 ≤ h.idxN)) ∧ turn 3 128 t
        ∧ (on = true → 1 ≤ h.idxN → s.fld (F.QEP_CPR_CPR k) ≠ 0 →
            driftOk (pos - s.reg (R.QEP_ILATCH k)).toInt (s.fld (F.QEP_CPR_CPR k)) (s.fld (F.QEP_DTOL_DTOL k)) = false →
            t.fld (F.QEP_ERR_DRIFT k) = satInc (s.fld (F.QEP_ERR_DRIFT k)) 1 12 ∧ flagSet t 72 = true ∧ srcPending t (132 + 8 * k) = true)
        ∧ Only [R.QEP_STAT k, R.QEP_ILATCH k, R.QEP_ILPREV k, R.QEP_ITS k, R.QEP_FLG k, R.QEP_ERR k] [72]
            ((128 + 8 * k) :: (132 + 8 * k) :: hoistSrcs) s t))
    ∧ (ck → h.idxLater = true → Runs (exec (.indexEvent n (maskHas lvl 2)) s) (fun t => t.qep[n].idxLater = false))
    ∧ (ck → calm → ¬indexed ∨ h.idxCond = true → Runs (exec (.indexEvent n z) s) (fun t => Only [R.QEP_STAT k] [] [] s t))
    ∧ (ck → on = false ∨ ¬timeout → Runs (exec (.qepStandstill n) s) (fun t => t = s))
    ∧ (ck → on = true → timeout → Runs (exec (.qepStandstill n) s) (fun t => t.fldB (F.QEP_STAT_SPDV k) = false
        ∧ t.reg (R.QEP_SPD k) = 0 ∧ t.fld (F.QEP_STAT_NSEQ k) = 0
        ∧ (s.fldB (F.QEP_STAT_SPDV k) = true → srcPending t (133 + 8 * k) = true)
        ∧ Only [R.QEP_STAT k, R.QEP_SPD k] [] [133 + 8 * k] s t))
    ∧ (ck → decays → Runs (exec (.speedDecay n) s) (fun t => t.fldB (F.QEP_STAT_SPDD k) = true
        ∧ t.reg (R.QEP_SPD k) = signed wasBack ((2 * 65536000000 + e) / (2 * e)) ∧ Only [R.QEP_STAT k, R.QEP_SPD k] [] [] s t))
    ∧ (ck → ¬decays → Runs (exec (.speedDecay n) s) (fun t => t = s))
    ∧ (Accepts s rq (R.QEP_POS k) → Runs (exec (.qepPosWrite rq n v) s) (fun t => t.reg (R.QEP_POS k) = v
        ∧ t.fldB (F.QEP_STAT_IREF k) = false ∧ t.qep[n].idxN = 0
        ∧ Only ([R.QEP_POS k, R.QEP_STAT k] ++ [R.COM_STAT 0, R.COM_ANG 0, R.COM_ATS 0, R.COM_FBCNT 0, R.COM_STAT 1,
            R.COM_ANG 1, R.COM_ATS 1, R.COM_FBCNT 1]) [] [116, 117, 118] s t))
    ∧ (Accepts s rq (R.QEP_CMP k) → Runs (exec (.qepCmpWrite rq n false v) s) (fun t => t.reg (R.QEP_CMP k) = v
        ∧ (behindAt v (s.fldB (F.QEP_CMPCFG_CDIR k)) → turn 2 131 t) ∧ Only [R.QEP_CMP k, R.QEP_FLG k] [] [131 + 8 * k] s t))
    ∧ (Accepts s rq (R.QEP_CMPCFG k) → Runs (exec (.qepCmpWrite rq n true v) s) (fun t => t.fldB (F.QEP_CMPCFG_CEN k) = true
        ∧ t.reg (R.QEP_CMPCFG k) = ((v ||| 1) &&& 0x3FFFFF)
        ∧ (s.fldB (F.QEP_CMPCFG_CEN k) = false → behindAt cmp (t.fldB (F.QEP_CMPCFG_CDIR k)) → turn 2 131 t)
        ∧ Only [R.QEP_CMPCFG k, R.QEP_FLG k] [] [131 + 8 * k] s t))
    ∧ (Accepts s rq (R.QEP_DOCTL k) → s.fldB (F.QEP_DOCTL_DOEN k) = false → Runs (exec (.doen rq n v) s) (fun t =>
        t.fldB (F.QEP_DOCTL_DOEN k) = (decide (1 ≤ num) && decide (num ≤ s.fld (F.QEP_DIV_M k)))
          ∧ (1 ≤ num → num ≤ s.fld (F.QEP_DIV_M k) → t.qep[n].acc = 0 ∧ t.qep[n].qout = 0) ∧ Only [R.QEP_DOCTL k] [] [] s t))
    ∧ (ck → diff = true → out → long → maskHas wire i.val = false → Runs (exec (.wireFault n i vp vn held) s) (fun t => faulty i.val t
        ∧ t.fld (F.QEP_ERR_WIRE k) = satInc (s.fld (F.QEP_ERR_WIRE k)) 1 12 ∧ t.mem = s.mem ∧ t.cores = s.cores))
    ∧ (ck → diff = false ∨ ¬out ∨ ¬long ∨ maskHas wire i.val = true → Runs (exec (.wireFault n i vp vn held) s) (fun t => t = s))
    ∧ (ck → diff = true → ¬out → long → maskHas wire i.val = true → Runs (exec (.wireFaultClear n i vp vn held) s) (fun t =>
        maskHas (t.fld (F.QEP_STAT_WIRE k)) i.val = false ∧ t.mem = s.mem ∧ t.cores = s.cores))
    ∧ (ck → diff = false ∨ out ∨ ¬long ∨ maskHas wire i.val = false → Runs (exec (.wireFaultClear n i vp vn held) s) (fun t => t = s))
    ∧ (ck → ¬pulls → Runs (exec (.pullTest n low edge) s) (fun t => t = s))
    ∧ (ck → pulls → loaded → edge.getLsbD i.val = true → Runs (exec (.pullTest n low edge) s) (fun t =>
        maskHas (t.fld (F.QEP_STAT_LVL k)) i.val = false ∧ t.qep[n].pullFail[i] = h.pullFail[i] ∧ t.mem = s.mem ∧ t.cores = s.cores))
    ∧ (ck → pulls → loaded → edge.getLsbD i.val = false →
        Runs (exec (.pullTest n low edge) s) (fun t => t.mem = s.mem ∧ t.cores = s.cores
          ∧ (low.getLsbD i.val = false → maskHas (t.fld (F.QEP_STAT_WIRE k)) i.val = false ∧ t.qep[n].pullFail[i] = 0)
          ∧ (low.getLsbD i.val = true → h.pullFail[i] = 0 → t.qep[n].pullFail[i] = 1
              ∧ maskHas (t.fld (F.QEP_STAT_WIRE k)) i.val = maskHas wire i.val)
          ∧ (low.getLsbD i.val = true → 1 ≤ h.pullFail[i] → maskHas wire i.val = false → faulty i.val t)))
    ∧ (ck → stuckable → maskHas wire j.val = false → Runs (exec (.stuckLowCheck n j) s) (fun t => faulty j.val t
        ∧ t.mem = s.mem ∧ t.cores = s.cores))
    ∧ (ck → ¬stuckable → Runs (exec (.stuckLowCheck n j) s) (fun t => t = s))

/-- R363 to R367, R369, R372: pulses and line faults of a SENT receiver, its enable, and the sensor supplies. -/
def Obligations.SentAndSupplies : Prop :=
  ∀ (s : State) (r : Fin 4) (p status : Nat) (data : List Nat) (rq : Req) (v : Word) (i : Fin 4) (kind : Fin 3),
    let k := r.val
    let ck := clocked s = true
    let h := s.sent[r]
    let nominal := 56 * 100 * s.fld (F.SENT_CFG_TICK k)
    let calOk := 8 * nominal ≤ 10 * p ∧ 10 * p ≤ 12 * nominal
    let ticks := (112 * p + h.tc) / (2 * h.tc)
    let nibble := 12 ≤ ticks ∧ ticks ≤ 27
    let goes := exec (.sentPulse r p) s
    let fails := fun (code : Nat) (cnt : Nat → Fld) (t : State) => t.fld (F.SENT_STAT_ERRC k) = code
      ∧ t.fld (cnt k) = satInc (s.fld (cnt k)) 1 8 ∧ t.fldB (F.SENT_STAT_SYNC k) = false ∧ flagSet t 74 = true
      ∧ srcPending t (160 + k) = true ∧ t.sent[r].phase = .search ∧ Only [R.SENT_STAT k, R.SENT_ERR k] [74] ((160 + k) :: hoistSrcs) s t
    let begins := fun (ref : Bool) (t : State) => t.fldB (F.SENT_STAT_SYNC k) = true ∧ t.sent[r].phase = .nibbles
      ∧ t.sent[r].tc = p ∧ t.sent[r].refFrame = ref ∧ t.sent[r].nibs = []
      ∧ t.sent[r].calStart = s.ltime - BitVec.ofNat 72 (100 * s.fld (F.SENT_CFG_SFT k)) - BitVec.ofNat 72 p ∧ Only [R.SENT_STAT k] [] [] s t
    let now := s.dlk.dtime.toNat
    let tick := 100 * s.fld (F.SENT_CFG_TICK k)
    let gone := fun (low : Bool) (code : Nat) => h.edgeAt.toNat + (if low then 100 * tick - 100 * s.fld (F.SENT_CFG_SFT k)
      else 1000 * tick) ≤ now ∧ s.fld (F.SENT_STAT_LINE k) ≠ code
    let value := fun (l : List Nat) => l.foldl (fun x y => 16 * x + y) 0
    let split := s.fldB (F.SENT_CFG_SPLIT k)
    let crc := sentCrc4 (s.fldB (F.SENT_CFG_CRCV k)) data
    let arg := fun (f : Nat → Fld) => getBits v (f k).lo (f k).w
    let cfgOk := 30 ≤ arg F.SENT_CFG_TICK ∧ arg F.SENT_CFG_TICK ≤ 900 ∧ 3 ≤ arg F.SENT_CFG_NIB ∧ arg F.SENT_CFG_NIB ≤ 6
      ∧ arg F.SENT_CFG_PAUSE ≤ 1 ∧ arg F.SENT_CFG_SER ≠ 3 ∧ (arg F.SENT_CFG_SPLIT = 1 → arg F.SENT_CFG_NIB = 6)
    let sup := fun (t : State) => getBits (t.reg R.SENT_SUPSTAT) (3 * i.val) 3
    let auto := maskHas (s.fld F.SENT_SUPCTRL_AUTOR) i.val
    let code := kind.val + 2
    let healed := (sup s = 2 ∧ s.sent[i].supAt.toNat + 10000000 ≤ now) ∨ (sup s = 4 ∧ s.sent[i].supAt.toNat + 100000 ≤ now)
    let supplies := [R.SENT_SUPSTAT, R.SENT_SUPCNT]
    (ck → s.fldB (F.SENT_CFG_EN k) = true →
      (h.phase = .search → calOk → Runs goes (begins true))
      ∧ (h.phase = .search → ¬calOk → Runs goes (fun t => t.sent[r] = { h with edgeAt := s.dlk.dtime }
          ∧ Only [R.SENT_STAT k] [] [] s t))
      ∧ (h.phase = .nibbles → nibble → h.nibs.length + 1 < s.fld (F.SENT_CFG_NIB k) + 2 → Runs goes (fun t =>
          t.sent[r].nibs = h.nibs ++ [ticks - 12] ∧ t.sent[r].phase = .nibbles ∧ Only [R.SENT_STAT k] [] [] s t))
      ∧ (h.phase = .nibbles → h.nibs = status :: data → data.length = s.fld (F.SENT_CFG_NIB k) → nibble →
        (ticks - 12 = crc → Runs goes (fun t => t.sent[r].nibs = [] ∧ t.mem = s.mem ∧ t.cores = s.cores
          ∧ t.sent[r].phase = (if s.fld (F.SENT_CFG_PAUSE k) = 1 then .pause else .calib)
          ∧ (h.refFrame = true → t.reg (R.SENT_FC k) = s.reg (R.SENT_FC k))
          ∧ (h.refFrame = false → t.reg (R.SENT_TS k) = BitVec.ofNat 36 h.calStart.toNat ∧ t.sent[r].tsAt = h.calStart ∧ t.fldB (F.SENT_STAT_FCV k) = true
              ∧ srcPending t (152 + k) = true
              ∧ t.reg (R.SENT_FC k) = BitVec.ofNat 36 (value (if split then data.take 3 else data) + status * 2 ^ 24)
              ∧ t.reg (R.SENT_FC2 k) = BitVec.ofNat 36 (if split then value (data.drop 3).reverse else 0))))
        ∧ (ticks - 12 ≠ crc → Runs goes (fails 5 F.SENT_ERR_CRC)))
      ∧ (h.phase = .nibbles → ¬nibble → calOk → Runs goes (fails 4 F.SENT_ERR_NIBL))
      ∧ (h.phase = .nibbles → ¬nibble → ¬calOk → Runs goes (fails 3 F.SENT_ERR_NIBL))
      ∧ (h.phase = .pause → 12 ≤ ticks → ticks ≤ 768 → Runs goes (fun t => t.sent[r].phase = .calib ∧ Only [R.SENT_STAT k] [] [] s t))
      ∧ (h.phase = .pause → ¬(12 ≤ ticks ∧ ticks ≤ 768) → Runs goes (fails 6 F.SENT_ERR_NIBL))
      ∧ (h.phase = .calib → calOk → 64 * ((p : Int) - h.tc).natAbs ≤ h.tc → Runs goes (begins false))
      ∧ (h.phase = .calib → calOk → h.tc < 64 * ((p : Int) - h.tc).natAbs → Runs goes (fails 2 F.SENT_ERR_CAL))
      ∧ (h.phase = .calib → ¬calOk → ¬nibble → Runs goes (fails 1 F.SENT_ERR_CAL))
      ∧ (h.phase = .calib → ¬calOk → nibble → Runs goes (fails 4 F.SENT_ERR_NIBL)))
    ∧ (ck → s.fldB (F.SENT_CFG_EN k) = false → Runs goes (fun t => t = s))
    ∧ (ck → s.fldB (F.SENT_CFG_EN k) = true →
      (gone true 2 → Runs (exec (.sentLineFault r true) s) (fun t => t.fld (F.SENT_STAT_LINE k) = 2 ∧ fails 7 F.SENT_ERR_NIBL t))
      ∧ (gone false 1 → Runs (exec (.sentLineFault r false) s) (fun t => t.fld (F.SENT_STAT_LINE k) = 1 ∧ fails 7 F.SENT_ERR_NIBL t))
      ∧ (¬gone true 2 → Runs (exec (.sentLineFault r true) s) (fun t => t = s))
      ∧ (¬gone false 1 → Runs (exec (.sentLineFault r false) s) (fun t => t = s)))
    ∧ (ck → s.fld (F.SENT_STAT_LINE k) = 2 → Runs (exec (.sentLineHigh r) s) (fun t => t.fld (F.SENT_STAT_LINE k) = 0
        ∧ Only [R.SENT_STAT k] [] [] s t))
    ∧ (Accepts s rq (R.SENT_CFG k) → s.fldB (F.SENT_CFG_EN k) = false → bit v 0 = true → Runs (exec (.sentEnable rq r v) s) (fun t =>
        (cfgOk → t.fldB (F.SENT_CFG_EN k) = true ∧ t.fldB (F.SENT_STAT_CFGERR k) = false ∧ t.fldB (F.SENT_STAT_FCV k) = false
          ∧ t.fldB (F.SENT_STAT_SMV k) = false ∧ t.sent[r].phase = .search)
        ∧ (¬cfgOk → t.fldB (F.SENT_CFG_EN k) = false ∧ t.fldB (F.SENT_STAT_CFGERR k) = true)
        ∧ t.fld (F.SENT_CFG_TICK k) = arg F.SENT_CFG_TICK ∧ Only [R.SENT_CFG k, R.SENT_STAT k] [] [] s t))
    ∧ (Accepts s rq (R.SENT_CFG k) → bit v 0 = false → Runs (exec (.sentEnable rq r v) s) (fun t =>
        t.fldB (F.SENT_CFG_EN k) = false ∧ t.fldB (F.SENT_STAT_SYNC k) = false ∧ Only [R.SENT_CFG k, R.SENT_STAT k] [] [] s t))
    ∧ (ck → sup s ≠ 0 → sup s ≠ 5 → sup s ≠ code → (code = 3 → sup s = 1) → Runs (exec (.sensorSupplyFault i kind true) s) (fun t =>
        sup t = (if code ≠ 3 ∧ auto = false then 5 else code) ∧ flagSet t 75 = true ∧ srcPending t 164 = true
          ∧ getBits (t.reg R.SENT_SUPCNT) (8 * i.val) 8 = satInc (getBits (s.reg R.SENT_SUPCNT) (8 * i.val) 8) 1 8
          ∧ Only supplies [75] (164 :: hoistSrcs) s t))
    ∧ (ck → sup s = 3 → Runs (exec (.sensorSupplyFault i 1 false) s) (fun t => sup t = 1 ∧ Only supplies [] [] s t))
    ∧ (ck → healed → auto = true → Runs (exec (.sensorSupplyRetry i) s) (fun t => sup t = 1 ∧ Only supplies [] [] s t))
    ∧ (ck → auto = false ∨ ¬healed → Runs (exec (.sensorSupplyRetry i) s) (fun t => t = s))

/-- R377 to R388: the tick of the safety inputs, the test pulses, the output tests and overloads, the enable and OCLR.
-/
def Obligations.SafetyInputsAndOutputs : Prop :=
  ∀ (s : State) (pins : BitVec 16) (c : Fin 16) (i : Fin 8) (k n : Fin 4) (rq : Req) (v : Word) (clear : BitVec 4),
    let ck := clocked s = true
    let up := fun (f : Fld) (x : Nat) (t : State) => maskHas (t.fld f) x = true
    let down := fun (f : Fld) (x : Nat) (t : State) => maskHas (t.fld f) x = false
    let seen := pins.getLsbD c.val != chanPol c s
    let deb := s.fld (F.SIO_ICFG_DEB (c.val % 8))
    let input := fun (t : State) (x : Fin 16) => t.sio.acc.getLsbD x.val && !t.sio.forced.getLsbD x.val
    let a := fun (t : State) => input t (chanA i)
    let b := fun (t : State) => input t (chanB i)
    let pair := s.fldB (F.SIO_ICFG_PEN i.val) = true
    let open_ := chanMasked (chanA i) s = false ∧ chanMasked (chanB i) s = false
    let latched := maskHas (s.fld F.SIO_IRES_DLAT) i.val
    let due := s.fld (F.SIO_ICFG_DISCT i.val) ≤ s.sio.disc[i] + 1
    let kept := fun (t : State) => t.mem = s.mem ∧ t.cores = s.cores
    let win := maskHas (s.fld F.SIO_TPSTAT_WIN) k.val
    let tpen := s.fldB F.SIO_CTRL_TPEN
    let last := s.sio.last.getLsbD c.val
    let inTest := maskHas (s.fld F.SIO_OSTAT_INTEST) n.val
    let cmd := maskHas (s.fld F.SIO_OSTAT_CMD) n.val
    let lt := s.ltime.toNat
    let tick := lt % 100000 < 3 ∧ s.sio.tickAt ≠ some (BitVec.ofNat 72 (lt / 100000 * 100000))
    let past := fun (w ph : Nat) => (lt - ph * w * 250000) % (w * 1000000)
    let at_ := fun (w ph : Nat) (was : Option DWord) => ph * w * 250000 ≤ lt ∧ past w ph < 3
      ∧ was ≠ some (BitVec.ofNat 72 (lt - past w ph))
    let starts := tpen = true ∧ at_ (s.fld F.SIO_TPCFG_TPPER) k.val s.sio.tpAt[k]
    let tpAt := (s.sio.tpAt[k]).getD 0
    let tpSince := fun (w : Nat) => s.sio.tpAt[k] ≠ none ∧ (tpAt.toNat + w ≤ lt ∨ lt < tpAt.toNat)
    let otSince := fun (w : Nat) => s.sio.otAt[n] ≠ none ∧ ((s.sio.otAt[n].getD 0).toNat + w ≤ lt ∨ lt < (s.sio.otAt[n].getD 0).toNat)
    let ended := win = true ∧ tpSince (1000 * s.fld F.SIO_TPCFG_TPW)
    let checked := win = true ∧ tpSince (1000 * s.fld F.SIO_TPCFG_TPW - 5000) ∧ maskHas s.sio.tpDone k.val = false
    let testable := s.fldB (F.SIO_OCFG_OTEN n.val) = true ∧ cmd = true ∧ inTest = false
      ∧ at_ (s.fld F.SIO_OTCFG_OTPER) n.val s.sio.otAt[n]
    let fault := fun (t : State) => flagSet t 77 = true
    let judged := inTest = true ∧ otSince (1000 * s.fld F.SIO_OTCFG_OTW - 5000) ∧ maskHas s.sio.otDone n.val = false
    let stuck := judged ∧ maskHas s.sio.discard n.val = false
    (ck → ¬tick → Runs (exec (.sioTick pins) s) (fun t => t = s))
    ∧ (ck → tick → s.fldB F.SIO_CTRL_EN = true → Runs (exec (.sioTick pins) s) (fun t => kept t ∧ srcPending t 168 = true
        ∧ (chanMasked c s = true → t.sio.acc.getLsbD c.val = s.sio.acc.getLsbD c.val ∧ t.sio.run[c] = s.sio.run[c])
        ∧ (chanMasked c s = false → t.sio.last.getLsbD c.val = seen
            ∧ (seen = s.sio.acc.getLsbD c.val → t.sio.acc.getLsbD c.val = seen ∧ t.sio.run[c] = 0)
            ∧ (seen ≠ s.sio.acc.getLsbD c.val → deb ≤ s.sio.run[c] → t.sio.acc.getLsbD c.val = seen ∧ t.sio.run[c] = 0)
            ∧ (seen ≠ s.sio.acc.getLsbD c.val → s.sio.run[c] < deb → t.sio.acc.getLsbD c.val = s.sio.acc.getLsbD c.val
                ∧ t.sio.run[c] = s.sio.run[c] + 1))
        ∧ maskHas (t.fld F.SIO_IRES_RES) i.val = (s.fldB (F.SIO_ICFG_PEN i.val) && a t && b t && !maskHas (t.fld F.SIO_IRES_DLAT) i.val)
        ∧ (t.fld F.SIO_IRES_RES ≠ s.fld F.SIO_IRES_RES → srcPending t 169 = true)
        ∧ (pair → latched = false → open_ → a t ≠ b t → due → up F.SIO_IRES_DLAT i.val t ∧ up F.SIO_FLT_DISCP i.val t
            ∧ flagSet t 76 = true ∧ srcPending t 170 = true)
        ∧ (pair → latched = false → open_ → a t ≠ b t → ¬due → down F.SIO_IRES_DLAT i.val t ∧ t.sio.disc[i] = s.sio.disc[i] + 1)
        ∧ (pair → latched = false → open_ → a t = b t → down F.SIO_IRES_DLAT i.val t)
        ∧ (pair → latched = true → a t = false → b t = false → up F.SIO_IRES_DLAT i.val t ∧ up F.SIO_IRES_STG1 i.val t)
        ∧ (pair → latched = true → a t = true → b t = true → maskHas (s.fld F.SIO_IRES_STG1) i.val = true →
            down F.SIO_IRES_DLAT i.val t ∧ srcPending t 171 = true)
        ∧ (pair → latched = true → a t ≠ b t → up F.SIO_IRES_DLAT i.val t)))
    ∧ (ck → tick → s.fldB F.SIO_CTRL_EN = false → Runs (exec (.sioTick pins) s) (fun t => t.sio.acc = s.sio.acc ∧ t.sio.run = s.sio.run
        ∧ (∀ x : Fin 4, maskHas (t.fld F.SIO_OSTAT_CMD) x.val = outputValue x.val s)
        ∧ Only [R.SIO_OSTAT] [] [176] s t))
    ∧ (ck → tick → s.fldB F.SIO_CTRL_EN = true → Runs (exec (.sioTick pins) s) (fun t =>
        ∀ x : Fin 4, maskHas (t.fld F.SIO_OSTAT_CMD) x.val = outputValue x.val t))
    ∧ (ck → starts → Runs (exec (.testPulseStart k) s) (fun t => down F.SIO_TPSTAT_LVL k.val t ∧ up F.SIO_TPSTAT_WIN k.val t
        ∧ t.sio.tpAt[k] = some (BitVec.ofNat 72 (lt - past (s.fld F.SIO_TPCFG_TPPER) k.val)) ∧ Only [R.SIO_TPSTAT] [] [] s t))
    ∧ (ck → ¬starts → Runs (exec (.testPulseStart k) s) (fun t => t = s))
    ∧ (ck → preDue k s ≠ none →
      Runs (exec (.tpoPreCheck k true) s) (fun t => t.sio.preFail[k] = false ∧ Only [] [] [] s t)
      ∧ Runs (exec (.tpoPreCheck k false) s) (fun t => t.sio.preFail[k] = true ∧ up F.SIO_FLT_TPOF k.val t ∧ fault t
          ∧ srcPending t 173 = true ∧ (chanTps c s = k.val → t.sio.forced.getLsbD c.val = true)
          ∧ Only [R.SIO_FLT] [77] (173 :: 177 :: hoistSrcs) s t))
    ∧ (ck → preDue k s = none → Runs (exec (.tpoPreCheck k false) s) (fun t => t = s))
    ∧ (tpen = false → preDue k s = none)
    ∧ ((preDue k s).all fun x => decide (lt < x.toNat ∧ x.toNat ≤ lt + 5000 ∨ 2 ^ 71 ≤ lt))
    ∧ (ck → ended → Runs (exec (.testPulseEnd k) s) (fun t => down F.SIO_TPSTAT_WIN k.val t ∧ maskHas (t.fld F.SIO_TPSTAT_LVL) k.val = tpen
        ∧ t.sio.winEnd[k] = some (tpAt + BitVec.ofNat 72 (1000 * s.fld F.SIO_TPCFG_TPW + 1000 * s.fld F.SIO_TPCFG_TPSET))
        ∧ Only [R.SIO_TPSTAT] [] [] s t))
    ∧ (ck → checked →
      Runs (exec (.testPulseCheck k true pins) s) (fun t => t.sio.preFail[k] = false
          ∧ (chanTps c s = k.val → last = true → pins.getLsbD c.val = true → t.sio.forced.getLsbD c.val = true ∧ fault t
              ∧ srcPending t 172 = true ∧ (c.val < 8 → up F.SIO_FLT_TPFA c.val t) ∧ (8 ≤ c.val → up F.SIO_FLT_TPFB (c.val - 8) t))
          ∧ (chanTps c s = k.val → last = false ∨ pins.getLsbD c.val = false → s.sio.preFail[k] = false →
              t.sio.forced.getLsbD c.val = false)
          ∧ (chanTps c s ≠ k.val → t.sio.forced.getLsbD c.val = s.sio.forced.getLsbD c.val)
          ∧ Only [R.SIO_FLT, R.SIO_TPFCNT] [77] (172 :: hoistSrcs) s t)
      ∧ Runs (exec (.testPulseCheck k false pins) s) (fun t => up F.SIO_FLT_TPOF k.val t ∧ fault t ∧ srcPending t 173 = true
          ∧ (chanTps c s = k.val → t.sio.forced.getLsbD c.val = true) ∧ kept t))
    ∧ (ck → ¬ended → Runs (exec (.testPulseEnd k) s) (fun t => t = s))
    ∧ (ck → ¬checked → Runs (exec (.testPulseCheck k false pins) s) (fun t => t = s))
    ∧ (ck → testable → Runs (exec (.outputTestPulse n) s) (fun t => up F.SIO_OSTAT_INTEST n.val t
        ∧ t.dlk.soPend.getLast? = some (n.val, false) ∧ Only [R.SIO_OSTAT] [] [] s t))
    ∧ (ck → ¬testable → Runs (exec (.outputTestPulse n) s) (fun t => t = s))
    ∧ (ck → stuck → Runs (exec (.outputTestCheck n true) s) (fun t => up F.SIO_FLT_OSTK n.val t ∧ fault t
        ∧ srcPending t 174 = true ∧ maskHas t.sio.stuck n.val = true ∧ down F.SIO_OSTAT_CMD n.val t ∧ kept t))
    ∧ (ck → judged → ¬stuck → Runs (exec (.outputTestCheck n true) s) (fun t => maskHas t.sio.otDone n.val = true ∧ Only [] [] [] s t))
    ∧ (ck → judged → Runs (exec (.outputTestCheck n false) s) (fun t => maskHas t.sio.otDone n.val = true ∧ Only [] [] [] s t))
    ∧ (ck → ¬judged → Runs (exec (.outputTestCheck n true) s) (fun t => t = s) ∧ Runs (exec (.outputTestCheck n false) s) (fun t => t = s))
    ∧ (ck → inTest = false ∨ ¬otSince (1000 * s.fld F.SIO_OTCFG_OTW) → Runs (exec (.outputTestPulseEnd n) s) (fun t => t = s))
    ∧ (ck → inTest = true → otSince (1000 * s.fld F.SIO_OTCFG_OTW) → Runs (exec (.outputTestPulseEnd n) s) (fun t => down F.SIO_OSTAT_INTEST n.val t
        ∧ (cmd = true → t.dlk.soPend.getLast? = some (n.val, true)) ∧ (cmd = false → t.dlk = s.dlk) ∧ Only [R.SIO_OSTAT] [] [] s t))
    ∧ (ck → maskHas s.die.soCmd n.val = false → Runs (exec (.outputOverload n) s) (fun t => t = s))
    ∧ (ck → maskHas s.die.soCmd n.val = true → Runs (exec (.outputOverload n) s) (fun t => up F.SIO_FLT_OOVL n.val t ∧ maskHas t.sio.ovl n.val = true
        ∧ srcPending t 175 = true ∧ down F.SIO_OSTAT_CMD n.val t ∧ kept t))
    ∧ (Accepts s rq R.SIO_CTRL → s.fldB F.SIO_CTRL_EN = false → Runs (exec (.sioEnable rq v) s) (fun t => kept t
        ∧ t.fldB F.SIO_CTRL_EN = sioConfigOk s ∧ t.fldB F.SIO_STAT_CFGERR = !sioConfigOk s
        ∧ t.fldB F.SIO_CTRL_TPEN = bit v 1 ∧ t.fldB F.SIO_CTRL_OEN = bit v 2))
    ∧ (Accepts s rq R.SIO_CMD → Runs (exec (.oclr rq clear) s) (fun t => kept t ∧ ∀ x, x < 4 →
        maskHas t.sio.stuck x = (maskHas s.sio.stuck x && !clear.getLsbD x)
          ∧ maskHas t.sio.ovl x = (maskHas s.sio.ovl x && !clear.getLsbD x)))

/-! The Rosmel node -/

/-- R406, R417, R422 to R425, R431, R432, R436, R438, R439, R444, R446, R448: the node on and off, its ports and their
link frames, mode requests, and the timeouts of LISTEN. -/
def Obligations.NodeAndPorts : Prop :=
  ∀ (s : State) (rq : Req) (v : Word) (p : Fin 2) (f : RFrame) (start : Nat) (mode : BitVec 3),
    let ck := clocked s = true
    let st := fun (t : State) => t.fld F.NCE_TSTAT_RSTATE
    let ps := fun (t : State) => t.fld (if p = 0 then F.NCE_STAT_PST0 else F.NCE_STAT_PST1)
    let pst0 := s.fld F.NCE_STAT_PST0
    let pst1 := s.fld F.NCE_STAT_PST1
    let kept := fun (t : State) => t.mem = s.mem ∧ t.cores = s.cores
    let open_ := fun (x k : Nat) => x ≠ 0 ∧ x ≠ 3 ∧ x ≠ 4 ∧ s.fldB (F.NCE_LDLY_V k) = false
    let samePorts := s.fldB F.NCE_CTRL_PEN0 = bit v 1 ∧ s.fldB F.NCE_CTRL_PEN1 = bit v 2
    let wraps := fun (t : State) => ps t = 4 ∧ maskHas (t.fld F.NCE_STAT_WRAP) p.val = true ∧ flagSet t 81 = true
      ∧ srcPending t (194 + p.val) = true ∧ srcPending t 196 = true ∧ t.fld F.NCE_LOOPCNT_CNT = satInc (s.fld F.NCE_LOOPCNT_CNT) 1 16
      ∧ t.fldB F.NCE_STAT_POSV0 = false ∧ t.fldB F.NCE_STAT_POSV1 = false ∧ kept t
    let goesDown := fun (i : Instr) => (ps s = 0 → Runs (exec i s) (fun t => ps t = 0 ∧ Only [] [] [] s t))
      ∧ (ps s ≠ 0 → st s = 0 → Runs (exec i s) (fun t => ps t = 3 ∧ Only [R.NCE_STAT] [] [] s t))
      ∧ (ps s ≠ 0 → ps s ≠ 4 → st s ≠ 0 → Runs (exec i s) wraps)
    let now := BitVec.ofNat 36 (8 * s.nce.ntime.toNat)
    let sync := b2n (decide (st s = 5) || decide (st s = 6))
    let echo := (s.nce.port[p].echo).getD (0, 0)
    let sends := fun (w0 w1 : Nat) (x : Nat × RFrame) => x.1 = p.val
      ∧ x.2.payload = [BitVec.ofNat 36 w0, BitVec.ofNat 36 w1, now, echo.1, echo.2]
    let hears := st s ≠ 0 ∧ (ps s = 2 ∨ ps s = 4)
    let good := fun (ty : Nat) => headFail p f s = none ∧ fcsOk f = true ∧ frFid f = 0 ∧ getBits (frW f 0) 0 4 = ty
    let t4 := BitVec.ofNat 36 start
    let near := fun (x : BitVec 36) => (t4 - x).toNat ≤ 8000000
    let echoed := fun (t : State) => t.nce.port[p].echo = some (frW f 2, t4) ∧ kept t
    let may := s.fldB F.HAL_STAT_ENSIGN = true ∧ st s = 5 ∧ (mode = 0 ∨ maskHas (s.fld F.NCE_MCFG_MEN) mode.toNat = true)
      ∧ mode.toNat ≠ s.fld F.NCE_MODE_ACT ∧ s.fldB F.NCE_MODE_RQV = false ∧ s.fldB F.NCE_MODE_NXV = false
    let expired := s.fldB F.NCE_MODE_RQV = true ∧ s.fldB F.NCE_MODE_NXV = false ∧ 3 ≤ s.fld F.NCE_VER_OPMIN
      ∧ max 2 (s.fld F.NCE_MCFG_MRTO) ≤ s.fld F.NCE_MODE_RQAGE
    let candidate := (s.fldB F.NCE_CAND_V0 = true ∧ s.fld F.NCE_CAND_ID0 = s.fld F.NCE_NODE_NODE)
      ∨ (s.fldB F.NCE_CAND_V1 = true ∧ s.fld F.NCE_CAND_ID1 = s.fld F.NCE_NODE_NODE)
      ∨ (s.fldB F.NCE_CAND_V2 = true ∧ s.fld F.NCE_CAND_ID2 = s.fld F.NCE_NODE_NODE)
    let starts := st s = 2 ∧ candidate ∧ s.fldB F.NCE_TSTAT_CSINH = false ∧ s.nce.verAt = none
      ∧ s.nce.heardAt.toNat + 2000 * s.fld F.NCE_CYC1_TCYC + 100 * s.fld F.NCE_NODE_NODE * s.fld F.NCE_CYC2_SL ≤ s.dlk.dtime.toNat
    let tcyc := 8000 * s.fld F.NCE_CYC1_TCYC
    let span := fun (x : Nat × Nat) => x.1 ≤ nowQ s ∧ nowQ s < x.2
    let idle := ¬span s.nce.port[p].ownSpan ∧ ¬span s.nce.port[p].fwdSpan
    let since := fun (x : Option DWord) (ns : Nat) => x.all fun y => decide (y.toNat + ns ≤ s.dlk.dtime.toNat)
    let asks := st s ≠ 0 ∧ ps s = 2 ∧ (sync = 1 → s.nce.port[p].dreqIn = false ∧ tcyc ≤ inCycle s + 240000 ∧ inCycle s < tcyc)
      ∧ (sync = 0 → idle ∧ since s.nce.port[p].dreqAt 100000)
    let loops := ps s = 4 ∧ inCycle s + 160000 < tcyc ∧ since s.nce.port[p].loopAt 10000
    let holds := st s = 2 ∧ s.nce.verAt.any fun y => decide (y.toNat + 2000 * s.fld F.NCE_CYC1_TCYC ≤ s.dlk.dtime.toNat)
    (Accepts s rq R.NCE_CTRL → s.fldB F.NCE_CTRL_EN = false → samePorts →
      (nceConfigOk s = true → Runs (exec (.nceEnable rq v) s) (fun t => t.fldB F.NCE_CTRL_EN = true
        ∧ t.fldB F.NCE_STAT_CFGERR = false ∧ st t = (if open_ pst0 0 ∨ open_ pst1 1 then 1 else 2) ∧ kept t))
      ∧ (nceConfigOk s = false → Runs (exec (.nceEnable rq v) s) (fun t => t.fldB F.NCE_CTRL_EN = false
          ∧ t.fldB F.NCE_STAT_CFGERR = true ∧ st t = st s ∧ Only [R.NCE_CTRL, R.NCE_STAT] [] [] s t)))
    ∧ (Accepts s rq R.NCE_CTRL → s.fldB F.NCE_CTRL_EN = true → samePorts → Runs (exec (.nceDisable rq v) s) (fun t =>
        t.fldB F.NCE_CTRL_EN = false ∧ st t = 0 ∧ t.fldB F.NCE_TSTAT_GVAL = false ∧ t.fldB F.NCE_TSTAT_ISG = false
          ∧ t.fldB F.NCE_TSTAT_CSINH = false ∧ t.fldB F.NCE_MODE_RQV = false ∧ t.fldB F.NCE_MODE_NXV = false
          ∧ t.fld F.NCE_MODE_ACT = s.fld F.NCE_MODE_ACT ∧ (ps s = 4 → ps t = if s.nce.port[p].rxOk then 2 else 3) ∧ kept t))
    ∧ (Accepts s rq R.NCE_CMD → (p = 0 → goesDown (.wrap0 rq)) ∧ (p = 1 → goesDown (.wrap1 rq))
        ∧ Runs (exec (.nceUnwrap rq) s) (fun t => t.nce.port[p].unwReq = (s.nce.port[p].unwReq || decide (ps s = 4))
            ∧ Only [] [] [] s t))
    ∧ (ck → goesDown (.portDown p))
    ∧ (ck → ps s ≠ 0 → Runs (exec (.portUp p) s) (fun t => t.nce.port[p].rxOk = true ∧ t.nce.port[p].okCycles = 0
        ∧ ps t = (if ps s = 1 ∨ ps s = 3 then 2 else ps s) ∧ Only [R.NCE_STAT] [] [] s t))
    ∧ (ck → ps s = 0 → Runs (exec (.portUp p) s) (fun t => t = s))
    ∧ (ck → asks → Runs (exec (.delayRequestSend p) s) (fun t => Only [] [] [] s t
        ∧ (s.nce.port[p].dresp = false → ∃ x, t.nce.out = [x] ∧ sends 2 (2 * sync) x)
        ∧ (s.nce.port[p].dresp = true → t.nce.port[p].dresp = false ∧ ∃ x y, t.nce.out = [x, y] ∧ sends 3 (2 * sync) x
            ∧ sends 2 (2 * sync) y)))
    ∧ (ck → ¬asks → Runs (exec (.delayRequestSend p) s) (fun t => t = s))
    ∧ (ck → loops → Runs (exec (.loopedSend p) s) (fun t => Only [] [] [] s t
        ∧ ∃ x, t.nce.out = [x] ∧ sends 1 (b2n (ownReady s p) + 2 * sync) x))
    ∧ (ck → ¬loops → Runs (exec (.loopedSend p) s) (fun t => t = s))
    ∧ (ck → hears → good 1 → (ps s = 2 → Runs (exec (.looped p f start) s) (fun t => ps t = 4 ∧ flagSet t 81 = true ∧ echoed t))
        ∧ (ps s = 4 → sync = 1 → Runs (exec (.looped p f start) s) (fun t => ps t = 4 ∧ echoed t
            ∧ t.nce.port[p].ready = (s.nce.port[p].ready || bit (frW f 1) 0)))
        ∧ (ps s = 4 → sync = 0 → bit (frW f 1) 0 = true → bit (frW f 1) 1 = false → ownReady s p = true →
            Runs (exec (.looped p f start) s) (fun t => ps t = 2 ∧ echoed t)))
    ∧ (ck → hears → good 2 → Runs (exec (.dreq p f start) s) (fun t => echoed t
        ∧ (ps s = 2 → sync = 1 → t.nce.port[p].dresp = true)
        ∧ (ps s = 2 → sync = 0 → ¬idle → t.nce.port[p].dresp = true ∧ t.nce.out = s.nce.out)
        ∧ (ps s = 2 → sync = 0 → idle → ∃ x, t.nce.out = [x] ∧ x.1 = p.val ∧ x.2.payload.head? = some 3)
        ∧ (ps s = 4 → t.nce.out = s.nce.out ∧ t.nce.port[p].dresp = s.nce.port[p].dresp)))
    ∧ (ck → hears → good 3 → Runs (exec (.dresp p f start) s) (fun t => echoed t
        ∧ (frW f 3 ∈ s.nce.port[p].txTimes → near (frW f 3) → t.nce.port[p].samples =
            (BitVec.ofNat 36 (((t4 - frW f 3) - (frW f 2 - frW f 4)).toNat / 2) :: s.nce.port[p].samples).take 8)))
    ∧ (ck → ¬hears → Runs (exec (.looped p f start) s) (fun t => t = s) ∧ Runs (exec (.dreq p f start) s) (fun t => t = s)
        ∧ Runs (exec (.dresp p f start) s) (fun t => t = s))
    ∧ (ck → st s ≠ 0 → Runs (exec (.noise p) s) (fun t => t.nce.port[p].noise = s.nce.port[p].noise + 1
        ∧ t.fld (F.NCE_ERR_NOISE p.val) = satInc (s.fld (F.NCE_ERR_NOISE p.val)) 1 12
        ∧ (s.nce.port[p].noise = 64 → srcPending t 193 = true) ∧ Only [R.NCE_ERR p.val] [] [193] s t))
    ∧ (Accepts s rq R.NCE_MREQ → (may → Runs (exec (.modeRequest rq mode) s) (fun t => t.fld F.NCE_MODE_RQ = mode.toNat
        ∧ t.fldB F.NCE_MODE_RQV = true ∧ t.fldB F.NCE_MODE_ORIG = true ∧ t.fldB F.NCE_MODE_MREF = false
        ∧ t.fld F.NCE_MODE_RQAGE = 0 ∧ Only [R.NCE_MODE] [] [] s t))
      ∧ (¬may → Runs (exec (.modeRequest rq mode) s) (fun t => t.fldB F.NCE_MODE_MREF = true
          ∧ t.fldB F.NCE_MODE_RQV = s.fldB F.NCE_MODE_RQV ∧ Only [R.NCE_MODE] [] [] s t)))
    ∧ (ck → expired → Runs (exec .modeRequestTimeout s) (fun t => t.fldB F.NCE_MODE_RQV = false
        ∧ t.fld F.NCE_TCNT_MFAIL = satInc (s.fld F.NCE_TCNT_MFAIL) 1 6 ∧ srcPending t 212 = true
        ∧ Only [R.NCE_MODE, R.NCE_TCNT] [] [212] s t))
    ∧ (ck → ¬expired → Runs (exec .modeRequestTimeout s) (fun t => t = s))
    ∧ (ck → starts → Runs (exec .listenTimeout s) (fun t => st t = 3 ∧ t.fld F.NCE_TSTAT_GUIDON = s.fld F.NCE_NODE_NODE
        ∧ t.fldB F.NCE_TSTAT_GVAL = true ∧ t.reg R.NCE_ADJ = 0 ∧ t.reg R.NCE_DRIFT = 0 ∧ t.fld F.NCE_MODE_ACT = 0
        ∧ srcPending t 205 = true ∧ Only [R.NCE_TSTAT, R.NCE_ADJ, R.NCE_DRIFT, R.NCE_MODE, R.NCE_OFS] [] [201, 205] s t))
    ∧ (ck → ¬starts → Runs (exec .listenTimeout s) (fun t => t = s))
    ∧ (ck → holds → Runs (exec .versionHoldTimeout s) (fun t => st t = 7 ∧ Only [R.NCE_TSTAT] [] [201] s t))
    ∧ (ck → ¬holds → Runs (exec .versionHoldTimeout s) (fun t => t = s))

/-- R405, R408 to R421, R434, R438 to R443, R447: a communication cycle of the node: its start, the frames it
assembles and sends, the minislots and the idle window, and the frames that arrive. -/
def Obligations.NodeCycle : Prop :=
  ∀ (s : State) (j : Fin 256) (a : Nat) (x : NceTx) (p : Fin 2) (f : RFrame) (start b : Nat) (hold : Fin 129) (e : Int) (u : State),
    let ck := clocked s = true
    let st := fun (t : State) => t.fld F.NCE_TSTAT_RSTATE
    let kept := fun (t : State) => t.mem = s.mem ∧ t.cores = s.cores
    let cyc := cycleNow s % 64
    let new := st s ≠ 0 ∧ s.nce.cycN < cycleNow s
    let c := s.nce.cur
    let win := s.fld F.NCE_WIN_WIN * 8
    let head := s.fld F.NCE_NODE_NODE = s.fld F.NCE_HEAD_HEAD
    let assembles := ownsSlot s j.val = true ∧ st s = 5 ∧ assemblyFor j.val s = some a ∧ assembled j.val a s = false
    let filled := bufferFor s 1 j.val (a / tcycQ s % 64)
    let isSync := schedSync s (s.fld F.NCE_MODE_ACT) j.val = true
    let goes := exec (.frameAssembly j) s
    let words := (List.range (s.fld (F.NCE_BCTL_LEN b))).map fun i => s.reg (R.NCE_BPAY b i)
    let ready := readyOf s b = true ∧ s.fld (F.NCE_BCTL_LEN b) ≤ 56 ∧ fitsSlot s (s.fld (F.NCE_BCTL_LEN b)) = true
    let nullFrame := fun (y : Option Nat) (t : State) => t.nce.tx = some ⟨a, j.val, y, none, false⟩
      ∧ t.fld F.NCE_CNT2_NULLT = satInc (s.fld F.NCE_CNT2_NULLT) 1 9 ∧ Only [R.NCE_CNT2] [] [] s t
    let out := outPort s
    let taken := s.nce.port[out].fwdSpan.1 ≤ nowQ s ∧ nowQ s < s.nce.port[out].fwdSpan.2
    let i := s.nce.mIdx
    let boundary := st s ≠ 0 ∧ i < s.fld F.NCE_CYC3_NMS ∧ ds0Q s + i * mslQ s ≤ inCycle s
    let idleDue := st s ≠ 0 ∧ s.fld F.NCE_CYCLE_SEG ≠ 3 ∧ ds0Q s + nms s * mslQ s ≤ inCycle s
    let missing := if st s = 5 ∨ st s = 6 then missingCommands s else 0
    let request := s.fld F.NCE_MODE_RQ
    let agreed := st s = 5 ∧ s.fldB F.NCE_MODE_RQV = true ∧ s.fldB F.NCE_MODE_NXV = false ∧ requestAgreed s request = true
    let frame := exec (.rosmelFrame p f start hold) s
    let rides := (st s = 5 ∨ st s = 6) ∧ pst s p = 2
    let passes := rides ∧ headFail p f s = none ∧ frFid f ≠ 0 ∧ frSrc f ≠ s.fld F.NCE_NODE_NODE ∧ guardFail p f start s = none
    let transit := min (frTransit f + s.fld (F.NCE_LDLY_D p.val) + (9536 + hold.val)) 0xFFFFFF
    let fp := forwardPort p s
    let begins := start + hold.val + 4416
    let own := s.nce.port[fp].ownSpan
    let sync := exec (.syncFrame p f start) s
    let valid := receives p s = true ∧ headerOk f = true ∧ frVmaj f = 2 ∧ admitted s (frSrc f) = true ∧ frSync f = true ∧ 3 ≤ f.payload.length
    let guide := bit (frW f 2) 6 = true ∧ getBits (frW f 2) 0 6 = frSrc f ∧ frSrc f ≠ s.fld F.NCE_NODE_NODE
    let ring : Nat := 8 * ((frW f 0).toNat * 2 ^ 36 + (frW f 1).toNat) + frTransit f + s.fld (F.NCE_LDLY_D p.val)
    let off := (start : Int) - (ring : Int)
    let old := s.fldI F.NCE_DRIFT_DRIFT
    let g := off - s.nce.ePrev - 8 * s.fldI F.NCE_ADJ_A
    let drift := if s.nce.meas = 0 then 0 else if s.nce.meas = 1 then g else old + (g - old) / 4
    let amax : Int := ((s.fld F.NCE_CYC1_TCYC / 2 : Nat) : Int)
    (ck → ¬new → Runs (exec .cycleStart s) (fun t => t = s))
    ∧ (ck → new → Runs (exec .cycleStart s) (fun t => t.nce.cycN = cycleNow s ∧ t.fld F.NCE_CYCLE_CYC = cyc ∧ t.fld F.NCE_CYCLE_SEG = 0
        ∧ srcPending t 184 = true ∧ t.nce.mIdx = 0 ∧ kept t
        ∧ (∀ y ∈ t.nce.tx, s.nce.tx = some y ∧ cycleNow s * tcycQ s ≤ y.at_)
        ∧ (st s = 1 ∨ st s = 2 ∨ st s = 7 → st t = st s)
        ∧ (st s = 4 → s.nce.intFull = true → c.gE = some e → e.natAbs ≤ win / 2 → head ∨ c.headOk = true →
            st t = 5 ∧ srcPending t 203 = true)
        ∧ (st s = 4 → s.nce.intFull = false → st t = 4)
        ∧ (st s = 4 → s.nce.intFull = true → c.gE = none → 1 ≤ s.nce.gMiss → st t = 2)
        ∧ (st s = 3 → s.nce.coldN = some 3 → c.ownBack = true → st t = 5 ∧ t.fldB F.NCE_TSTAT_ISG = true)
        ∧ (st s = 3 → s.nce.coldN = none → st t = 3 ∧ t.nce.coldN = some 0)
        ∧ (∀ k, st s = 3 → s.nce.coldN = some k → c.ownBack = false → 1 ≤ s.nce.ownMiss → st t = 2 ∧ srcPending t 206 = true)
        ∧ (st s = 5 → s.fldB F.NCE_TSTAT_ISG = false → c.gE = some e → win - 400 < e.natAbs → 2 ≤ s.fld F.NCE_TSTAT_OUTC →
            st t = 6 ∧ flagSet t 80 = true ∧ srcPending t 204 = true)
        ∧ (s.fldB F.NCE_MODE_NXV = true → cyc % 8 = 0 → t.fld F.NCE_MODE_ACT = s.fld F.NCE_MODE_NEXT
            ∧ t.fldB F.NCE_MODE_NXV = false ∧ srcPending t 211 = true)))
    ∧ (ck → assembles → isSync → Runs goes (fun t => t.nce.tx = some ⟨a, j.val, none, none, true⟩ ∧ Only [] [] [] s t))
    ∧ (ck → assembles → ¬isSync → filled = none → Runs goes (nullFrame none))
    ∧ (ck → assembles → ¬isSync → filled = some b → isStatusBuf s b = false →
      (ready → Runs goes (fun t => t.nce.tx = some ⟨a, j.val, some b, some words, false⟩ ∧ Only [R.NCE_BCTL b] [] [] s t
        ∧ t.fldB (F.NCE_BCTL_RDY b) = (s.fldB (F.NCE_BCTL_RDY b) && !s.fldB (F.NCE_BCTL_ONCE b))))
      ∧ (readyOf s b = false → Runs goes (nullFrame (some b))))
    ∧ (ck → ownsSlot s j.val = false ∨ assemblyFor j.val s = none ∨ assembled j.val a s = true ∧ assemblyFor j.val s = some a →
        Runs goes (fun t => t = s))
    ∧ (assemblyFor j.val s = some a → trainQ s < a ∧ a ≤ trainQ s + 20000 ∧ asQ s j.val ≤ a ∧ tcycQ s ∣ a - asQ s j.val)
    ∧ (ck → s.nce.tx = none ∨ (s.nce.tx = some x ∧ trainQ s < x.at_) → Runs (exec .frameSend s) (fun t => t = s))
    ∧ (ck → s.nce.tx = some x → x.at_ ≤ trainQ s →
      (pst s out ≠ 2 → Runs (exec .frameSend s) (fun t => t.nce.tx = none ∧ t.nce.out = s.nce.out ∧ Only [] [] [] s t))
      ∧ (pst s out = 2 → taken → Runs (exec .frameSend s) (fun t => t.nce.tx = none ∧ t.nce.out = s.nce.out
          ∧ t.fld F.NCE_DROP_COLL = satInc (s.fld F.NCE_DROP_COLL) 1 9 ∧ Only [R.NCE_DROP] [] [] s t))
      ∧ (pst s out = 2 → ¬taken → Runs (exec .frameSend s) (fun t => t.nce.tx = none ∧ kept t
          ∧ ∃ y : RFrame, t.nce.out = [(out.val, y)] ∧ y.fcs = fcsOf y.hdr y.payload ∧ y.payload = (if x.sync then syncWords s else x.payload.getD [])
          ∧ (∀ d, d < 64 → x.buf = some d → t.fldB (F.NCE_BSTAT_SENT d) = true ∧ t.reg (R.NCE_BTS d) = BitVec.ofNat 36 s.nce.ntime.toNat)
          ∧ (x.sync = false → x.payload = none → srcPending t 189 = true))))
    ∧ (ck → boundary → Runs (exec .minislotBoundary s) (fun t => t.nce.mIdx = i + 1
        ∧ t.fld F.NCE_CYCLE_SEG = 2 ∧ (i = 0 → t.fld F.NCE_CYCLE_MC = 0)
        ∧ (i ≠ 0 → s.nce.mcHold = none → t.fld F.NCE_CYCLE_MC = satInc (s.fld F.NCE_CYCLE_MC) 1 11) ∧ kept t))
    ∧ (ck → ¬boundary → Runs (exec .minislotBoundary s) (fun t => t = s))
    ∧ (ck → ¬idleDue → Runs (exec .networkIdleStart s) (fun t => t = s))
    ∧ (ck → idleDue → Runs (exec .networkIdleStart s) (fun t => t.fld F.NCE_CYCLE_SEG = 3 ∧ srcPending t 186 = true
        ∧ (missing ≠ 0 → flagSet t 83 = true ∧ srcPending t 190 = true
            ∧ t.fld F.NCE_CNT2_RCMD = satInc (s.fld F.NCE_CNT2_RCMD) missing 9)
        ∧ (agreed → t.fld F.NCE_MODE_NEXT = request ∧ t.fldB F.NCE_MODE_NXV = true ∧ srcPending t 210 = true)
        ∧ (¬agreed → t.reg R.NCE_MODE = s.reg R.NCE_MODE)
        ∧ Only [R.NCE_CYCLE, R.NCE_CNT2, R.NCE_MODE] [83] ([185, 186, 190, 210] ++ hoistSrcs) s t))
    ∧ (ck → receives p s = false → Runs frame (fun t => t = s))
    ∧ (ck → rides → (headFail p f s = some u → Runs frame (fun t => t = u))
      ∧ (headFail p f s = none → frFid f ≠ 0 → frSrc f ≠ s.fld F.NCE_NODE_NODE → guardFail p f start s = some u → Runs frame (fun t => t = u))
      ∧ (headFail p f s = none → frFid f ≠ 0 → frSrc f = s.fld F.NCE_NODE_NODE → p = inPort s → Runs frame (fun t =>
          t.nce.out = s.nce.out ∧ kept t
          ∧ (s.nce.ownStart = [(frFid f, a)] → a ≤ start → t.nce.ownStart = []
              ∧ t.fld F.NCE_ROUND_T = (start - a + 9600) % 2 ^ 24))))
    ∧ (ck → passes → pst s fp = 2 → own.1 ≤ begins ∧ begins < own.2 → Runs frame (fun t => t.nce.out = s.nce.out
        ∧ t.fld F.NCE_DROP_COLL = satInc (s.fld F.NCE_DROP_COLL) 1 9))
    ∧ (ck → passes → pst s fp = 2 → ¬(own.1 ≤ begins ∧ begins < own.2) → Runs frame (fun t =>
        t.nce.out = [(fp.val, { f with transit := BitVec.ofNat 32 (transit * 2 ^ 8 + tcrcOf transit) })]
        ∧ t.fld F.NCE_DROP_COLL = s.fld F.NCE_DROP_COLL))
    ∧ (ck → passes → fcsOk f = false → Runs frame (fun t => t.nce.held = s.nce.held ∧ kept t
        ∧ t.fld (F.NCE_ERR_CRC p.val) = satInc (s.fld (F.NCE_ERR_CRC p.val)) 1 12
        ∧ ∀ b', b' < 64 → t.reg (R.NCE_BSTAT b') = s.reg (R.NCE_BSTAT b') ∧ t.reg (R.NCE_BTS b') = s.reg (R.NCE_BTS b')))
    ∧ (ck → passes → fcsOk f = true → bufferFor s 0 (frFid f) (frCyc f) = some b → frFid f ∉ c.fids →
        s.fldB (F.NCE_BCTL_SNAP b) = false → frNull f = false → s.fldB F.NCE_MIR_EN = false → Runs frame (fun t =>
          t.fldB (F.NCE_BSTAT_VALID b) = true ∧ t.fld (F.NCE_BSTAT_RLEN b) = frLen f
          ∧ t.reg (R.NCE_BTS b) = BitVec.ofNat 36 (start / 8)
          ∧ (∀ k, k < frLen f → (h : k < f.payload.length) → t.reg (R.NCE_BPAY b k) = f.payload[k]) ∧ kept t))
    ∧ (ck → ¬valid → Runs sync (fun t => t = s))
    ∧ (ck → valid → guide → st s = 2 → Runs sync (fun t => st t = 4 ∧ t.fld F.NCE_TSTAT_GUIDON = frSrc f
        ∧ t.fldB F.NCE_TSTAT_GVAL = true ∧ t.fldB F.NCE_TSTAT_ISG = false ∧ srcPending t 202 = true ∧ kept t
        ∧ t.nce.cycN = cycleNow t ∧ t.fld F.NCE_CYCLE_CYC = cycleNow t % 64
        ∧ t.nce.ntime = s.nce.ntime + BitVec.ofNat 72 (ring / 8) - BitVec.ofNat 72 (start / 8)))
    ∧ (ck → valid → guide → st s = 5 ∨ st s = 6 → s.fldB F.NCE_TSTAT_ISG = false → s.fldB F.NCE_TSTAT_GVAL = true →
        s.fld F.NCE_TSTAT_GUIDON = frSrc f → Runs sync (fun t => t.nce.cur.gE = some off ∧ t.reg R.NCE_TOFF = BitVec.ofInt 36 off
          ∧ t.reg R.NCE_DRIFT = BitVec.ofInt 36 drift
          ∧ t.reg R.NCE_ADJ = BitVec.ofInt 36 (max (-amax) (min amax (-((drift + off / 2 + 4) / 8))))
          ∧ Only [R.NCE_TOFF, R.NCE_DRIFT, R.NCE_ADJ] [] [] s t))

/-! The Field Control Engine -/

/-- R300 to R305, R313 to R315, R320, R322, R323: enable, disable and load of an engine, the check of its image, and
its runs. -/
def Obligations.FluxControlEngine : Prop :=
  ∀ (s : State) (n : Fin 2) (rq : Req) (v : Word) (r : FceRun) (l : FceLast),
    let k := n.val
    let ck := clocked s = true
    let h := s.fce[n]
    let src := fun (e : Nat) => 96 + 8 * k + e
    let ints := [R.FCE_INTG k 0, R.FCE_INTG k 1, R.FCE_INTG k 2, R.FCE_INTG k 3]
    let at_ := s.fld (F.FCE_IMGBASE_BASE k)
    let img := (List.range 322).map fun i => s.word (at_ + i)
    let passes := imageOk (s.fld F.XLA_SET_NOUT) (s.fld (F.FCE_CFG_MIDX k)) img = true
    let base := s.fld F.XLA_OSBASE_OSBASE + 16 + 16 * s.fld F.XLA_COMMIT_BUF
    let mode := base + s.fld (F.FCE_CFG_MIDX k)
    let i := getBits (s.word mode) 0 2
    let d := descriptor (activeImage n s) i
    let on := ck ∧ s.fldB (F.FCE_CTRL_EN k) = true
    let ready := on ∧ h.due = true ∧ h.run = none ∧ s.hal.safe = false ∧ s.fldB (F.FCE_CFG_COMHO k) = false ∧ SramGood s mode
      ∧ (∀ j ∈ refsUsed (dType d), SramGood s (base + dRef d j)) ∧ dSpden d = false ∧ dType d ≠ 4
    let free := s.fld (F.PWM_STAT_TSTATE k) = 0 ∧ resolvedTrip k s = 0
    let fit := s.fldB (F.ISN_QUAL_STALE k) = false ∧ s.fld (F.ISN_QUAL_AGE k) ≤ s.fld (F.FCE_CFG_AGEL k)
      ∧ s.fldB (F.COM_STAT_AVALID k) = true ∧ (s.reg (R.FCE_VBMIN k)).toInt ≤ (s.reg R.ISN_VBUS).toInt
    let tr := fceTrigger n s
    let writes := ∀ j, j < 3 → Accepts s (fceReq n s) (R.PWM_CMP k j)
    let compared := fun (t : State) (ds : List Word) => ∀ j, j < 3 → t.fldB (F.PWM_CMP_FULL k j) = false
      ∧ t.fld (F.PWM_CMP_CMP k j) = compareOf (s.fld (F.PWM_APER_APER 0)) (ds.getD j 0)
    let runs := fun (t : State) => t.fce[n].run = some ⟨s.lt36, s.reg (R.ISN_TS k), 0, dLdal d⟩ ∧ t.fld (F.FCE_STAT_DSC k) = i
      ∧ (∀ j, j < 4 → t.reg (R.FCE_INTG k j) = s.reg (R.FCE_INTG k j)) ∧ t.mem = s.mem ∧ t.cores = s.cores
    let run := exec (.fceRun n) s
    let place := s.fld (F.FCE_RCFG_RBASE k) + 8 * (h.recs % 2 ^ s.fld (F.FCE_RCFG_RSZ k))
    (Accepts s rq (R.FCE_CTRL k) → s.fldB (F.FCE_CTRL_EN k) = false → Runs (exec (.fceEnable rq n v) s) (fun t =>
        t.fldB (F.FCE_CTRL_EN k) = h.ok ∧ (h.ok = true → t.fld (F.FCE_STAT_PHASE k) = 1)
          ∧ t.fldB (F.FCE_CTRL_TRIG k) = bit v 1 ∧ t.fldB (F.FCE_CTRL_RGCL k) = bit v 2
          ∧ Only [R.FCE_CTRL k, R.FCE_STAT k] [] [] s t))
    ∧ (Accepts s rq (R.FCE_CTRL k) → s.fldB (F.FCE_CTRL_EN k) = true → s.fce[1 - n].loadWait = false →
        Runs (exec (.fceDisable rq n v) s) (fun t => t.fldB (F.FCE_CTRL_EN k) = false ∧ t.fld (F.FCE_STAT_PHASE k) = 0
          ∧ t.fldB (F.FCE_STAT_HO k) = false ∧ (∀ j, j < 4 → t.reg (R.FCE_INTG k j) = 0) ∧ t.fce[n].run = none ∧ t.fce[n].due = false
          ∧ t.fce[n].last = none ∧ Only (R.FCE_CTRL k :: R.FCE_STAT k :: ints) [] [] s t))
    ∧ (Accepts s rq (R.FCE_CMD k) → Runs (exec (.load rq n) s) (fun t => t.fldB (F.FCE_STAT_LOADING k) = true
        ∧ (s.fldB (F.FCE_STAT_LOADING k) = false → t.fce[n].swapDue = false) ∧ Only [R.FCE_STAT k] [] [] s t))
    ∧ (ck → s.fldB (F.FCE_STAT_LOADING k) = true → h.run = none → (∀ j, j < 322 → SramGood s (at_ + j)) →
        Runs (exec (.fceImageCheck n) s) (fun t => t.fldB (F.FCE_STAT_LOADING k) = false
          ∧ (¬passes → t.fldB (F.FCE_STAT_CFGERR k) = true ∧ srcPending t (src 6) = true ∧ activeImage n t = activeImage n s)
          ∧ (passes → t.fldB (F.FCE_STAT_CFGERR k) = false
              ∧ (s.fldB (F.FCE_CTRL_EN k) = false → activeImage n t = img ∧ t.fce[n].ok = true ∧ srcPending t (src 5) = true)
              ∧ (s.fldB (F.FCE_CTRL_EN k) = true → activeImage n t = activeImage n s ∧ t.fce[n].swapDue = true))
          ∧ Only [R.FCE_STAT k] [] [src 5, src 6] s t))
    ∧ (ck → s.fldB (F.FCE_STAT_LOADING k) = false ∨ h.run ≠ none → Runs (exec (.fceImageCheck n) s) (fun t => t = s))
    ∧ (ck → s.fldB (F.FCE_CTRL_EN k) = false ∨ h.due = false ∨ h.run ≠ none → Runs run (fun t => t = s))
    ∧ (s.fldB (F.FCE_CTRL_EN k) = false → tr = s)
    ∧ (s.fldB (F.FCE_CTRL_EN k) = true →
      (h.due = false → h.run = none → tr.fce[n] = { h with due := true } ∧ tr.fce[1 - n] = s.fce[1 - n] ∧ Only [] [] [] s tr)
      ∧ (h.due = true ∨ h.run ≠ none → h.latch = false → tr.fce[n] = { h with latch := true } ∧ tr.fce[1 - n] = s.fce[1 - n]
          ∧ Only [] [] [] s tr)
      ∧ (h.due = true ∨ h.run ≠ none → h.latch = true → tr.fld (F.FCE_OVRCNT_CNT k) = satInc (s.fld (F.FCE_OVRCNT_CNT k)) 1 16
          ∧ srcPending tr (src 2) = true ∧ Only [R.FCE_OVRCNT k] [] [src 2] s tr))
    ∧ (ready → h.last = none ∨ ¬free →
      (fit → writes → Runs run (fun t => runs t ∧ t.fld (F.FCE_STAT_PHASE k) = 3
        ∧ (s.fld (F.FCE_STAT_PHASE k) ≠ 3 → srcPending t (src 7) = true)
        ∧ ∃ x, t.fce[n].last = some x ∧ x.kind = .tracking ∧ compared t x.duties))
      ∧ (¬fit → Runs run (fun t => t.fld (F.FCE_STAT_PHASE k) = 3 ∧ srcPending t (src 0) = true
          ∧ (∀ j, j < 3 → t.reg (R.PWM_CMP k j) = s.reg (R.PWM_CMP k j)) ∧ t.mem = s.mem ∧ t.cores = s.cores)))
    ∧ (ready → h.last = some l → free → dType d = 0 → s.fce[1 - n].loadWait = false → Runs run (fun t => t.fld (F.FCE_STAT_PHASE k) = 2
        ∧ t.fce[n].due = h.latch ∧ t.fce[n].latch = false ∧ t.fld (F.FCE_STAT_DSC k) = i ∧ srcPending t (src 0) = true ∧ Only [R.FCE_STAT k] [] [src 0] s t))
    ∧ (ready → h.last = some l → free → dType d = 5 → writes → l.kind = .duty → l.index = i → l.dsc = d → h.ho = none →
        Runs run (fun t => runs t ∧ t.fld (F.FCE_STAT_PHASE k) = 2
          ∧ compared t ([0, 1, 2].map fun j => clampDuty (s.word (base + dRef d j)))))
    ∧ (ready → h.last = some l → free → dType d = 1 ∨ dType d = 2 ∨ dType d = 3 → fit → writes → Runs run (fun t =>
        t.fld (F.FCE_STAT_PHASE k) = 2 ∧ t.fce[n].run = some ⟨s.lt36, s.reg (R.ISN_TS k), 0, dLdal d⟩
          ∧ (∃ x, t.fce[n].last = some x ∧ x.kind = (if dType d = 1 then .volt else .current) ∧ compared t x.duties)
          ∧ (dType d = 1 → ∀ j, j < 4 → t.reg (R.FCE_INTG k j) = s.reg (R.FCE_INTG k j)) ∧ t.mem = s.mem ∧ t.cores = s.cores))
    ∧ (ready → h.last = some l → free → dType d ≠ 0 → dType d ≠ 5 → s.fldB (F.ISN_QUAL_STALE k) = true → s.fce[1 - n].loadWait = false →
        Runs run (fun t => t.fld (F.FCE_STAT_SKIP k) = 1 ∧ t.fld (F.FCE_SKCNT_CNT k) = satInc (s.fld (F.FCE_SKCNT_CNT k)) 1 16
          ∧ t.fce[n].due = h.latch ∧ t.fce[n].latch = false
          ∧ srcPending t (src 1) = true ∧ Only [R.FCE_STAT k, R.FCE_SKCNT k] [] [src 1] s t))
    ∧ (ck → h.run = none → Runs (exec (.fceRunComplete n) s) (fun t => t = s))
    ∧ (ck → h.run = some r → Runs (exec (.fceRunComplete n) s) (fun t => t.fce[n].run = none
        ∧ t.fce[n].due = h.latch ∧ t.fce[n].latch = false
        ∧ t.reg (R.FCE_OTS k) = r.ts ∧ t.fld (F.FCE_OLAT_LAT k) = min (s.lt36 - r.acq).toNat 0xFFF
        ∧ t.fld (F.FCE_OLAT_AGE k) = min (r.acq - r.ts).toNat 0x3FFFF
        ∧ t.fld (F.FCE_LATMAX_LAT k) = max (s.fld (F.FCE_LATMAX_LAT k)) (min (s.lt36 - r.acq).toNat 0xFFF)
        ∧ srcPending t (src 0) = true ∧ t.cores = s.cores
        ∧ (r.ldal ≠ 0 → awaitsOther n s = false ∨ r.ldal ≠ 2 → 2 ≤ s.fld (F.FCE_CFG_CLS k) → s.fldB F.PWM_LOAD_LOADALL = false →
            t.fldB F.PWM_LOAD_LOADALL = true)
        ∧ (s.fldB (F.FCE_RCFG_REN k) = false → r.ldal = 0 → s.fce[1 - n].loadWait = false → Only [R.FCE_OTS k, R.FCE_OLAT k, R.FCE_LATMAX k] [] [src 0] s t)
        ∧ (s.fldB (F.FCE_RCFG_REN k) = true → (∀ j, j < 8 → SramOpen s (s.fld (F.FCE_CFG_CLS k)) (place + j)) →
            t.words place 8 = [r.ts, t.reg (R.FCE_OLAT k), s.reg (R.FCE_ID k), s.reg (R.FCE_IQ k), s.reg (R.FCE_VD k),
              s.reg (R.FCE_VQ k), s.reg (R.FCE_THO k), r.omega] ∧ MemKeptBut place 8 s t)))

/-! The lane as a whole -/

/-- R13, R506: the state right after a power-on reset: every register reads its reset value, memory, registers and
queue are in their canonical form, and the lane is OFFLINE with its cores held until start-up. The value of a word of
memory that nothing has written is the model's choice (log entry 8). -/
def Obligations.ResetState : Prop :=
  Canonical State.reset ∧ QueueOk State.reset ∧ (∀ a, State.reset.reg a = regReset a) ∧ (∀ a, State.reset.word a = 0)
    ∧ State.reset.ltime = 0 ∧ State.reset.lstate = lsOffline ∧ State.reset.fldB F.XLA_CTRL_EN = false
    ∧ (∀ n, n < 144 → flagSet State.reset n = false) ∧ (∀ n, n < 256 → pendBit State.reset n = false)
    ∧ (∀ k, canIssue State.reset k = false) ∧ State.reset.pending = []

/-- R10, R40: every step keeps registers and memory in the form in which equal contents are equal data, whatever
command waits. -/
def Obligations.CanonicalKept : Prop := ∀ (s t : State), Canonical s → step s = .next t → Canonical t

/-- Whatever state the lane is in and whatever waits, a step answers a next state: no command of the table stops the
model. -/
def Obligations.EveryStepGoes : Prop := ∀ (s : State), Goes s
end

