-- ==== Sys2Proof/Laws/Bits.lean ====
section
/-! SUPPORT. A bit field reads back what was put into it, and a disjoint field does not change. -/

namespace Sys2Proof.Machine

theorem getLsbD_maskBits (lo w i : Nat) (h : lo + w ≤ 36) :
    (maskBits lo w).getLsbD i = (decide (lo ≤ i) && decide (i < lo + w)) := by
  unfold maskBits
  rw [BitVec.getLsbD_ofNat, Nat.testBit_shiftLeft, Nat.testBit_two_pow_sub_one]
  by_cases h1 : lo ≤ i <;> by_cases h2 : i < lo + w <;> simp [h1, h2] <;> omega

theorem getLsbD_putBits (x : Word) (lo w v i : Nat) (h : lo + w ≤ 36) :
    (putBits x lo w v).getLsbD i = if lo ≤ i ∧ i < lo + w then v.testBit (i - lo) else x.getLsbD i := by
  unfold putBits
  rw [BitVec.getLsbD_or, BitVec.getLsbD_and, BitVec.getLsbD_not, getLsbD_maskBits _ _ _ h, BitVec.getLsbD_ofNat,
    Nat.testBit_shiftLeft, Nat.testBit_mod_two_pow]
  by_cases hi : i < 36
  · by_cases h1 : lo ≤ i <;> by_cases h2 : i < lo + w <;> simp [h1, h2, hi] <;> omega
  · have : x.getLsbD i = false := BitVec.getLsbD_of_ge x i (by omega)
    rw [this]; simp [hi]; intro; omega

theorem testBit_getBits (x : Word) (lo w i : Nat) :
    (getBits x lo w).testBit i = (decide (i < w) && x.getLsbD (lo + i)) := by
  unfold getBits
  rw [Nat.testBit_mod_two_pow, Nat.testBit_shiftRight]
  rfl

/-- A field reads what was put into it, cut to its width. -/
theorem getBits_putBits_same (x : Word) (lo w v : Nat) (h : lo + w ≤ 36) : getBits (putBits x lo w v) lo w = v % 2 ^ w := by
  apply Nat.eq_of_testBit_eq
  intro i
  rw [testBit_getBits, getLsbD_putBits _ _ _ _ _ h, Nat.testBit_mod_two_pow]
  by_cases hi : i < w <;> simp [hi]

/-- A disjoint field keeps its value. -/
theorem getBits_putBits_disj (x : Word) (lo w v l2 w2 : Nat) (h : lo + w ≤ 36) (hd : l2 + w2 ≤ lo ∨ lo + w ≤ l2) :
    getBits (putBits x lo w v) l2 w2 = getBits x l2 w2 := by
  apply Nat.eq_of_testBit_eq
  intro i
  rw [testBit_getBits, testBit_getBits, getLsbD_putBits _ _ _ _ _ h]
  by_cases hi : i < w2
  · have : ¬ (lo ≤ l2 + i ∧ l2 + i < lo + w) := by omega
    simp [hi, this]
  · simp [hi]

/-- A field inside the one that is put. -/
theorem getBits_putBits_sub (x : Word) (lo w v l2 w2 : Nat) (h : lo + w ≤ 36) (h1 : lo ≤ l2) (h2 : l2 + w2 ≤ lo + w) :
    getBits (putBits x lo w v) l2 w2 = v / 2 ^ (l2 - lo) % 2 ^ w2 := by
  apply Nat.eq_of_testBit_eq
  intro i
  rw [testBit_getBits, getLsbD_putBits _ _ _ _ _ h, Nat.testBit_mod_two_pow, Nat.testBit_div_two_pow]
  by_cases hi : i < w2
  · have : lo ≤ l2 + i ∧ l2 + i < lo + w := by omega
    simp [hi, this]; congr 1; omega
  · simp [hi]

theorem getBits_lt (x : Word) (lo w : Nat) : getBits x lo w < 2 ^ w := Nat.mod_lt _ (Nat.two_pow_pos w)

@[simp] theorem b2n_mod_two (b : Bool) : b2n b % 2 = b2n b := by cases b <;> rfl

@[simp] theorem b2n_true : b2n true = 1 := rfl
@[simp] theorem b2n_false : b2n false = 0 := rfl

end Sys2Proof.Machine
end

