-- ==== Sys2Proof/Laws/Sparse.lean ====
section
/-! SUPPORT. Sparse storage: a read after a write, and the canonical form that every write and every filter keeps. -/

namespace Sys2Proof.Machine.Sparse

variable {d : Nat → Word}

theorem get_filter (p : Nat → Bool) (m : Cells) (a : Nat) :
    get d (m.filter fun c => p c.1) a = if p a then get d m a else d a := by
  induction m with
  | nil => simp [get]
  | cons c r ih =>
    obtain ⟨b, x⟩ := c
    by_cases hb : p b = true
    · by_cases hab : a = b
      · subst hab; simp [List.filter, hb, get]
      · simp [List.filter, hb, get, hab, ih]
    · by_cases hab : a = b
      · subst hab; simp [List.filter, hb, ih]
      · simp [List.filter, hb, get, hab, ih]

theorem get_ins_same (m : Cells) (a : Nat) (v : Word) : get d (ins m a v) a = v := by
  induction m with
  | nil => simp [ins, get]
  | cons c r ih =>
    obtain ⟨b, x⟩ := c
    simp only [ins]
    split
    · simp [get]
    · split
      · simp [get]
      · simp [get, *]

theorem get_ins_ne (m : Cells) {a c : Nat} (v : Word) (h : c ≠ a) : get d (ins m a v) c = get d m c := by
  induction m with
  | nil => simp [ins, get, h]
  | cons e r ih =>
    obtain ⟨b, x⟩ := e
    simp only [ins]
    split
    · simp [get, h]
    · split
      · rename_i hb; subst hb; simp [get, h]
      · simp [get, ih]

/-- A read of the word just written gives it. -/
theorem get_put_same (m : Cells) (a : Nat) (v : Word) : get d (put d m a v) a = v := by
  unfold put
  split
  · rename_i h
    rw [get_filter (fun b => b != a)]; simp [h]
  · exact get_ins_same m a v

/-- A write leaves every other word alone. -/
theorem get_put_ne (m : Cells) {a c : Nat} (v : Word) (h : c ≠ a) : get d (put d m a v) c = get d m c := by
  unfold put
  split
  · rw [get_filter (fun b => b != a)]; simp [h]
  · exact get_ins_ne m v h

/-! The canonical form -/

/-- Above a bound, and above no bound at all. -/
def above (lo : Option Nat) (b : Nat) : Bool := match lo with | none => true | some l => decide (l < b)

theorem wfFrom_cons (lo : Option Nat) (b : Nat) (x : Word) (r : Cells) :
    wfFrom d lo ((b, x) :: r) = (above lo b && decide (x ≠ d b) && wfFrom d (some b) r) := by
  cases lo <;> simp [wfFrom, above]

theorem wfFrom_mono {l k : Nat} {m : Cells} (h : l ≤ k) (hm : wfFrom d (some k) m = true) :
    wfFrom d (some l) m = true := by
  cases m with
  | nil => simp [wfFrom]
  | cons c r =>
    obtain ⟨b, x⟩ := c
    rw [wfFrom_cons] at *
    simp only [above, Bool.and_eq_true, decide_eq_true_eq] at *
    exact ⟨⟨by omega, hm.1.2⟩, hm.2⟩

theorem wfFrom_some_of {lo : Option Nat} {b : Nat} {m : Cells} (ha : above lo b = true)
    (hm : wfFrom d (some b) m = true) : wfFrom d lo m = true := by
  cases lo with
  | some l => simp [above] at ha; exact wfFrom_mono (by omega) hm
  | none =>
    cases m with
    | nil => simp [wfFrom]
    | cons c r =>
      obtain ⟨e, x⟩ := c
      rw [wfFrom_cons] at *
      simp only [above, Bool.and_eq_true] at *
      exact ⟨⟨trivial, hm.1.2⟩, hm.2⟩

theorem wfFrom_filter (p : Nat → Bool) (m : Cells) (lo : Option Nat) (h : wfFrom d lo m = true) :
    wfFrom d lo (m.filter fun c => p c.1) = true := by
  induction m generalizing lo with
  | nil => simp [wfFrom]
  | cons c r ih =>
    obtain ⟨b, x⟩ := c
    rw [wfFrom_cons] at h
    simp only [Bool.and_eq_true] at h
    by_cases hb : p b = true
    · simp only [List.filter, hb]
      rw [wfFrom_cons]
      simp only [Bool.and_eq_true]
      exact ⟨h.1, ih _ h.2⟩
    · simp only [List.filter, hb]
      exact wfFrom_some_of h.1.1 (ih _ h.2)

theorem wfFrom_ins (m : Cells) (a : Nat) (v : Word) (hv : v ≠ d a) (lo : Option Nat) (hl : above lo a = true)
    (h : wfFrom d lo m = true) : wfFrom d lo (ins m a v) = true := by
  induction m generalizing lo with
  | nil => simp [ins, wfFrom_cons, hl, hv, wfFrom]
  | cons c r ih =>
    obtain ⟨b, x⟩ := c
    rw [wfFrom_cons] at h
    simp only [Bool.and_eq_true, decide_eq_true_eq] at h
    simp only [ins]
    split
    · rename_i hab
      rw [wfFrom_cons, wfFrom_cons]
      simp only [Bool.and_eq_true, decide_eq_true_eq, above]
      exact ⟨⟨hl, hv⟩, ⟨hab, h.1.2⟩, h.2⟩
    · split
      · rename_i hab; subst hab
        rw [wfFrom_cons]
        simp only [Bool.and_eq_true, decide_eq_true_eq]
        exact ⟨⟨hl, hv⟩, h.2⟩
      · rw [wfFrom_cons]
        simp only [Bool.and_eq_true, decide_eq_true_eq]
        exact ⟨h.1, ih _ (by simp [above]; omega) h.2⟩

/-- Every write keeps the canonical form. -/
theorem wf_put (m : Cells) (a : Nat) (v : Word) (h : wf d m = true) : wf d (put d m a v) = true := by
  unfold wf put at *
  split
  · exact wfFrom_filter (fun b => b != a) m none h
  · rename_i hv
    exact wfFrom_ins m a v hv none (by simp [above]) h

/-- Clearing whole ranges of words keeps it. -/
theorem wf_filter (p : Nat → Bool) (m : Cells) (h : wf d m = true) : wf d (m.filter fun c => p c.1) = true :=
  wfFrom_filter p m none h

end Sys2Proof.Machine.Sparse
end

