-- ==== Sys2Proof/Laws/State.lean ====
section
/-! SUPPORT. One lemma per field per update of the state: what an update does not write, it leaves. -/

namespace Sys2Proof.Machine

variable (s : State)

@[simp] theorem State.setReg_lane (a : Nat) (v : Word) : (s.setReg a v).lane = s.lane := rfl
@[simp] theorem State.setReg_mem (a : Nat) (v : Word) : (s.setReg a v).mem = s.mem := rfl
@[simp] theorem State.setReg_memc (a : Nat) (v : Word) : (s.setReg a v).memc = s.memc := rfl
@[simp] theorem State.setReg_pwr (a : Nat) (v : Word) : (s.setReg a v).pwr = s.pwr := rfl
@[simp] theorem State.setReg_rtc (a : Nat) (v : Word) : (s.setReg a v).rtc = s.rtc := rfl
@[simp] theorem State.setReg_lcy (a : Nat) (v : Word) : (s.setReg a v).lcy = s.lcy := rfl
@[simp] theorem State.setReg_svp (a : Nat) (v : Word) : (s.setReg a v).svp = s.svp := rfl
@[simp] theorem State.setReg_ovl (a : Nat) (v : Word) : (s.setReg a v).ovl = s.ovl := rfl
@[simp] theorem State.setReg_nce (a : Nat) (v : Word) : (s.setReg a v).nce = s.nce := rfl
@[simp] theorem State.setReg_pwm (a : Nat) (v : Word) : (s.setReg a v).pwm = s.pwm := rfl
@[simp] theorem State.setReg_dlk (a : Nat) (v : Word) : (s.setReg a v).dlk = s.dlk := rfl
@[simp] theorem State.setReg_die (a : Nat) (v : Word) : (s.setReg a v).die = s.die := rfl
@[simp] theorem State.setReg_chop (a : Nat) (v : Word) : (s.setReg a v).chop = s.chop := rfl
@[simp] theorem State.setReg_com (a : Nat) (v : Word) : (s.setReg a v).com = s.com := rfl
@[simp] theorem State.setReg_isn (a : Nat) (v : Word) : (s.setReg a v).isn = s.isn := rfl
@[simp] theorem State.setReg_qep (a : Nat) (v : Word) : (s.setReg a v).qep = s.qep := rfl
@[simp] theorem State.setReg_sent (a : Nat) (v : Word) : (s.setReg a v).sent = s.sent := rfl
@[simp] theorem State.setReg_sio (a : Nat) (v : Word) : (s.setReg a v).sio = s.sio := rfl
@[simp] theorem State.setReg_fce (a : Nat) (v : Word) : (s.setReg a v).fce = s.fce := rfl
@[simp] theorem State.setReg_sdp (a : Nat) (v : Word) : (s.setReg a v).sdp = s.sdp := rfl
@[simp] theorem State.setReg_caps (a : Nat) (v : Word) : (s.setReg a v).caps = s.caps := rfl
@[simp] theorem State.setReg_freeCtr (a : Nat) (v : Word) : (s.setReg a v).freeCtr = s.freeCtr := rfl
@[simp] theorem State.setReg_dma (a : Nat) (v : Word) : (s.setReg a v).dma = s.dma := rfl
@[simp] theorem State.setReg_ltime (a : Nat) (v : Word) : (s.setReg a v).ltime = s.ltime := rfl
@[simp] theorem State.setReg_cycle (a : Nat) (v : Word) : (s.setReg a v).cycle = s.cycle := rfl
@[simp] theorem State.setReg_corrN (a : Nat) (v : Word) : (s.setReg a v).corrN = s.corrN := rfl
@[simp] theorem State.setReg_corrBack (a : Nat) (v : Word) : (s.setReg a v).corrBack = s.corrBack := rfl
@[simp] theorem State.setReg_frameCycle (a : Nat) (v : Word) : (s.setReg a v).frameCycle = s.frameCycle := rfl
@[simp] theorem State.setReg_frame (a : Nat) (v : Word) : (s.setReg a v).frame = s.frame := rfl
@[simp] theorem State.setReg_frameStart (a : Nat) (v : Word) : (s.setReg a v).frameStart = s.frameStart := rfl
@[simp] theorem State.setReg_pennant (a : Nat) (v : Word) : (s.setReg a v).pennant = s.pennant := rfl
@[simp] theorem State.setReg_cores (a : Nat) (v : Word) : (s.setReg a v).cores = s.cores := rfl
@[simp] theorem State.setReg_split (a : Nat) (v : Word) : (s.setReg a v).split = s.split := rfl
@[simp] theorem State.setReg_intc (a : Nat) (v : Word) : (s.setReg a v).intc = s.intc := rfl
@[simp] theorem State.setReg_tap (a : Nat) (v : Word) : (s.setReg a v).tap = s.tap := rfl
@[simp] theorem State.setReg_lsc (a : Nat) (v : Word) : (s.setReg a v).lsc = s.lsc := rfl
@[simp] theorem State.setReg_hal (a : Nat) (v : Word) : (s.setReg a v).hal = s.hal := rfl
@[simp] theorem State.setReg_logQ (a : Nat) (v : Word) : (s.setReg a v).logQ = s.logQ := rfl
@[simp] theorem State.setReg_xla (a : Nat) (v : Word) : (s.setReg a v).xla = s.xla := rfl
@[simp] theorem State.setReg_pending (a : Nat) (v : Word) : (s.setReg a v).pending = s.pending := rfl

@[simp] theorem State.setFld_lane (f : Fld) (v : Nat) : (s.setFld f v).lane = s.lane := rfl
@[simp] theorem State.setFld_mem (f : Fld) (v : Nat) : (s.setFld f v).mem = s.mem := rfl
@[simp] theorem State.setFld_memc (f : Fld) (v : Nat) : (s.setFld f v).memc = s.memc := rfl
@[simp] theorem State.setFld_pwr (f : Fld) (v : Nat) : (s.setFld f v).pwr = s.pwr := rfl
@[simp] theorem State.setFld_rtc (f : Fld) (v : Nat) : (s.setFld f v).rtc = s.rtc := rfl
@[simp] theorem State.setFld_lcy (f : Fld) (v : Nat) : (s.setFld f v).lcy = s.lcy := rfl
@[simp] theorem State.setFld_svp (f : Fld) (v : Nat) : (s.setFld f v).svp = s.svp := rfl
@[simp] theorem State.setFld_ovl (f : Fld) (v : Nat) : (s.setFld f v).ovl = s.ovl := rfl
@[simp] theorem State.setFld_nce (f : Fld) (v : Nat) : (s.setFld f v).nce = s.nce := rfl
@[simp] theorem State.setFld_pwm (f : Fld) (v : Nat) : (s.setFld f v).pwm = s.pwm := rfl
@[simp] theorem State.setFld_dlk (f : Fld) (v : Nat) : (s.setFld f v).dlk = s.dlk := rfl
@[simp] theorem State.setFld_die (f : Fld) (v : Nat) : (s.setFld f v).die = s.die := rfl
@[simp] theorem State.setFld_chop (f : Fld) (v : Nat) : (s.setFld f v).chop = s.chop := rfl
@[simp] theorem State.setFld_com (f : Fld) (v : Nat) : (s.setFld f v).com = s.com := rfl
@[simp] theorem State.setFld_isn (f : Fld) (v : Nat) : (s.setFld f v).isn = s.isn := rfl
@[simp] theorem State.setFld_qep (f : Fld) (v : Nat) : (s.setFld f v).qep = s.qep := rfl
@[simp] theorem State.setFld_sent (f : Fld) (v : Nat) : (s.setFld f v).sent = s.sent := rfl
@[simp] theorem State.setFld_sio (f : Fld) (v : Nat) : (s.setFld f v).sio = s.sio := rfl
@[simp] theorem State.setFld_fce (f : Fld) (v : Nat) : (s.setFld f v).fce = s.fce := rfl
@[simp] theorem State.setFld_sdp (f : Fld) (v : Nat) : (s.setFld f v).sdp = s.sdp := rfl
@[simp] theorem State.setFld_caps (f : Fld) (v : Nat) : (s.setFld f v).caps = s.caps := rfl
@[simp] theorem State.setFld_freeCtr (f : Fld) (v : Nat) : (s.setFld f v).freeCtr = s.freeCtr := rfl
@[simp] theorem State.setFld_dma (f : Fld) (v : Nat) : (s.setFld f v).dma = s.dma := rfl
@[simp] theorem State.setFld_ltime (f : Fld) (v : Nat) : (s.setFld f v).ltime = s.ltime := rfl
@[simp] theorem State.setFld_cycle (f : Fld) (v : Nat) : (s.setFld f v).cycle = s.cycle := rfl
@[simp] theorem State.setFld_corrN (f : Fld) (v : Nat) : (s.setFld f v).corrN = s.corrN := rfl
@[simp] theorem State.setFld_corrBack (f : Fld) (v : Nat) : (s.setFld f v).corrBack = s.corrBack := rfl
@[simp] theorem State.setFld_frameCycle (f : Fld) (v : Nat) : (s.setFld f v).frameCycle = s.frameCycle := rfl
@[simp] theorem State.setFld_frame (f : Fld) (v : Nat) : (s.setFld f v).frame = s.frame := rfl
@[simp] theorem State.setFld_frameStart (f : Fld) (v : Nat) : (s.setFld f v).frameStart = s.frameStart := rfl
@[simp] theorem State.setFld_pennant (f : Fld) (v : Nat) : (s.setFld f v).pennant = s.pennant := rfl
@[simp] theorem State.setFld_cores (f : Fld) (v : Nat) : (s.setFld f v).cores = s.cores := rfl
@[simp] theorem State.setFld_split (f : Fld) (v : Nat) : (s.setFld f v).split = s.split := rfl
@[simp] theorem State.setFld_intc (f : Fld) (v : Nat) : (s.setFld f v).intc = s.intc := rfl
@[simp] theorem State.setFld_tap (f : Fld) (v : Nat) : (s.setFld f v).tap = s.tap := rfl
@[simp] theorem State.setFld_lsc (f : Fld) (v : Nat) : (s.setFld f v).lsc = s.lsc := rfl
@[simp] theorem State.setFld_hal (f : Fld) (v : Nat) : (s.setFld f v).hal = s.hal := rfl
@[simp] theorem State.setFld_logQ (f : Fld) (v : Nat) : (s.setFld f v).logQ = s.logQ := rfl
@[simp] theorem State.setFld_xla (f : Fld) (v : Nat) : (s.setFld f v).xla = s.xla := rfl
@[simp] theorem State.setFld_pending (f : Fld) (v : Nat) : (s.setFld f v).pending = s.pending := rfl

@[simp] theorem State.setFldB_lane (f : Fld) (b : Bool) : (s.setFldB f b).lane = s.lane := rfl
@[simp] theorem State.setFldB_mem (f : Fld) (b : Bool) : (s.setFldB f b).mem = s.mem := rfl
@[simp] theorem State.setFldB_memc (f : Fld) (b : Bool) : (s.setFldB f b).memc = s.memc := rfl
@[simp] theorem State.setFldB_pwr (f : Fld) (b : Bool) : (s.setFldB f b).pwr = s.pwr := rfl
@[simp] theorem State.setFldB_rtc (f : Fld) (b : Bool) : (s.setFldB f b).rtc = s.rtc := rfl
@[simp] theorem State.setFldB_lcy (f : Fld) (b : Bool) : (s.setFldB f b).lcy = s.lcy := rfl
@[simp] theorem State.setFldB_svp (f : Fld) (b : Bool) : (s.setFldB f b).svp = s.svp := rfl
@[simp] theorem State.setFldB_ovl (f : Fld) (b : Bool) : (s.setFldB f b).ovl = s.ovl := rfl
@[simp] theorem State.setFldB_nce (f : Fld) (b : Bool) : (s.setFldB f b).nce = s.nce := rfl
@[simp] theorem State.setFldB_pwm (f : Fld) (b : Bool) : (s.setFldB f b).pwm = s.pwm := rfl
@[simp] theorem State.setFldB_dlk (f : Fld) (b : Bool) : (s.setFldB f b).dlk = s.dlk := rfl
@[simp] theorem State.setFldB_die (f : Fld) (b : Bool) : (s.setFldB f b).die = s.die := rfl
@[simp] theorem State.setFldB_chop (f : Fld) (b : Bool) : (s.setFldB f b).chop = s.chop := rfl
@[simp] theorem State.setFldB_com (f : Fld) (b : Bool) : (s.setFldB f b).com = s.com := rfl
@[simp] theorem State.setFldB_isn (f : Fld) (b : Bool) : (s.setFldB f b).isn = s.isn := rfl
@[simp] theorem State.setFldB_qep (f : Fld) (b : Bool) : (s.setFldB f b).qep = s.qep := rfl
@[simp] theorem State.setFldB_sent (f : Fld) (b : Bool) : (s.setFldB f b).sent = s.sent := rfl
@[simp] theorem State.setFldB_sio (f : Fld) (b : Bool) : (s.setFldB f b).sio = s.sio := rfl
@[simp] theorem State.setFldB_fce (f : Fld) (b : Bool) : (s.setFldB f b).fce = s.fce := rfl
@[simp] theorem State.setFldB_sdp (f : Fld) (b : Bool) : (s.setFldB f b).sdp = s.sdp := rfl
@[simp] theorem State.setFldB_caps (f : Fld) (b : Bool) : (s.setFldB f b).caps = s.caps := rfl
@[simp] theorem State.setFldB_freeCtr (f : Fld) (b : Bool) : (s.setFldB f b).freeCtr = s.freeCtr := rfl
@[simp] theorem State.setFldB_dma (f : Fld) (b : Bool) : (s.setFldB f b).dma = s.dma := rfl
@[simp] theorem State.setFldB_ltime (f : Fld) (b : Bool) : (s.setFldB f b).ltime = s.ltime := rfl
@[simp] theorem State.setFldB_cycle (f : Fld) (b : Bool) : (s.setFldB f b).cycle = s.cycle := rfl
@[simp] theorem State.setFldB_corrN (f : Fld) (b : Bool) : (s.setFldB f b).corrN = s.corrN := rfl
@[simp] theorem State.setFldB_corrBack (f : Fld) (b : Bool) : (s.setFldB f b).corrBack = s.corrBack := rfl
@[simp] theorem State.setFldB_frameCycle (f : Fld) (b : Bool) : (s.setFldB f b).frameCycle = s.frameCycle := rfl
@[simp] theorem State.setFldB_frame (f : Fld) (b : Bool) : (s.setFldB f b).frame = s.frame := rfl
@[simp] theorem State.setFldB_frameStart (f : Fld) (b : Bool) : (s.setFldB f b).frameStart = s.frameStart := rfl
@[simp] theorem State.setFldB_pennant (f : Fld) (b : Bool) : (s.setFldB f b).pennant = s.pennant := rfl
@[simp] theorem State.setFldB_cores (f : Fld) (b : Bool) : (s.setFldB f b).cores = s.cores := rfl
@[simp] theorem State.setFldB_split (f : Fld) (b : Bool) : (s.setFldB f b).split = s.split := rfl
@[simp] theorem State.setFldB_intc (f : Fld) (b : Bool) : (s.setFldB f b).intc = s.intc := rfl
@[simp] theorem State.setFldB_tap (f : Fld) (b : Bool) : (s.setFldB f b).tap = s.tap := rfl
@[simp] theorem State.setFldB_lsc (f : Fld) (b : Bool) : (s.setFldB f b).lsc = s.lsc := rfl
@[simp] theorem State.setFldB_hal (f : Fld) (b : Bool) : (s.setFldB f b).hal = s.hal := rfl
@[simp] theorem State.setFldB_logQ (f : Fld) (b : Bool) : (s.setFldB f b).logQ = s.logQ := rfl
@[simp] theorem State.setFldB_xla (f : Fld) (b : Bool) : (s.setFldB f b).xla = s.xla := rfl
@[simp] theorem State.setFldB_pending (f : Fld) (b : Bool) : (s.setFldB f b).pending = s.pending := rfl

@[simp] theorem State.incFld_lane (f : Fld) (n : Nat) : (s.incFld f n).lane = s.lane := rfl
@[simp] theorem State.incFld_mem (f : Fld) (n : Nat) : (s.incFld f n).mem = s.mem := rfl
@[simp] theorem State.incFld_memc (f : Fld) (n : Nat) : (s.incFld f n).memc = s.memc := rfl
@[simp] theorem State.incFld_pwr (f : Fld) (n : Nat) : (s.incFld f n).pwr = s.pwr := rfl
@[simp] theorem State.incFld_rtc (f : Fld) (n : Nat) : (s.incFld f n).rtc = s.rtc := rfl
@[simp] theorem State.incFld_lcy (f : Fld) (n : Nat) : (s.incFld f n).lcy = s.lcy := rfl
@[simp] theorem State.incFld_svp (f : Fld) (n : Nat) : (s.incFld f n).svp = s.svp := rfl
@[simp] theorem State.incFld_ovl (f : Fld) (n : Nat) : (s.incFld f n).ovl = s.ovl := rfl
@[simp] theorem State.incFld_nce (f : Fld) (n : Nat) : (s.incFld f n).nce = s.nce := rfl
@[simp] theorem State.incFld_pwm (f : Fld) (n : Nat) : (s.incFld f n).pwm = s.pwm := rfl
@[simp] theorem State.incFld_dlk (f : Fld) (n : Nat) : (s.incFld f n).dlk = s.dlk := rfl
@[simp] theorem State.incFld_die (f : Fld) (n : Nat) : (s.incFld f n).die = s.die := rfl
@[simp] theorem State.incFld_chop (f : Fld) (n : Nat) : (s.incFld f n).chop = s.chop := rfl
@[simp] theorem State.incFld_com (f : Fld) (n : Nat) : (s.incFld f n).com = s.com := rfl
@[simp] theorem State.incFld_isn (f : Fld) (n : Nat) : (s.incFld f n).isn = s.isn := rfl
@[simp] theorem State.incFld_qep (f : Fld) (n : Nat) : (s.incFld f n).qep = s.qep := rfl
@[simp] theorem State.incFld_sent (f : Fld) (n : Nat) : (s.incFld f n).sent = s.sent := rfl
@[simp] theorem State.incFld_sio (f : Fld) (n : Nat) : (s.incFld f n).sio = s.sio := rfl
@[simp] theorem State.incFld_fce (f : Fld) (n : Nat) : (s.incFld f n).fce = s.fce := rfl
@[simp] theorem State.incFld_sdp (f : Fld) (n : Nat) : (s.incFld f n).sdp = s.sdp := rfl
@[simp] theorem State.incFld_caps (f : Fld) (n : Nat) : (s.incFld f n).caps = s.caps := rfl
@[simp] theorem State.incFld_freeCtr (f : Fld) (n : Nat) : (s.incFld f n).freeCtr = s.freeCtr := rfl
@[simp] theorem State.incFld_dma (f : Fld) (n : Nat) : (s.incFld f n).dma = s.dma := rfl
@[simp] theorem State.incFld_ltime (f : Fld) (n : Nat) : (s.incFld f n).ltime = s.ltime := rfl
@[simp] theorem State.incFld_cycle (f : Fld) (n : Nat) : (s.incFld f n).cycle = s.cycle := rfl
@[simp] theorem State.incFld_corrN (f : Fld) (n : Nat) : (s.incFld f n).corrN = s.corrN := rfl
@[simp] theorem State.incFld_corrBack (f : Fld) (n : Nat) : (s.incFld f n).corrBack = s.corrBack := rfl
@[simp] theorem State.incFld_frameCycle (f : Fld) (n : Nat) : (s.incFld f n).frameCycle = s.frameCycle := rfl
@[simp] theorem State.incFld_frame (f : Fld) (n : Nat) : (s.incFld f n).frame = s.frame := rfl
@[simp] theorem State.incFld_frameStart (f : Fld) (n : Nat) : (s.incFld f n).frameStart = s.frameStart := rfl
@[simp] theorem State.incFld_pennant (f : Fld) (n : Nat) : (s.incFld f n).pennant = s.pennant := rfl
@[simp] theorem State.incFld_cores (f : Fld) (n : Nat) : (s.incFld f n).cores = s.cores := rfl
@[simp] theorem State.incFld_split (f : Fld) (n : Nat) : (s.incFld f n).split = s.split := rfl
@[simp] theorem State.incFld_intc (f : Fld) (n : Nat) : (s.incFld f n).intc = s.intc := rfl
@[simp] theorem State.incFld_tap (f : Fld) (n : Nat) : (s.incFld f n).tap = s.tap := rfl
@[simp] theorem State.incFld_lsc (f : Fld) (n : Nat) : (s.incFld f n).lsc = s.lsc := rfl
@[simp] theorem State.incFld_hal (f : Fld) (n : Nat) : (s.incFld f n).hal = s.hal := rfl
@[simp] theorem State.incFld_logQ (f : Fld) (n : Nat) : (s.incFld f n).logQ = s.logQ := rfl
@[simp] theorem State.incFld_xla (f : Fld) (n : Nat) : (s.incFld f n).xla = s.xla := rfl
@[simp] theorem State.incFld_pending (f : Fld) (n : Nat) : (s.incFld f n).pending = s.pending := rfl

@[simp] theorem State.setWord_lane (a : Nat) (v : Word) : (s.setWord a v).lane = s.lane := rfl
@[simp] theorem State.setWord_regs (a : Nat) (v : Word) : (s.setWord a v).regs = s.regs := rfl
@[simp] theorem State.setWord_pwr (a : Nat) (v : Word) : (s.setWord a v).pwr = s.pwr := rfl
@[simp] theorem State.setWord_rtc (a : Nat) (v : Word) : (s.setWord a v).rtc = s.rtc := rfl
@[simp] theorem State.setWord_lcy (a : Nat) (v : Word) : (s.setWord a v).lcy = s.lcy := rfl
@[simp] theorem State.setWord_svp (a : Nat) (v : Word) : (s.setWord a v).svp = s.svp := rfl
@[simp] theorem State.setWord_ovl (a : Nat) (v : Word) : (s.setWord a v).ovl = s.ovl := rfl
@[simp] theorem State.setWord_nce (a : Nat) (v : Word) : (s.setWord a v).nce = s.nce := rfl
@[simp] theorem State.setWord_pwm (a : Nat) (v : Word) : (s.setWord a v).pwm = s.pwm := rfl
@[simp] theorem State.setWord_dlk (a : Nat) (v : Word) : (s.setWord a v).dlk = s.dlk := rfl
@[simp] theorem State.setWord_die (a : Nat) (v : Word) : (s.setWord a v).die = s.die := rfl
@[simp] theorem State.setWord_chop (a : Nat) (v : Word) : (s.setWord a v).chop = s.chop := rfl
@[simp] theorem State.setWord_com (a : Nat) (v : Word) : (s.setWord a v).com = s.com := rfl
@[simp] theorem State.setWord_isn (a : Nat) (v : Word) : (s.setWord a v).isn = s.isn := rfl
@[simp] theorem State.setWord_qep (a : Nat) (v : Word) : (s.setWord a v).qep = s.qep := rfl
@[simp] theorem State.setWord_sent (a : Nat) (v : Word) : (s.setWord a v).sent = s.sent := rfl
@[simp] theorem State.setWord_sio (a : Nat) (v : Word) : (s.setWord a v).sio = s.sio := rfl
@[simp] theorem State.setWord_fce (a : Nat) (v : Word) : (s.setWord a v).fce = s.fce := rfl
@[simp] theorem State.setWord_sdp (a : Nat) (v : Word) : (s.setWord a v).sdp = s.sdp := rfl
@[simp] theorem State.setWord_caps (a : Nat) (v : Word) : (s.setWord a v).caps = s.caps := rfl
@[simp] theorem State.setWord_freeCtr (a : Nat) (v : Word) : (s.setWord a v).freeCtr = s.freeCtr := rfl
@[simp] theorem State.setWord_dma (a : Nat) (v : Word) : (s.setWord a v).dma = s.dma := rfl
@[simp] theorem State.setWord_ltime (a : Nat) (v : Word) : (s.setWord a v).ltime = s.ltime := rfl
@[simp] theorem State.setWord_cycle (a : Nat) (v : Word) : (s.setWord a v).cycle = s.cycle := rfl
@[simp] theorem State.setWord_corrN (a : Nat) (v : Word) : (s.setWord a v).corrN = s.corrN := rfl
@[simp] theorem State.setWord_corrBack (a : Nat) (v : Word) : (s.setWord a v).corrBack = s.corrBack := rfl
@[simp] theorem State.setWord_frameCycle (a : Nat) (v : Word) : (s.setWord a v).frameCycle = s.frameCycle := rfl
@[simp] theorem State.setWord_frame (a : Nat) (v : Word) : (s.setWord a v).frame = s.frame := rfl
@[simp] theorem State.setWord_frameStart (a : Nat) (v : Word) : (s.setWord a v).frameStart = s.frameStart := rfl
@[simp] theorem State.setWord_pennant (a : Nat) (v : Word) : (s.setWord a v).pennant = s.pennant := rfl
@[simp] theorem State.setWord_cores (a : Nat) (v : Word) : (s.setWord a v).cores = s.cores := rfl
@[simp] theorem State.setWord_split (a : Nat) (v : Word) : (s.setWord a v).split = s.split := rfl
@[simp] theorem State.setWord_intc (a : Nat) (v : Word) : (s.setWord a v).intc = s.intc := rfl
@[simp] theorem State.setWord_tap (a : Nat) (v : Word) : (s.setWord a v).tap = s.tap := rfl
@[simp] theorem State.setWord_lsc (a : Nat) (v : Word) : (s.setWord a v).lsc = s.lsc := rfl
@[simp] theorem State.setWord_hal (a : Nat) (v : Word) : (s.setWord a v).hal = s.hal := rfl
@[simp] theorem State.setWord_logQ (a : Nat) (v : Word) : (s.setWord a v).logQ = s.logQ := rfl
@[simp] theorem State.setWord_xla (a : Nat) (v : Word) : (s.setWord a v).xla = s.xla := rfl
@[simp] theorem State.setWord_pending (a : Nat) (v : Word) : (s.setWord a v).pending = s.pending := rfl

@[simp] theorem setPendBit_lane (n : Nat) (b : Bool) : (setPendBit n b s).lane = s.lane := rfl
@[simp] theorem setPendBit_mem (n : Nat) (b : Bool) : (setPendBit n b s).mem = s.mem := rfl
@[simp] theorem setPendBit_memc (n : Nat) (b : Bool) : (setPendBit n b s).memc = s.memc := rfl
@[simp] theorem setPendBit_pwr (n : Nat) (b : Bool) : (setPendBit n b s).pwr = s.pwr := rfl
@[simp] theorem setPendBit_rtc (n : Nat) (b : Bool) : (setPendBit n b s).rtc = s.rtc := rfl
@[simp] theorem setPendBit_lcy (n : Nat) (b : Bool) : (setPendBit n b s).lcy = s.lcy := rfl
@[simp] theorem setPendBit_svp (n : Nat) (b : Bool) : (setPendBit n b s).svp = s.svp := rfl
@[simp] theorem setPendBit_ovl (n : Nat) (b : Bool) : (setPendBit n b s).ovl = s.ovl := rfl
@[simp] theorem setPendBit_nce (n : Nat) (b : Bool) : (setPendBit n b s).nce = s.nce := rfl
@[simp] theorem setPendBit_pwm (n : Nat) (b : Bool) : (setPendBit n b s).pwm = s.pwm := rfl
@[simp] theorem setPendBit_dlk (n : Nat) (b : Bool) : (setPendBit n b s).dlk = s.dlk := rfl
@[simp] theorem setPendBit_die (n : Nat) (b : Bool) : (setPendBit n b s).die = s.die := rfl
@[simp] theorem setPendBit_chop (n : Nat) (b : Bool) : (setPendBit n b s).chop = s.chop := rfl
@[simp] theorem setPendBit_com (n : Nat) (b : Bool) : (setPendBit n b s).com = s.com := rfl
@[simp] theorem setPendBit_isn (n : Nat) (b : Bool) : (setPendBit n b s).isn = s.isn := rfl
@[simp] theorem setPendBit_qep (n : Nat) (b : Bool) : (setPendBit n b s).qep = s.qep := rfl
@[simp] theorem setPendBit_sent (n : Nat) (b : Bool) : (setPendBit n b s).sent = s.sent := rfl
@[simp] theorem setPendBit_sio (n : Nat) (b : Bool) : (setPendBit n b s).sio = s.sio := rfl
@[simp] theorem setPendBit_fce (n : Nat) (b : Bool) : (setPendBit n b s).fce = s.fce := rfl
@[simp] theorem setPendBit_sdp (n : Nat) (b : Bool) : (setPendBit n b s).sdp = s.sdp := rfl
@[simp] theorem setPendBit_caps (n : Nat) (b : Bool) : (setPendBit n b s).caps = s.caps := rfl
@[simp] theorem setPendBit_freeCtr (n : Nat) (b : Bool) : (setPendBit n b s).freeCtr = s.freeCtr := rfl
@[simp] theorem setPendBit_dma (n : Nat) (b : Bool) : (setPendBit n b s).dma = s.dma := rfl
@[simp] theorem setPendBit_ltime (n : Nat) (b : Bool) : (setPendBit n b s).ltime = s.ltime := rfl
@[simp] theorem setPendBit_cycle (n : Nat) (b : Bool) : (setPendBit n b s).cycle = s.cycle := rfl
@[simp] theorem setPendBit_corrN (n : Nat) (b : Bool) : (setPendBit n b s).corrN = s.corrN := rfl
@[simp] theorem setPendBit_corrBack (n : Nat) (b : Bool) : (setPendBit n b s).corrBack = s.corrBack := rfl
@[simp] theorem setPendBit_frameCycle (n : Nat) (b : Bool) : (setPendBit n b s).frameCycle = s.frameCycle := rfl
@[simp] theorem setPendBit_frame (n : Nat) (b : Bool) : (setPendBit n b s).frame = s.frame := rfl
@[simp] theorem setPendBit_frameStart (n : Nat) (b : Bool) : (setPendBit n b s).frameStart = s.frameStart := rfl
@[simp] theorem setPendBit_pennant (n : Nat) (b : Bool) : (setPendBit n b s).pennant = s.pennant := rfl
@[simp] theorem setPendBit_cores (n : Nat) (b : Bool) : (setPendBit n b s).cores = s.cores := rfl
@[simp] theorem setPendBit_split (n : Nat) (b : Bool) : (setPendBit n b s).split = s.split := rfl
@[simp] theorem setPendBit_intc (n : Nat) (b : Bool) : (setPendBit n b s).intc = s.intc := rfl
@[simp] theorem setPendBit_tap (n : Nat) (b : Bool) : (setPendBit n b s).tap = s.tap := rfl
@[simp] theorem setPendBit_lsc (n : Nat) (b : Bool) : (setPendBit n b s).lsc = s.lsc := rfl
@[simp] theorem setPendBit_hal (n : Nat) (b : Bool) : (setPendBit n b s).hal = s.hal := rfl
@[simp] theorem setPendBit_logQ (n : Nat) (b : Bool) : (setPendBit n b s).logQ = s.logQ := rfl
@[simp] theorem setPendBit_xla (n : Nat) (b : Bool) : (setPendBit n b s).xla = s.xla := rfl
@[simp] theorem setPendBit_pending (n : Nat) (b : Bool) : (setPendBit n b s).pending = s.pending := rfl

@[simp] theorem State.useFree_lane : (s.useFree).lane = s.lane := rfl
@[simp] theorem State.useFree_regs : (s.useFree).regs = s.regs := rfl
@[simp] theorem State.useFree_mem : (s.useFree).mem = s.mem := rfl
@[simp] theorem State.useFree_memc : (s.useFree).memc = s.memc := rfl
@[simp] theorem State.useFree_pwr : (s.useFree).pwr = s.pwr := rfl
@[simp] theorem State.useFree_rtc : (s.useFree).rtc = s.rtc := rfl
@[simp] theorem State.useFree_lcy : (s.useFree).lcy = s.lcy := rfl
@[simp] theorem State.useFree_svp : (s.useFree).svp = s.svp := rfl
@[simp] theorem State.useFree_ovl : (s.useFree).ovl = s.ovl := rfl
@[simp] theorem State.useFree_nce : (s.useFree).nce = s.nce := rfl
@[simp] theorem State.useFree_pwm : (s.useFree).pwm = s.pwm := rfl
@[simp] theorem State.useFree_dlk : (s.useFree).dlk = s.dlk := rfl
@[simp] theorem State.useFree_die : (s.useFree).die = s.die := rfl
@[simp] theorem State.useFree_chop : (s.useFree).chop = s.chop := rfl
@[simp] theorem State.useFree_com : (s.useFree).com = s.com := rfl
@[simp] theorem State.useFree_isn : (s.useFree).isn = s.isn := rfl
@[simp] theorem State.useFree_qep : (s.useFree).qep = s.qep := rfl
@[simp] theorem State.useFree_sent : (s.useFree).sent = s.sent := rfl
@[simp] theorem State.useFree_sio : (s.useFree).sio = s.sio := rfl
@[simp] theorem State.useFree_fce : (s.useFree).fce = s.fce := rfl
@[simp] theorem State.useFree_sdp : (s.useFree).sdp = s.sdp := rfl
@[simp] theorem State.useFree_caps : (s.useFree).caps = s.caps := rfl
@[simp] theorem State.useFree_dma : (s.useFree).dma = s.dma := rfl
@[simp] theorem State.useFree_ltime : (s.useFree).ltime = s.ltime := rfl
@[simp] theorem State.useFree_cycle : (s.useFree).cycle = s.cycle := rfl
@[simp] theorem State.useFree_corrN : (s.useFree).corrN = s.corrN := rfl
@[simp] theorem State.useFree_corrBack : (s.useFree).corrBack = s.corrBack := rfl
@[simp] theorem State.useFree_frameCycle : (s.useFree).frameCycle = s.frameCycle := rfl
@[simp] theorem State.useFree_frame : (s.useFree).frame = s.frame := rfl
@[simp] theorem State.useFree_frameStart : (s.useFree).frameStart = s.frameStart := rfl
@[simp] theorem State.useFree_pennant : (s.useFree).pennant = s.pennant := rfl
@[simp] theorem State.useFree_cores : (s.useFree).cores = s.cores := rfl
@[simp] theorem State.useFree_split : (s.useFree).split = s.split := rfl
@[simp] theorem State.useFree_intc : (s.useFree).intc = s.intc := rfl
@[simp] theorem State.useFree_tap : (s.useFree).tap = s.tap := rfl
@[simp] theorem State.useFree_lsc : (s.useFree).lsc = s.lsc := rfl
@[simp] theorem State.useFree_hal : (s.useFree).hal = s.hal := rfl
@[simp] theorem State.useFree_logQ : (s.useFree).logQ = s.logQ := rfl
@[simp] theorem State.useFree_xla : (s.useFree).xla = s.xla := rfl
@[simp] theorem State.useFree_pending : (s.useFree).pending = s.pending := rfl

@[simp] theorem State.capture_lane (src a : Nat) (v : Word) : (s.capture src a v).lane = s.lane := rfl
@[simp] theorem State.capture_regs (src a : Nat) (v : Word) : (s.capture src a v).regs = s.regs := rfl
@[simp] theorem State.capture_mem (src a : Nat) (v : Word) : (s.capture src a v).mem = s.mem := rfl
@[simp] theorem State.capture_memc (src a : Nat) (v : Word) : (s.capture src a v).memc = s.memc := rfl
@[simp] theorem State.capture_pwr (src a : Nat) (v : Word) : (s.capture src a v).pwr = s.pwr := rfl
@[simp] theorem State.capture_rtc (src a : Nat) (v : Word) : (s.capture src a v).rtc = s.rtc := rfl
@[simp] theorem State.capture_lcy (src a : Nat) (v : Word) : (s.capture src a v).lcy = s.lcy := rfl
@[simp] theorem State.capture_svp (src a : Nat) (v : Word) : (s.capture src a v).svp = s.svp := rfl
@[simp] theorem State.capture_ovl (src a : Nat) (v : Word) : (s.capture src a v).ovl = s.ovl := rfl
@[simp] theorem State.capture_nce (src a : Nat) (v : Word) : (s.capture src a v).nce = s.nce := rfl
@[simp] theorem State.capture_pwm (src a : Nat) (v : Word) : (s.capture src a v).pwm = s.pwm := rfl
@[simp] theorem State.capture_dlk (src a : Nat) (v : Word) : (s.capture src a v).dlk = s.dlk := rfl
@[simp] theorem State.capture_die (src a : Nat) (v : Word) : (s.capture src a v).die = s.die := rfl
@[simp] theorem State.capture_chop (src a : Nat) (v : Word) : (s.capture src a v).chop = s.chop := rfl
@[simp] theorem State.capture_com (src a : Nat) (v : Word) : (s.capture src a v).com = s.com := rfl
@[simp] theorem State.capture_isn (src a : Nat) (v : Word) : (s.capture src a v).isn = s.isn := rfl
@[simp] theorem State.capture_qep (src a : Nat) (v : Word) : (s.capture src a v).qep = s.qep := rfl
@[simp] theorem State.capture_sent (src a : Nat) (v : Word) : (s.capture src a v).sent = s.sent := rfl
@[simp] theorem State.capture_sio (src a : Nat) (v : Word) : (s.capture src a v).sio = s.sio := rfl
@[simp] theorem State.capture_fce (src a : Nat) (v : Word) : (s.capture src a v).fce = s.fce := rfl
@[simp] theorem State.capture_sdp (src a : Nat) (v : Word) : (s.capture src a v).sdp = s.sdp := rfl
@[simp] theorem State.capture_freeCtr (src a : Nat) (v : Word) : (s.capture src a v).freeCtr = s.freeCtr := rfl
@[simp] theorem State.capture_dma (src a : Nat) (v : Word) : (s.capture src a v).dma = s.dma := rfl
@[simp] theorem State.capture_ltime (src a : Nat) (v : Word) : (s.capture src a v).ltime = s.ltime := rfl
@[simp] theorem State.capture_cycle (src a : Nat) (v : Word) : (s.capture src a v).cycle = s.cycle := rfl
@[simp] theorem State.capture_corrN (src a : Nat) (v : Word) : (s.capture src a v).corrN = s.corrN := rfl
@[simp] theorem State.capture_corrBack (src a : Nat) (v : Word) : (s.capture src a v).corrBack = s.corrBack := rfl
@[simp] theorem State.capture_frameCycle (src a : Nat) (v : Word) : (s.capture src a v).frameCycle = s.frameCycle := rfl
@[simp] theorem State.capture_frame (src a : Nat) (v : Word) : (s.capture src a v).frame = s.frame := rfl
@[simp] theorem State.capture_frameStart (src a : Nat) (v : Word) : (s.capture src a v).frameStart = s.frameStart := rfl
@[simp] theorem State.capture_pennant (src a : Nat) (v : Word) : (s.capture src a v).pennant = s.pennant := rfl
@[simp] theorem State.capture_cores (src a : Nat) (v : Word) : (s.capture src a v).cores = s.cores := rfl
@[simp] theorem State.capture_split (src a : Nat) (v : Word) : (s.capture src a v).split = s.split := rfl
@[simp] theorem State.capture_intc (src a : Nat) (v : Word) : (s.capture src a v).intc = s.intc := rfl
@[simp] theorem State.capture_tap (src a : Nat) (v : Word) : (s.capture src a v).tap = s.tap := rfl
@[simp] theorem State.capture_lsc (src a : Nat) (v : Word) : (s.capture src a v).lsc = s.lsc := rfl
@[simp] theorem State.capture_hal (src a : Nat) (v : Word) : (s.capture src a v).hal = s.hal := rfl
@[simp] theorem State.capture_logQ (src a : Nat) (v : Word) : (s.capture src a v).logQ = s.logQ := rfl
@[simp] theorem State.capture_xla (src a : Nat) (v : Word) : (s.capture src a v).xla = s.xla := rfl
@[simp] theorem State.capture_pending (src a : Nat) (v : Word) : (s.capture src a v).pending = s.pending := rfl

@[simp] theorem State.setCoreOnly_lane (k : Fin 4) (c : Core) : (s.setCoreOnly k c).lane = s.lane := rfl
@[simp] theorem State.setCoreOnly_regs (k : Fin 4) (c : Core) : (s.setCoreOnly k c).regs = s.regs := rfl
@[simp] theorem State.setCoreOnly_mem (k : Fin 4) (c : Core) : (s.setCoreOnly k c).mem = s.mem := rfl
@[simp] theorem State.setCoreOnly_memc (k : Fin 4) (c : Core) : (s.setCoreOnly k c).memc = s.memc := rfl
@[simp] theorem State.setCoreOnly_pwr (k : Fin 4) (c : Core) : (s.setCoreOnly k c).pwr = s.pwr := rfl
@[simp] theorem State.setCoreOnly_rtc (k : Fin 4) (c : Core) : (s.setCoreOnly k c).rtc = s.rtc := rfl
@[simp] theorem State.setCoreOnly_lcy (k : Fin 4) (c : Core) : (s.setCoreOnly k c).lcy = s.lcy := rfl
@[simp] theorem State.setCoreOnly_svp (k : Fin 4) (c : Core) : (s.setCoreOnly k c).svp = s.svp := rfl
@[simp] theorem State.setCoreOnly_ovl (k : Fin 4) (c : Core) : (s.setCoreOnly k c).ovl = s.ovl := rfl
@[simp] theorem State.setCoreOnly_nce (k : Fin 4) (c : Core) : (s.setCoreOnly k c).nce = s.nce := rfl
@[simp] theorem State.setCoreOnly_pwm (k : Fin 4) (c : Core) : (s.setCoreOnly k c).pwm = s.pwm := rfl
@[simp] theorem State.setCoreOnly_dlk (k : Fin 4) (c : Core) : (s.setCoreOnly k c).dlk = s.dlk := rfl
@[simp] theorem State.setCoreOnly_die (k : Fin 4) (c : Core) : (s.setCoreOnly k c).die = s.die := rfl
@[simp] theorem State.setCoreOnly_chop (k : Fin 4) (c : Core) : (s.setCoreOnly k c).chop = s.chop := rfl
@[simp] theorem State.setCoreOnly_com (k : Fin 4) (c : Core) : (s.setCoreOnly k c).com = s.com := rfl
@[simp] theorem State.setCoreOnly_isn (k : Fin 4) (c : Core) : (s.setCoreOnly k c).isn = s.isn := rfl
@[simp] theorem State.setCoreOnly_qep (k : Fin 4) (c : Core) : (s.setCoreOnly k c).qep = s.qep := rfl
@[simp] theorem State.setCoreOnly_sent (k : Fin 4) (c : Core) : (s.setCoreOnly k c).sent = s.sent := rfl
@[simp] theorem State.setCoreOnly_sio (k : Fin 4) (c : Core) : (s.setCoreOnly k c).sio = s.sio := rfl
@[simp] theorem State.setCoreOnly_fce (k : Fin 4) (c : Core) : (s.setCoreOnly k c).fce = s.fce := rfl
@[simp] theorem State.setCoreOnly_sdp (k : Fin 4) (c : Core) : (s.setCoreOnly k c).sdp = s.sdp := rfl
@[simp] theorem State.setCoreOnly_caps (k : Fin 4) (c : Core) : (s.setCoreOnly k c).caps = s.caps := rfl
@[simp] theorem State.setCoreOnly_freeCtr (k : Fin 4) (c : Core) : (s.setCoreOnly k c).freeCtr = s.freeCtr := rfl
@[simp] theorem State.setCoreOnly_dma (k : Fin 4) (c : Core) : (s.setCoreOnly k c).dma = s.dma := rfl
@[simp] theorem State.setCoreOnly_ltime (k : Fin 4) (c : Core) : (s.setCoreOnly k c).ltime = s.ltime := rfl
@[simp] theorem State.setCoreOnly_cycle (k : Fin 4) (c : Core) : (s.setCoreOnly k c).cycle = s.cycle := rfl
@[simp] theorem State.setCoreOnly_corrN (k : Fin 4) (c : Core) : (s.setCoreOnly k c).corrN = s.corrN := rfl
@[simp] theorem State.setCoreOnly_corrBack (k : Fin 4) (c : Core) : (s.setCoreOnly k c).corrBack = s.corrBack := rfl
@[simp] theorem State.setCoreOnly_frameCycle (k : Fin 4) (c : Core) : (s.setCoreOnly k c).frameCycle = s.frameCycle := rfl
@[simp] theorem State.setCoreOnly_frame (k : Fin 4) (c : Core) : (s.setCoreOnly k c).frame = s.frame := rfl
@[simp] theorem State.setCoreOnly_frameStart (k : Fin 4) (c : Core) : (s.setCoreOnly k c).frameStart = s.frameStart := rfl
@[simp] theorem State.setCoreOnly_pennant (k : Fin 4) (c : Core) : (s.setCoreOnly k c).pennant = s.pennant := rfl
@[simp] theorem State.setCoreOnly_split (k : Fin 4) (c : Core) : (s.setCoreOnly k c).split = s.split := rfl
@[simp] theorem State.setCoreOnly_intc (k : Fin 4) (c : Core) : (s.setCoreOnly k c).intc = s.intc := rfl
@[simp] theorem State.setCoreOnly_tap (k : Fin 4) (c : Core) : (s.setCoreOnly k c).tap = s.tap := rfl
@[simp] theorem State.setCoreOnly_lsc (k : Fin 4) (c : Core) : (s.setCoreOnly k c).lsc = s.lsc := rfl
@[simp] theorem State.setCoreOnly_hal (k : Fin 4) (c : Core) : (s.setCoreOnly k c).hal = s.hal := rfl
@[simp] theorem State.setCoreOnly_logQ (k : Fin 4) (c : Core) : (s.setCoreOnly k c).logQ = s.logQ := rfl
@[simp] theorem State.setCoreOnly_xla (k : Fin 4) (c : Core) : (s.setCoreOnly k c).xla = s.xla := rfl
@[simp] theorem State.setCoreOnly_pending (k : Fin 4) (c : Core) : (s.setCoreOnly k c).pending = s.pending := rfl

@[simp] theorem pendSrc_lane (n : Nat) : (pendSrc n s).lane = s.lane := by unfold pendSrc; split <;> rfl
@[simp] theorem pendSrc_mem (n : Nat) : (pendSrc n s).mem = s.mem := by unfold pendSrc; split <;> rfl
@[simp] theorem pendSrc_memc (n : Nat) : (pendSrc n s).memc = s.memc := by unfold pendSrc; split <;> rfl
@[simp] theorem pendSrc_pwr (n : Nat) : (pendSrc n s).pwr = s.pwr := by unfold pendSrc; split <;> rfl
@[simp] theorem pendSrc_rtc (n : Nat) : (pendSrc n s).rtc = s.rtc := by unfold pendSrc; split <;> rfl
@[simp] theorem pendSrc_lcy (n : Nat) : (pendSrc n s).lcy = s.lcy := by unfold pendSrc; split <;> rfl
@[simp] theorem pendSrc_svp (n : Nat) : (pendSrc n s).svp = s.svp := by unfold pendSrc; split <;> rfl
@[simp] theorem pendSrc_ovl (n : Nat) : (pendSrc n s).ovl = s.ovl := by unfold pendSrc; split <;> rfl
@[simp] theorem pendSrc_nce (n : Nat) : (pendSrc n s).nce = s.nce := by unfold pendSrc; split <;> rfl
@[simp] theorem pendSrc_pwm (n : Nat) : (pendSrc n s).pwm = s.pwm := by unfold pendSrc; split <;> rfl
@[simp] theorem pendSrc_dlk (n : Nat) : (pendSrc n s).dlk = s.dlk := by unfold pendSrc; split <;> rfl
@[simp] theorem pendSrc_die (n : Nat) : (pendSrc n s).die = s.die := by unfold pendSrc; split <;> rfl
@[simp] theorem pendSrc_chop (n : Nat) : (pendSrc n s).chop = s.chop := by unfold pendSrc; split <;> rfl
@[simp] theorem pendSrc_com (n : Nat) : (pendSrc n s).com = s.com := by unfold pendSrc; split <;> rfl
@[simp] theorem pendSrc_isn (n : Nat) : (pendSrc n s).isn = s.isn := by unfold pendSrc; split <;> rfl
@[simp] theorem pendSrc_qep (n : Nat) : (pendSrc n s).qep = s.qep := by unfold pendSrc; split <;> rfl
@[simp] theorem pendSrc_sent (n : Nat) : (pendSrc n s).sent = s.sent := by unfold pendSrc; split <;> rfl
@[simp] theorem pendSrc_sio (n : Nat) : (pendSrc n s).sio = s.sio := by unfold pendSrc; split <;> rfl
@[simp] theorem pendSrc_fce (n : Nat) : (pendSrc n s).fce = s.fce := by unfold pendSrc; split <;> rfl
@[simp] theorem pendSrc_sdp (n : Nat) : (pendSrc n s).sdp = s.sdp := by unfold pendSrc; split <;> rfl
@[simp] theorem pendSrc_caps (n : Nat) : (pendSrc n s).caps = s.caps := by unfold pendSrc; split <;> rfl
@[simp] theorem pendSrc_freeCtr (n : Nat) : (pendSrc n s).freeCtr = s.freeCtr := by unfold pendSrc; split <;> rfl
@[simp] theorem pendSrc_dma (n : Nat) : (pendSrc n s).dma = s.dma := by unfold pendSrc; split <;> rfl
@[simp] theorem pendSrc_ltime (n : Nat) : (pendSrc n s).ltime = s.ltime := by unfold pendSrc; split <;> rfl
@[simp] theorem pendSrc_cycle (n : Nat) : (pendSrc n s).cycle = s.cycle := by unfold pendSrc; split <;> rfl
@[simp] theorem pendSrc_corrN (n : Nat) : (pendSrc n s).corrN = s.corrN := by unfold pendSrc; split <;> rfl
@[simp] theorem pendSrc_corrBack (n : Nat) : (pendSrc n s).corrBack = s.corrBack := by unfold pendSrc; split <;> rfl
@[simp] theorem pendSrc_frameCycle (n : Nat) : (pendSrc n s).frameCycle = s.frameCycle := by unfold pendSrc; split <;> rfl
@[simp] theorem pendSrc_frame (n : Nat) : (pendSrc n s).frame = s.frame := by unfold pendSrc; split <;> rfl
@[simp] theorem pendSrc_frameStart (n : Nat) : (pendSrc n s).frameStart = s.frameStart := by unfold pendSrc; split <;> rfl
@[simp] theorem pendSrc_pennant (n : Nat) : (pendSrc n s).pennant = s.pennant := by unfold pendSrc; split <;> rfl
@[simp] theorem pendSrc_cores (n : Nat) : (pendSrc n s).cores = s.cores := by unfold pendSrc; split <;> rfl
@[simp] theorem pendSrc_split (n : Nat) : (pendSrc n s).split = s.split := by unfold pendSrc; split <;> rfl
@[simp] theorem pendSrc_tap (n : Nat) : (pendSrc n s).tap = s.tap := by unfold pendSrc; split <;> rfl
@[simp] theorem pendSrc_lsc (n : Nat) : (pendSrc n s).lsc = s.lsc := by unfold pendSrc; split <;> rfl
@[simp] theorem pendSrc_hal (n : Nat) : (pendSrc n s).hal = s.hal := by unfold pendSrc; split <;> rfl
@[simp] theorem pendSrc_logQ (n : Nat) : (pendSrc n s).logQ = s.logQ := by unfold pendSrc; split <;> rfl
@[simp] theorem pendSrc_xla (n : Nat) : (pendSrc n s).xla = s.xla := by unfold pendSrc; split <;> rfl
@[simp] theorem pendSrc_pending (n : Nat) : (pendSrc n s).pending = s.pending := by unfold pendSrc; split <;> rfl

@[simp] theorem State.setCore_lane (k : Fin 4) (c : Core) : (s.setCore k c).lane = s.lane := by unfold State.setCore; split <;> rfl
@[simp] theorem State.setCore_regs (k : Fin 4) (c : Core) : (s.setCore k c).regs = s.regs := by unfold State.setCore; split <;> rfl
@[simp] theorem State.setCore_mem (k : Fin 4) (c : Core) : (s.setCore k c).mem = s.mem := by unfold State.setCore; split <;> rfl
@[simp] theorem State.setCore_memc (k : Fin 4) (c : Core) : (s.setCore k c).memc = s.memc := by unfold State.setCore; split <;> rfl
@[simp] theorem State.setCore_pwr (k : Fin 4) (c : Core) : (s.setCore k c).pwr = s.pwr := by unfold State.setCore; split <;> rfl
@[simp] theorem State.setCore_rtc (k : Fin 4) (c : Core) : (s.setCore k c).rtc = s.rtc := by unfold State.setCore; split <;> rfl
@[simp] theorem State.setCore_lcy (k : Fin 4) (c : Core) : (s.setCore k c).lcy = s.lcy := by unfold State.setCore; split <;> rfl
@[simp] theorem State.setCore_svp (k : Fin 4) (c : Core) : (s.setCore k c).svp = s.svp := by unfold State.setCore; split <;> rfl
@[simp] theorem State.setCore_ovl (k : Fin 4) (c : Core) : (s.setCore k c).ovl = s.ovl := by unfold State.setCore; split <;> rfl
@[simp] theorem State.setCore_nce (k : Fin 4) (c : Core) : (s.setCore k c).nce = s.nce := by unfold State.setCore; split <;> rfl
@[simp] theorem State.setCore_pwm (k : Fin 4) (c : Core) : (s.setCore k c).pwm = s.pwm := by unfold State.setCore; split <;> rfl
@[simp] theorem State.setCore_dlk (k : Fin 4) (c : Core) : (s.setCore k c).dlk = s.dlk := by unfold State.setCore; split <;> rfl
@[simp] theorem State.setCore_die (k : Fin 4) (c : Core) : (s.setCore k c).die = s.die := by unfold State.setCore; split <;> rfl
@[simp] theorem State.setCore_chop (k : Fin 4) (c : Core) : (s.setCore k c).chop = s.chop := by unfold State.setCore; split <;> rfl
@[simp] theorem State.setCore_com (k : Fin 4) (c : Core) : (s.setCore k c).com = s.com := by unfold State.setCore; split <;> rfl
@[simp] theorem State.setCore_isn (k : Fin 4) (c : Core) : (s.setCore k c).isn = s.isn := by unfold State.setCore; split <;> rfl
@[simp] theorem State.setCore_qep (k : Fin 4) (c : Core) : (s.setCore k c).qep = s.qep := by unfold State.setCore; split <;> rfl
@[simp] theorem State.setCore_sent (k : Fin 4) (c : Core) : (s.setCore k c).sent = s.sent := by unfold State.setCore; split <;> rfl
@[simp] theorem State.setCore_sio (k : Fin 4) (c : Core) : (s.setCore k c).sio = s.sio := by unfold State.setCore; split <;> rfl
@[simp] theorem State.setCore_fce (k : Fin 4) (c : Core) : (s.setCore k c).fce = s.fce := by unfold State.setCore; split <;> rfl
@[simp] theorem State.setCore_sdp (k : Fin 4) (c : Core) : (s.setCore k c).sdp = s.sdp := by unfold State.setCore; split <;> rfl
@[simp] theorem State.setCore_caps (k : Fin 4) (c : Core) : (s.setCore k c).caps = s.caps := by unfold State.setCore; split <;> rfl
@[simp] theorem State.setCore_freeCtr (k : Fin 4) (c : Core) : (s.setCore k c).freeCtr = s.freeCtr := by unfold State.setCore; split <;> rfl
@[simp] theorem State.setCore_dma (k : Fin 4) (c : Core) : (s.setCore k c).dma = s.dma := by unfold State.setCore; split <;> rfl
@[simp] theorem State.setCore_ltime (k : Fin 4) (c : Core) : (s.setCore k c).ltime = s.ltime := by unfold State.setCore; split <;> rfl
@[simp] theorem State.setCore_cycle (k : Fin 4) (c : Core) : (s.setCore k c).cycle = s.cycle := by unfold State.setCore; split <;> rfl
@[simp] theorem State.setCore_corrN (k : Fin 4) (c : Core) : (s.setCore k c).corrN = s.corrN := by unfold State.setCore; split <;> rfl
@[simp] theorem State.setCore_corrBack (k : Fin 4) (c : Core) : (s.setCore k c).corrBack = s.corrBack := by unfold State.setCore; split <;> rfl
@[simp] theorem State.setCore_frameCycle (k : Fin 4) (c : Core) : (s.setCore k c).frameCycle = s.frameCycle := by unfold State.setCore; split <;> rfl
@[simp] theorem State.setCore_frame (k : Fin 4) (c : Core) : (s.setCore k c).frame = s.frame := by unfold State.setCore; split <;> rfl
@[simp] theorem State.setCore_frameStart (k : Fin 4) (c : Core) : (s.setCore k c).frameStart = s.frameStart := by unfold State.setCore; split <;> rfl
@[simp] theorem State.setCore_pennant (k : Fin 4) (c : Core) : (s.setCore k c).pennant = s.pennant := by unfold State.setCore; split <;> rfl
@[simp] theorem State.setCore_split (k : Fin 4) (c : Core) : (s.setCore k c).split = s.split := by unfold State.setCore; split <;> rfl
@[simp] theorem State.setCore_intc (k : Fin 4) (c : Core) : (s.setCore k c).intc = s.intc := by unfold State.setCore; split <;> rfl
@[simp] theorem State.setCore_tap (k : Fin 4) (c : Core) : (s.setCore k c).tap = s.tap := by unfold State.setCore; split <;> rfl
@[simp] theorem State.setCore_lsc (k : Fin 4) (c : Core) : (s.setCore k c).lsc = s.lsc := by unfold State.setCore; split <;> rfl
@[simp] theorem State.setCore_hal (k : Fin 4) (c : Core) : (s.setCore k c).hal = s.hal := by unfold State.setCore; split <;> rfl
@[simp] theorem State.setCore_logQ (k : Fin 4) (c : Core) : (s.setCore k c).logQ = s.logQ := by unfold State.setCore; split <;> rfl
@[simp] theorem State.setCore_xla (k : Fin 4) (c : Core) : (s.setCore k c).xla = s.xla := by unfold State.setCore; split <;> rfl
@[simp] theorem State.setCore_pending (k : Fin 4) (c : Core) : (s.setCore k c).pending = s.pending := by unfold State.setCore; split <;> rfl

@[simp] theorem State.setReg_word (a : Nat) (v : Word) (i : Nat) : (s.setReg a v).word i = s.word i := rfl
@[simp] theorem State.setFld_word (f : Fld) (v : Nat) (i : Nat) : (s.setFld f v).word i = s.word i := rfl
@[simp] theorem State.setFldB_word (f : Fld) (b : Bool) (i : Nat) : (s.setFldB f b).word i = s.word i := rfl
@[simp] theorem State.incFld_word (f : Fld) (n : Nat) (i : Nat) : (s.incFld f n).word i = s.word i := rfl
@[simp] theorem State.setWord_reg (a : Nat) (v : Word) (i : Nat) : (s.setWord a v).reg i = s.reg i := rfl
@[simp] theorem State.setWord_fld (a : Nat) (v : Word) (g : Fld) : (s.setWord a v).fld g = s.fld g := rfl
@[simp] theorem State.setWord_fldB (a : Nat) (v : Word) (g : Fld) : (s.setWord a v).fldB g = s.fldB g := rfl
@[simp] theorem setPendBit_word (n : Nat) (b : Bool) (i : Nat) : (setPendBit n b s).word i = s.word i := rfl
@[simp] theorem State.useFree_reg  (i : Nat) : (s.useFree).reg i = s.reg i := rfl
@[simp] theorem State.useFree_fld  (g : Fld) : (s.useFree).fld g = s.fld g := rfl
@[simp] theorem State.useFree_fldB  (g : Fld) : (s.useFree).fldB g = s.fldB g := rfl
@[simp] theorem State.useFree_word  (i : Nat) : (s.useFree).word i = s.word i := rfl
@[simp] theorem State.capture_reg (src a : Nat) (v : Word) (i : Nat) : (s.capture src a v).reg i = s.reg i := rfl
@[simp] theorem State.capture_fld (src a : Nat) (v : Word) (g : Fld) : (s.capture src a v).fld g = s.fld g := rfl
@[simp] theorem State.capture_fldB (src a : Nat) (v : Word) (g : Fld) : (s.capture src a v).fldB g = s.fldB g := rfl
@[simp] theorem State.capture_word (src a : Nat) (v : Word) (i : Nat) : (s.capture src a v).word i = s.word i := rfl
@[simp] theorem State.setCoreOnly_reg (k : Fin 4) (c : Core) (i : Nat) : (s.setCoreOnly k c).reg i = s.reg i := rfl
@[simp] theorem State.setCoreOnly_fld (k : Fin 4) (c : Core) (g : Fld) : (s.setCoreOnly k c).fld g = s.fld g := rfl
@[simp] theorem State.setCoreOnly_fldB (k : Fin 4) (c : Core) (g : Fld) : (s.setCoreOnly k c).fldB g = s.fldB g := rfl
@[simp] theorem State.setCoreOnly_word (k : Fin 4) (c : Core) (i : Nat) : (s.setCoreOnly k c).word i = s.word i := rfl
@[simp] theorem pendSrc_word (n : Nat) (i : Nat) : (pendSrc n s).word i = s.word i := by unfold pendSrc; split <;> rfl
@[simp] theorem State.setCore_reg (k : Fin 4) (c : Core) (i : Nat) : (s.setCore k c).reg i = s.reg i := by unfold State.setCore; split <;> rfl
@[simp] theorem State.setCore_fld (k : Fin 4) (c : Core) (g : Fld) : (s.setCore k c).fld g = s.fld g := by unfold State.setCore; split <;> rfl
@[simp] theorem State.setCore_fldB (k : Fin 4) (c : Core) (g : Fld) : (s.setCore k c).fldB g = s.fldB g := by unfold State.setCore; split <;> rfl
@[simp] theorem State.setCore_word (k : Fin 4) (c : Core) (i : Nat) : (s.setCore k c).word i = s.word i := by unfold State.setCore; split <;> rfl

end Sys2Proof.Machine
end

