-- ==== Sys2Proof/Laws/Fld.lean ====
section
/-! SUPPORT. Registers, fields and memory words: a read after a write gives the value written, and a write leaves every
other register, field and word alone. -/

namespace Sys2Proof.Machine

variable (s : State)

@[simp] theorem reg_setReg_same (a : Nat) (v : Word) : (s.setReg a v).reg a = v := Sparse.get_put_same _ _ _

theorem reg_setReg_ne {a b : Nat} (v : Word) (h : b ≠ a) : (s.setReg a v).reg b = s.reg b := Sparse.get_put_ne _ _ h

@[simp] theorem word_setWord_same (a : Nat) (v : Word) : (s.setWord a v).word a = v := Sparse.get_put_same _ _ _

theorem word_setWord_ne {a b : Nat} (v : Word) (h : b ≠ a) : (s.setWord a v).word b = s.word b := Sparse.get_put_ne _ _ h

/-- Does a field lie within the 36 bits of its register? -/
def Fld.ok (f : Fld) : Bool := decide (f.lo + f.w ≤ 36)

/-- Do two fields share no bit? -/
def Fld.disj (f g : Fld) : Bool :=
  decide (f.addr ≠ g.addr) || decide (f.lo + f.w ≤ g.lo) || decide (g.lo + g.w ≤ f.lo)

/-- A field reads what was written to it, cut to its width. -/
theorem fld_setFld_same (f : Fld) (v : Nat) (h : f.ok = true) : (s.setFld f v).fld f = v % 2 ^ f.w := by
  unfold State.fld State.setFld
  rw [reg_setReg_same]
  exact getBits_putBits_same _ _ _ _ (by simpa [Fld.ok] using h)

/-- A field that shares no bit with the one written keeps its value. -/
theorem fld_setFld_disj (f g : Fld) (v : Nat) (h : f.ok = true) (hd : f.disj g = true) : (s.setFld f v).fld g = s.fld g := by
  unfold State.fld State.setFld
  simp only [Fld.ok, decide_eq_true_eq] at h
  by_cases ha : g.addr = f.addr
  · rw [ha, reg_setReg_same]
    apply getBits_putBits_disj _ _ _ _ _ _ h
    simp [Fld.disj, ha] at hd
    omega
  · rw [reg_setReg_ne _ _ ha]

/-- A register that is not the field's keeps its value. -/
theorem reg_setFld_ne (f : Fld) (v : Nat) {b : Nat} (h : b ≠ f.addr) : (s.setFld f v).reg b = s.reg b := reg_setReg_ne _ _ h

theorem fld_setReg_ne (a : Nat) (v : Word) (g : Fld) (h : g.addr ≠ a) : (s.setReg a v).fld g = s.fld g := by
  unfold State.fld
  rw [reg_setReg_ne _ _ h]

theorem fldB_setFldB_same (f : Fld) (b : Bool) (h : f.ok = true) (hw : f.w = 1) : (s.setFldB f b).fldB f = b := by
  unfold State.fldB State.setFldB
  rw [fld_setFld_same s f _ h, hw]
  cases b <;> simp

theorem fldB_setFld_disj (f g : Fld) (v : Nat) (h : f.ok = true) (hd : f.disj g = true) :
    (s.setFld f v).fldB g = s.fldB g := by
  unfold State.fldB
  rw [fld_setFld_disj s f g v h hd]

/-- A counter field advanced by n, saturating. -/
theorem fld_incFld_same (f : Fld) (n : Nat) (h : f.ok = true) : (s.incFld f n).fld f = satInc (s.fld f) n f.w := by
  unfold State.incFld
  rw [fld_setFld_same s f _ h]
  apply Nat.mod_eq_of_lt
  unfold satInc
  have := Nat.two_pow_pos f.w
  split <;> omega

theorem fld_lt (f : Fld) : s.fld f < 2 ^ f.w := getBits_lt _ _ _

theorem fldB_iff (f : Fld) : s.fldB f = true ↔ s.fld f ≠ 0 := by simp [State.fldB]

/-- Consecutive words stored: those inside the range. -/
theorem word_setWords (ws : List Word) (a b : Nat) :
    (s.setWords a ws).word b = if a ≤ b ∧ b < a + ws.length then ws[b - a]?.getD 0 else s.word b := by
  induction ws generalizing s a with
  | nil => simp [State.setWords] <;> omega
  | cons w r ih =>
    simp only [State.setWords]
    rw [ih]
    by_cases h : a + 1 ≤ b ∧ b < a + 1 + r.length
    · have h2 : a ≤ b ∧ b < a + (w :: r).length := by simp; omega
      rw [if_pos h, if_pos h2]
      have : b - a = (b - (a + 1)) + 1 := by omega
      rw [this]; simp
    · rw [if_neg h]
      by_cases hb : b = a
      · subst hb; simp
      · rw [word_setWord_ne _ _ hb, if_neg (by simp; omega)]

@[simp] theorem setWords_reg (ws : List Word) (a i : Nat) : (s.setWords a ws).reg i = s.reg i := by
  induction ws generalizing s a with
  | nil => rfl
  | cons w r ih => simp [State.setWords, ih]

end Sys2Proof.Machine
end

