-- ==== Sys2Proof/Laws/Issue.lean ====
section
/-! SUPPORT. What the issue of an instruction does, once for all instructions. -/

namespace Sys2Proof.Machine

open Sys2Proof.Moagar

variable {s : State} {k : Fin 4} {i : MInstr} {f1 f2 : Arrive}

/-- A core that is ready runs the instruction. -/
theorem issue_of_ready (h : Safety.Ready s k i) : issue k i f1 f2 s = runInstr i f1 f2 k s := by
  obtain ⟨h1, h2, h3, h4, h5⟩ := h
  unfold issue issueAt
  simp only [Fin.getElem_fin] at *
  simp [h1, h2, h3, h4, h5]

/-- A core that may not issue takes no instruction. -/
theorem issue_of_not (h : canIssue s k = false) : issue k i f1 f2 s = s := by
  unfold issue issueAt
  simp [h]

theorem runInstr_done {c : Core} {t : State} (h : mexec i f1 f2 k s.cores[k] s = .done c t) :
    ∃ sl, runInstr i f1 f2 k s = t.setCore k { c with slot0 := sl, bpSkip := false, afterIret := isIret i } := by
  refine ⟨if inSlot1 s.cores[k].slot0 i then none else pairSlot i, ?_⟩
  unfold runInstr
  simp only [h]

/-- An instruction other than IRET that completes. -/
theorem issue_done {c : Core} {t : State} (hi : isIret i = false) (hr : Safety.Ready s k i) (h : mexec i f1 f2 k s.cores[k] s = .done c t) :
    Safety.Runs (.next (issue k i f1 f2 s)) (Safety.Ends t k c) := by
  obtain ⟨sl, hs⟩ := runInstr_done (i := i) (f1 := f1) (f2 := f2) h
  exact ⟨_, rfl, sl, by rw [issue_of_ready hr, hs, hi]⟩

/-- An instruction that traps. -/
theorem issue_trap {c : Core} {t : State} {code detail : Nat} {tval : Word} (hr : Safety.Ready s k i)
    (h : mexec i f1 f2 k s.cores[k] s = .trap c code detail tval t) :
    Safety.Runs (.next (issue k i f1 f2 s)) (Safety.Traps t k c code detail tval) := by
  refine ⟨_, rfl, inSlot1 s.cores[k].slot0 i, ?_⟩
  rw [issue_of_ready hr]
  unfold runInstr
  simp only [h]

/-- An instruction that settles the core itself. -/
theorem issue_settled {t : State} (hr : Safety.Ready s k i) (h : mexec i f1 f2 k s.cores[k] s = .settled t) :
    issue k i f1 f2 s = t := by
  rw [issue_of_ready hr]
  unfold runInstr
  simp only [h]

/-- An instruction that waits leaves the lane as it is. -/
theorem issue_stall (hr : Safety.Ready s k i) (h : mexec i f1 f2 k s.cores[k] s = .stall) : issue k i f1 f2 s = s := by
  rw [issue_of_ready hr]
  unfold runInstr
  simp only [h]

/-- Taking a trap outside secure mode with TH dipped. -/
theorem takeTrap_entry {t : Cause} (hs : s.cores[k].sec = false) (ht : s.cores[k].st stTH = false) :
    takeTrap k t s = s.setCore k (trapEntry s.cores[k] s.cores[k].pc t) := by
  unfold takeTrap
  simp only [Fin.getElem_fin] at *
  simp [hs, ht]

/-- A trap while TH is hoisted is a double trap. -/
theorem takeTrap_double {t : Cause} (hs : s.cores[k].sec = false) (ht : s.cores[k].st stTH = true) :
    takeTrap k t s = doubleTrap k s := by
  unfold takeTrap
  simp only [Fin.getElem_fin] at *
  simp [hs, ht]

end Sys2Proof.Machine
end

