-- ==== Sys2Proof/Laws/Memory.lean ====
section
/-! SUPPORT. Every operation that writes memory keeps its canonical form, and memory has it at reset. -/

namespace Sys2Proof.Machine

variable (s : State)

theorem reset_mem_wf : Memory.wf State.reset.mem = true := by decide

theorem setWord_wf (a : Nat) (v : Word) (h : Memory.wf s.mem = true) : Memory.wf (s.setWord a v).mem = true :=
  Sparse.wf_put _ _ _ h

theorem setWords_wf (ws : List Word) (a : Nat) (h : Memory.wf s.mem = true) : Memory.wf (s.setWords a ws).mem = true := by
  induction ws generalizing s a with
  | nil => exact h
  | cons w r ih => exact ih _ _ (setWord_wf s a w h)

theorem store_wf (a : Nat) (v : Word) (h : Memory.wf s.mem = true) : Memory.wf (s.store a v).mem = true := by
  unfold State.store
  simp only []
  split
  · exact setWord_wf s a v h
  · exact setWord_wf s a v h

theorem clearBank_wf (b : Nat) (h : Memory.wf s.mem = true) : Memory.wf (clearBank b s).mem = true :=
  Sparse.wf_filter (fun a => !(inSram a && decide (bankOf a = b))) _ h

theorem resetTo_wf (keepR keepM : Nat → Bool) (h : Memory.wf s.mem = true) : Memory.wf (resetTo keepR keepM s).mem = true :=
  Sparse.wf_filter _ _ h

theorem cutMram_wf (h : Memory.wf s.mem = true) : Memory.wf (cutMram s).mem = true := by
  unfold cutMram
  split
  · exact h
  · simp only []
    split
    · exact setWord_wf _ _ _ h
    · exact h

theorem mramWriteComplete_wf (h : Memory.wf s.mem = true) : Memory.wf (mramWriteComplete s).mem = true := by
  unfold mramWriteComplete
  split
  · exact h
  · exact setWord_wf _ _ _ h

theorem awaitTag_wf (src n : Nat) (h : Memory.wf s.mem = true) : Memory.wf (awaitTag src n s).mem = true := by
  induction n generalizing s with
  | zero => exact h
  | succ n ih =>
    unfold awaitTag
    split
    · exact h
    · exact ih _ (mramWriteComplete_wf s h)

theorem mramEnqueue_wf (src a : Nat) (v : Word) (h : Memory.wf s.mem = true) :
    Memory.wf (mramEnqueue src a v s).mem = true := by
  unfold mramEnqueue
  refine awaitTag_wf _ _ _ ?_
  split
  · exact h
  · exact mramWriteComplete_wf s h


theorem sramWrite_wf (r : Req) (a : Nat) (v : Word) (h : Memory.wf s.mem = true) :
    Memory.wf (sramWrite r a v s).1.mem = true := by
  unfold sramWrite
  split
  · exact h
  · split
    · exact h
    · exact store_wf s a v h

theorem sramWords_wf (r : Req) (ws : List Word) (a : Nat) (h : Memory.wf s.mem = true) :
    Memory.wf (sramWords r a ws s).mem = true := by
  induction ws generalizing s a with
  | nil => exact h
  | cons w l ih =>
    refine ih _ _ ?_
    split
    · exact sramWrite_wf s r a w h
    · exact h

/-- Abandoned writes stay in the queue: memory does not change. -/
@[simp] theorem abandon_mem (src : Nat) : (abandon src s).mem = s.mem := rfl

/-- Registers keep theirs. -/
theorem setReg_wf (a : Nat) (v : Word) (h : Sparse.wf regReset s.regs = true) :
    Sparse.wf regReset (s.setReg a v).regs = true := Sparse.wf_put _ _ _ h

/-- The machine after reset is in canonical form. -/
theorem reset_canonical : Safety.Canonical State.reset := by
  unfold Safety.Canonical
  exact ⟨by decide, by decide⟩

end Sys2Proof.Machine
end

