-- ==== Sys2Proof/Tests/Slice0.lean ====
section
/-! SUPPORT. Tests of one operation each, and for every obligation with hypotheses a theorem that shows states and operands that
meet them: `witness_<obligation>`, one conjunct for each set of hypotheses. -/

open Sys2Proof Sys2Proof.Machine Sys2Proof.Moagar Sys2Proof.Sdp Sys2Proof.Safety

set_option maxRecDepth 10000

namespace Sys2Proof.Tests

set_option Elab.async false
set_option linter.unusedVariables false

/-! Commands that nothing can send, one for each check of WellFormed (R39, R67, R93, R124, R400, R470, R528, R531). -/

/-- NEG names RA alone. -/
theorem test_wf_unused_rb : (Moagar.MInstr.rrr .neg 1 2 3 0).wf = false := by decide
/-- ADD has no RC. -/
theorem test_wf_unused_rc : (Moagar.MInstr.rrr .add 1 2 3 4).wf = false := by decide
/-- CMP and CMPI write no register. -/
theorem test_wf_unused_rd : (Moagar.MInstr.rrr .cmp 1 2 3 0).wf = false ∧ (Moagar.MInstr.rri .cmpi 1 2 0).wf = false := by
  decide
/-- Of the multiplies MADQ alone has an addend, of the atomics CAS alone an expected value. -/
theorem test_wf_unused_third :
    (Moagar.MInstr.mul .mul 1 2 3 4).wf = false ∧ (Moagar.MInstr.atom .swap 1 2 3 4).wf = false := by decide
/-- R67 has no source 11, a class has two bits, and secure mode is a core's. -/
theorem test_wf_source : (Instr.keyld ⟨11, 3, false⟩).wf = false ∧ (Instr.keyld ⟨0, 4, false⟩).wf = false
    ∧ (Instr.keyld ⟨9, 2, true⟩).wf = false ∧ (Instr.keyld ⟨0, 3, true⟩).wf = true := by decide
/-- A failing read of a march names a word of SRAM, one of 8 elements, one of 4 backgrounds. -/
theorem test_wf_march_read : (⟨0x100000, 0, 0, 0⟩ : FailRead).wf = false
    ∧ (⟨0, 0, 8, 0⟩ : FailRead).wf = false ∧ (⟨0, 0, 0, 4⟩ : FailRead).wf = false := by decide
/-- A message has at most 69 words. -/
theorem test_wf_message : (Instr.joinMessage 1 true (List.replicate 70 0)).wf = false
    ∧ (Instr.inputMessage 1 false true (List.replicate 70 0)).wf = false
    ∧ (Instr.mirrorMessage 1 true (List.replicate 69 0)).wf = true := by decide
/-- A frame of the ring has at most 60 words of payload. -/
theorem test_wf_frame : (Instr.looped 0 ⟨0, 0, List.replicate 61 0, 0, false⟩ 0).wf = false := by decide
/-- An address has 24 bits. -/
theorem test_wf_address : (Instr.eccWriteBack 0x1000000).wf = false := by decide
/-- A record has at most 4,116 words, a service payload at most 255. -/
theorem test_wf_record : (Instr.owner (List.replicate 4117 0)).wf = false
    ∧ (Instr.fetch ⟨0, List.replicate 256 0, 0, false, false⟩).wf = false := by decide +kernel

/-! Words written out from R92 to R116: OP, RD, RA, RB, RC and the function, or the fields of the format. -/

theorem test_decode_arithmetic : Moagar.decode 0x000000000 = .rrr .add 0 0 0 0
    ∧ Moagar.decode 0x00A54A834 = .rrr .clamp 5 5 9 10 ∧ Moagar.decode 0b001000_00011_00100_11111111111111111111 = .rri .addi 3 4 0xFFFFF
    ∧ Moagar.decode 0b010000_00111_0000000000000000000000001 = .li 7 1 := by decide +kernel
theorem test_decode_multiply_divide : Moagar.decode 0x04A63A006 = .mul .madq 5 6 7 8
    ∧ Moagar.decode 0b000001_00001_00011_00100_00010_00_00001000 = .div .div 1 2 3 4 := by decide +kernel
theorem test_decode_octet : Moagar.decode 0x0C8201C00 = .ox 4 2 3 2 false := by decide +kernel
theorem test_decode_memory : Moagar.decode 0b010100_00001_00010_00000000000000010000 = .ld 1 2 0x10
    ∧ Moagar.decode 0b000100_00001_00010_00011_00000_00_00000000 = .atom .swap 1 2 3 0 := by decide +kernel
theorem test_decode_control : Moagar.decode 0b011000_00_0001_000000000000000000000101 = .bcond 1 5
    ∧ Moagar.decode 0b011001_000000_111111111111111111111110 = .call 0xFFFFFE := by decide +kernel
theorem test_decode_system : Moagar.decode 0b111111_00001_00000_001101_00000000_000010 = .mfc 1 13
    ∧ Moagar.decode 0b111111_00000_00000_000000_00000101_000100 = .trap 5 := by decide +kernel
theorem test_decode_undefined : Moagar.decode 0xFFFFFFFFF = .undef
    ∧ Moagar.decode 0b111111_00000_00000_000000_00000101_000101 = .undef := by decide +kernel

/-! Words of the signal datapath, written out from R338 to R343. -/

theorem test_sdp_control : Sdp.decode 0x000000000 = some (.ctl .nop) ∧ Sdp.decode 0x010000000 = some (.ctl .halt)
    ∧ Sdp.decode 0x040000005 = some (.jump .jmp 5) ∧ Sdp.decode 0x0A0000003 = some (.jump .sig 3)
    ∧ Sdp.decode 0x0A0000004 = none ∧ Sdp.decode 0x0C0000000 = none := by decide +kernel
theorem test_sdp_repeat : Sdp.decode 0b0001_00000010000_000_00_0000000000000011 = some (.rep 16 3)
    ∧ Sdp.decode 0b0010_00000010000_101_00_0000000000000000 = some (.repr 16 5) := by decide +kernel
theorem test_sdp_mac : Sdp.decode 0b0011_001_01_010_011_000000000_000000000_000 = some (.mac .mac 1 2 3 none none)
    ∧ Sdp.decode 0b0011_100_01_010_011_000000000_000000000_000 = none := by decide +kernel
theorem test_sdp_accumulator : Sdp.decode 0b0101_00000_01_10_000_00000000_000_000000000 = some (.acc .adda 1 2 0 0 none)
    ∧ Sdp.decode 0b0101_01111_01_10_000_00000000_000_000000000 = none := by decide +kernel
theorem test_sdp_data : Sdp.decode 0b0110_01000_001_010_011_00_000000_0_000000000 = some (.data .add 1 2 3 0 0 none)
    ∧ Sdp.decode 0b0110_01111_001_010_000_00_100100_0_000000000 = none := by decide +kernel
theorem test_sdp_loads : Sdp.decode 0b0111_011_0_0000000000000000000000000101 = some (.ldi 3 false 5)
    ∧ Sdp.decode 0b1000_1_010_001_000000000000000_0000000111 = some (.loc true 2 1 7)
    ∧ Sdp.decode 0b1001_0_010_001_00000_00000000000000000111 = some (.far false 2 1 7)
    ∧ Sdp.decode 0b1010_0000_011_000_00000000000_00000001001 = some (.idx .seti 3 0 9)
    ∧ Sdp.decode 0xB00000000 = none := by decide +kernel

/-! Published vectors of the outside standards: CRC-8 with polynomial 2Fh, initial FFh, final XOR FFh (check value of the digits 1 to
9), FIPS 197 appendix B, RFC 4493 example 1, FIPS 180-4. -/

theorem test_crc8_digits : crc8 [0x31, 0x32, 0x33, 0x34, 0x35, 0x36, 0x37, 0x38, 0x39] = 0xDF := by decide +kernel

theorem test_crc32c_digits : crc32c [0x31, 0x32, 0x33, 0x34, 0x35, 0x36, 0x37, 0x38, 0x39] = 0xE3069283 := by decide +kernel
theorem test_sha_abc : sha256 [0x61, 0x62, 0x63]
    = 0xba7816bf8f01cfea414140de5dae2223b00361a396177a9cb410ff61f20015ad := by decide +kernel
theorem test_aes_fips197 : natBE (aesEnc (octetsBE 16 0x2b7e151628aed2a6abf7158809cf4f3c)
    (octetsBE 16 0x3243f6a8885a308d313198a2e0370734)) = 0x3925841d02dc09fbdc118597196a0b32 := by decide +kernel
theorem test_cmac_rfc4493 : natBE (aesCmac (octetsBE 16 0x2b7e151628aed2a6abf7158809cf4f3c) [])
    = 0xbb1d6929e95937287fa37d129b756746 := by decide +kernel
theorem test_unwrap_rfc3394 : aesUnwrap (octetsBE 16 0x000102030405060708090a0b0c0d0e0f)
    [0x1fa68b0a8112b447, 0xaef34bd8fb5a7b82, 0x9d3e862371d2cfe5]
    = (0xa6a6a6a6a6a6a6a6, [0x0011223344556677, 0x8899aabbccddeeff]) := by decide +kernel

/-! States and operands that the witnesses share. -/

/-- A core that runs at PC a. -/
def runCore (a : Nat) : Core := { coreReset with pc := BitVec.ofNat 36 a, run := .running }
/-- The lane after its start-up, both pairs joined. -/
def up : State :=
  let s := { State.reset with cores := Vector.replicate 4 (runCore 0x100), pwr := { pwrReset with startDue := none } }
  (s.setFld F.LSC_STAT_P0ST 1).setFld F.LSC_STAT_P1ST 1
/-- A request of core 0 in secure mode, class 3. -/
def app : Req := ⟨0, 3, true⟩
/-- A state with fields of registers set. -/
def withF (s : State) (l : List (Fld × Nat)) : State := l.foldl (fun s f => s.setFld f.1 f.2) s
/-- A state with whole registers set. -/
def withR (s : State) (l : List (Nat × Word)) : State := l.foldl (fun s f => s.setReg f.1 f.2) s
/-- A state whose cores are all changed. -/
def withC (s : State) (f : Core → Core) : State := { s with cores := Vector.replicate 4 (f (runCore 0x100)) }
/-- A state in which q is the public key of the owner and of Heref. -/
def keyed (q : Nat) (l : List (Fld × Nat)) : State :=
  let ws := wordsOfNat 16 q
  let h := BitVec.ofNat 256 (shaOfWords ws)
  let f := { up.lcy.fuses with ownerHash := some h, herefKey := BitVec.ofNat 512 q, herefHash := h }
  { (withF up l).setWords sealOwner ws with lcy := { up.lcy with fuses := f } }
/-- Thirteen words of 5, wrapped under the device key of the reset state. -/
def wrapped : List Word :=
  [0x54FBE7BA, 0x7565F730, 0xF2A8832A, 0xA054DFA4, 0xA470C3D6, 0x11E5404C, 0xEEAD1363, 0x2448FFB0, 0x26FC1A0E,
    0xBB775235, 0x9459C69D, 0xC9B9444C, 0xB7F2CF3B, 0x0E94D129, 0xDB00F337, 0x489E4D64, 0x4B0C1700,
    0x5161113E]
/-- A state that holds that key block. -/
def withKeys (s : State) : State := s.setWords sealKeys wrapped
/-- The digests of an empty directory, an empty safety configuration and that key block. -/
def digests : List Word :=
  [0x4CF9816E, 0xD1062189, 0xFF0C8D42, 0x7FBA5E91, 0x2CC68FC9, 0xAF76CF7F, 0x08FD2559, 0x77DE3B33, 0x4CF9816E,
    0xD1062189, 0xFF0C8D42, 0x7FBA5E91, 0x2CC68FC9, 0xAF76CF7F, 0x08FD2559, 0x77DE3B33, 0x131FC6AE,
    0x366AAAC3, 0x03593788, 0x2C75670E, 0x73978037, 0x6FA066D8, 0xB41E3006, 0x96FEF8CF]
/-- A seal record whose signature is the digest of its own words, twice. -/
def sealRec (ty lanes seq addr : Nat) (p : List Word) : List Word :=
  let m := [BitVec.ofNat 36 (16 + ty * 2 ^ 8 + lanes * 2 ^ 16), BitVec.ofNat 36 seq, BitVec.ofNat 36 addr, BitVec.ofNat 36 p.length] ++ p
  let h := shaOfWords m
  m ++ wordsOfNat 8 h ++ wordsOfNat 8 h
/-- A lane that is a member of a formed three. -/
def sX : State :=
  { withF up [(F.XLA_CTRL_EN, 1), (F.XLA_STAT_FORMED, 1), (F.XLA_MEMB_CUR, 7), (F.HAL_RSTAT_LSTATE, 3), (F.XLA_SET_NIN, 2),
      (F.XLA_SET_NOUT, 2), (F.XLA_KEYSTAT_LOADED, 1), (F.XLA_MCFG_MBLKS, 4)] with ltime := 500 }
/-- A state with the hidden registers of the agreement unit changed. -/
def withX (s : State) (f : XlaHidden → XlaHidden) : State := { s with xla := f s.xla }
/-- A state with every peer of the agreement unit changed. -/
def withP (s : State) (f : XlaPeer → XlaPeer) : State := withX s (fun x => { x with peer := x.peer.map f })
/-- A message as lane x sends it. -/
def msgOf (x : Fin 3) (ty memb : Nat) (p : List Word) : XMsg := ownMsg { sX with lane := x } 0 ty 0 memb {} p
/-- A node engine in ring state st with both ports in state ps. -/
def sN (st ps : Nat) (l : List (Fld × Nat)) : State :=
  withF (withR up [(R.NCE_NTAB0, BitVec.allOnes 36), (R.NCE_SCHED 0 1, 0xC0)])
    ([(F.NCE_CTRL_EN, 1), (F.NCE_TSTAT_RSTATE, st), (F.NCE_STAT_PST0, ps), (F.NCE_STAT_PST1, ps), (F.NCE_NODE_NODE, 1)] ++ l)
/-- A frame of the ring of a type, from node 5. -/
def link (ty : Nat) : RFrame := mkFrame (5 * 2 ^ 55 + 2 * 2 ^ 42 + 5 * 2 ^ 28) [BitVec.ofNat 36 ty, 0, 50, 40, 60]
/-- A state with field control engine 1 on, its image of a type. -/
def sF (ty : Nat) (l : List (Fld × Nat)) (f : FceHidden → FceHidden) : State :=
  let img : List Word := BitVec.ofNat 36 ty :: List.replicate 321 0
  let h := { fceReset with img := Vector.replicate 2 img }
  { withF up ([(F.FCE_CTRL_EN 1, 1), (F.XLA_OSBASE_OSBASE, 0x1000), (F.COM_STAT_AVALID 1, 1), (F.FCE_CFG_CLS 1, 3)] ++ l) with
    fce := Vector.replicate 2 (f h) }
/-- A service frame with the right check octet. -/
def svf (c : Nat) (p : List Word) : SvpFrame :=
  ⟨0x40, p, crc8 (BitVec.ofNat 8 c :: BitVec.ofNat 8 p.length :: (packWords p).map (BitVec.ofNat 8)), false, false⟩
/-- A state at DTIME n. -/
def dt (n : Nat) (s : State) : State := { s with dlk := { s.dlk with dtime := BitVec.ofNat 72 n } }
/-- A state after step k of the frame, at LTIME t. -/
def stp (k t : Nat) (s : State) : State := { withX s (fun x => { x with xstep := k }) with ltime := BitVec.ofNat 72 t }
/-- A state at NTIME n. -/
def nt (n : Nat) (s : State) : State := { s with nce := { s.nce with ntime := BitVec.ofNat 72 n } }

/-! Witnesses of the hypotheses -/

theorem witness_WrappingArithmetic : (
      let s : State := up
      let k : Fin 4 := 0
      Free s k) := by
  dsimp only [Free]
  repeat' apply And.intro
  all_goals decide +kernel

theorem witness_SaturationAndTraps : (
      let s : State := withC up (fun c => (c.setC 0 0x6802).setG 1 0x800000000 |>.setG 2 (-1))
      let k : Fin 4 := 0
      let ra : GReg := 1
      let rb : GReg := 2
      let c := s.cores[k]
      let a := c.getG ra
      let b := c.getG rb
      Free s k ∧ c.st stOVT = true ∧ exceeds (a.toInt + b.toInt) = true ∧ exceeds (a.toInt * b.toInt) = true ∧ a =
        0x800000000 ∧ b = -1)
    ∧ (
      let s : State := up
      let k : Fin 4 := 0
      let n6 : BitVec 6 := 5
      Free s k ∧ s.cores[k].st stOVT = false ∧ n6.toNat ≤ 35)
    ∧ (
      let s : State := withC up (fun c => (c.setC 0 0x6802).setG 1 0x800000000 |>.setG 2 1)
      let k : Fin 4 := 0
      let ra : GReg := 1
      let rb : GReg := 2
      let c := s.cores[k]
      let a := c.getG ra
      let b := c.getG rb
      Free s k ∧ c.st stOVT = true ∧ exceeds (a.toInt - b.toInt) = true)
    ∧ (
      let s : State := withC up (fun c => (c.setC 0 0x6802))
      let k : Fin 4 := 0
      let rb : GReg := 5
      let c := s.cores[k]
      let b := c.getG rb
      Free s k ∧ c.st stDZT = true ∧ b = 0) := by
  refine ⟨?_, ?_, ?_, ?_⟩ <;> dsimp only [Free]
  all_goals repeat' apply And.intro
  all_goals decide +kernel

theorem witness_LogicAndShifts : (
      let s : State := up
      let k : Fin 4 := 0
      let n6 : BitVec 6 := 5
      let kind : BitVec 3 := 5
      let c := s.cores[k]
      Free s k ∧ n6.toNat ≤ 35 ∧ kind = 5 ∧ c.st stOVT = false)
    ∧ (
      let s : State := up
      let k : Fin 4 := 0
      let n6 : BitVec 6 := 35
      let kind : BitVec 3 := 0
      Free s k ∧ n6.toNat ≤ 35 ∧ kind = 0)
    ∧ (
      let s : State := up
      let k : Fin 4 := 0
      let n6 : BitVec 6 := 35
      let kind : BitVec 3 := 1
      Free s k ∧ n6.toNat ≤ 35 ∧ kind = 1)
    ∧ (
      let s : State := up
      let k : Fin 4 := 0
      let n6 : BitVec 6 := 35
      let kind : BitVec 3 := 2
      Free s k ∧ n6.toNat ≤ 35 ∧ kind = 2)
    ∧ (
      let s : State := up
      let k : Fin 4 := 0
      let n6 : BitVec 6 := 35
      let kind : BitVec 3 := 3
      Free s k ∧ n6.toNat ≤ 35 ∧ kind = 3)
    ∧ (
      let s : State := up
      let k : Fin 4 := 0
      let n6 : BitVec 6 := 36
      let kind : BitVec 3 := 5
      Free s k ∧ (35 < n6.toNat ∨ 6 ≤ kind.toNat)) := by
  refine ⟨?_, ?_, ?_, ?_, ?_, ?_⟩ <;> dsimp only [Free]
  all_goals repeat' apply And.intro
  all_goals decide +kernel

theorem witness_SelectionInstructions : (
      let s : State := up
      let k : Fin 4 := 0
      Free s k) := by
  dsimp only [Free]
  repeat' apply And.intro
  all_goals decide +kernel

theorem witness_MultipliesAndConversion : (
      let s : State := up
      let k : Fin 4 := 0
      let rd : GReg := 5
      Free s k ∧ (rd.val % 2 = 1 ∨ rd = 0))
    ∧ (
      let s : State := up
      let k : Fin 4 := 0
      let rd : GReg := 30
      Free s k ∧ rd.val % 2 = 0 ∧ rd ≠ 0) := by
  refine ⟨?_, ?_⟩ <;> dsimp only [Free]
  all_goals repeat' apply And.intro
  all_goals decide +kernel

theorem witness_Divisions : (
      let s : State := up
      let k : Fin 4 := 0
      let rb : GReg := 5
      let c := s.cores[k]
      let b := c.getG rb
      Free s k ∧ s.cores[k].st stDZT = false ∧ s.cores[k].st stOVT = false ∧ b = 0)
    ∧ (
      let s : State := withC up (fun c => c.setG 2 (-1))
      let k : Fin 4 := 0
      let rb : GReg := 2
      let c := s.cores[k]
      let b := c.getG rb
      Free s k ∧ s.cores[k].st stDZT = false ∧ s.cores[k].st stOVT = false ∧ b ≠ 0) := by
  refine ⟨?_, ?_⟩ <;> dsimp only [Free]
  all_goals repeat' apply And.intro
  all_goals decide +kernel

theorem witness_OctetInstructions : (
      let s : State := up
      let k : Fin 4 := 0
      let rd : GReg := 0
      let j : BitVec 4 := 8
      let sz : BitVec 2 := 1
      let ra : GReg := 0
      let n := 2 ^ sz.toNat
      let legal := sz.toNat < 3 ∧ j.toNat + n ≤ 9
      Free s k ∧ (¬legal) ∧ (ra.val % 2 = 1 ∨ ra = 0) ∧ (rd.val % 2 = 1 ∨ rd = 0))
    ∧ (
      let s : State := up
      let k : Fin 4 := 0
      let rd : GReg := 30
      let j : BitVec 4 := 8
      let sz : BitVec 2 := 0
      let ra : GReg := 30
      let n := 2 ^ sz.toNat
      let legal := sz.toNat < 3 ∧ j.toNat + n ≤ 9
      Free s k ∧ ra.val % 2 = 0 ∧ ra ≠ 0 ∧ legal ∧ rd.val % 2 = 0 ∧ rd ≠ 0) := by
  refine ⟨?_, ?_⟩ <;> dsimp only [Free]
  all_goals repeat' apply And.intro
  all_goals decide +kernel

theorem witness_LoadsReadTheFabric : (
      let s : State := withC up (fun c => c.setG 1 0xEFFFE)
      let k : Fin 4 := 0
      let rd : GReg := 30
      let ra : GReg := 1
      let imm : BitVec 20 := 0
      let f := Arrive.ok
      let t := s
      let v := (0 : Word)
      let g := Arrive.ok
      let u := s
      let e := (0 : Nat)
      let e2 := (0 : Nat)
      let w := (0 : Word)
      let c := s.cores[k]
      let ea := c.getG ra + imm.signExtend 36
      let free := fun (a : Nat) => inFlight c k s < 16 ∧ (0x800000 ≤ a → inFlight c k s = 0)
      let free2 := fun (a : Nat) => inFlight c k s < 15 ∧ (0x800000 ≤ a → inFlight c k s = 0)
      Ready s k (.ld rd ra imm) ∧ ea.toNat < 2 ^ 24 ∧ free ea.toNat ∧ SramGood s ea.toNat ∧ busReadA f (coreReq c k)
        ea.toNat s = (t, respOk, v) ∧ Ready s k (.ldp rd ra imm) ∧ rd.val % 2 = 0 ∧ rd ≠ 0 ∧ ea.toNat + 1 < 2 ^ 24 ∧
        free2 ea.toNat ∧ SramGood s (ea.toNat + 1) ∧ busReadA f (coreReq c k) ea.toNat s = (t, e, v) ∧ busReadA g
        (coreReq c k) (ea.toNat + 1) t = (u, e2, w) ∧ e = respOk ∧ e2 = respOk)
    ∧ (
      let s : State := withC up (fun c => c.setG 1 0xFFFFFF)
      let k : Fin 4 := 0
      let rd : GReg := 0
      let ra : GReg := 1
      let imm : BitVec 20 := 1
      let c := s.cores[k]
      let ea := c.getG ra + imm.signExtend 36
      Ready s k (.ld rd ra imm) ∧ 2 ^ 24 ≤ ea.toNat ∧ Ready s k (.ldp rd ra imm) ∧ (rd.val % 2 = 1 ∨ rd = 0))
    ∧ (
      let s : State := withC up (fun c => c.setG 1 0x7FFFFE)
      let k : Fin 4 := 0
      let rd : GReg := 30
      let ra : GReg := 1
      let imm : BitVec 20 := 0
      let f := Arrive.ok
      let t := s
      let e := (2 : Nat)
      let v := (0 : Word)
      let g := Arrive.ok
      let u := s
      let e2 := (2 : Nat)
      let w := (0 : Word)
      let c := s.cores[k]
      let ea := c.getG ra + imm.signExtend 36
      let free := fun (a : Nat) => inFlight c k s < 16 ∧ (0x800000 ≤ a → inFlight c k s = 0)
      let free2 := fun (a : Nat) => inFlight c k s < 15 ∧ (0x800000 ≤ a → inFlight c k s = 0)
      Ready s k (.ld rd ra imm) ∧ ea.toNat < 2 ^ 24 ∧ free ea.toNat ∧ busReadA f (coreReq c k) ea.toNat s = (t, e, v)
        ∧ e ≠ respOk ∧ Ready s k (.ldp rd ra imm) ∧ rd.val % 2 = 0 ∧ rd ≠ 0 ∧ ea.toNat + 1 < 2 ^ 24 ∧ free2 ea.toNat ∧
        busReadA g (coreReq c k) (ea.toNat + 1) t = (u, e2, w))
    ∧ (
      let s : State := withC up (fun c => c.setG 1 0xEFFFE)
      let k : Fin 4 := 0
      let rd : GReg := 30
      let ra : GReg := 1
      let imm : BitVec 20 := 0
      let f := Arrive.ok
      let g := Arrive.timeout
      let t := s
      let u := s
      let e := (0 : Nat)
      let e2 := respTimeout
      let v := (0 : Word)
      let w := (0 : Word)
      let c := s.cores[k]
      let ea := c.getG ra + imm.signExtend 36
      let free2 := fun (a : Nat) => inFlight c k s < 15 ∧ (0x800000 ≤ a → inFlight c k s = 0)
      Ready s k (.ldp rd ra imm) ∧ rd.val % 2 = 0 ∧ rd ≠ 0 ∧ ea.toNat + 1 < 2 ^ 24 ∧ free2 ea.toNat ∧ busReadA f
        (coreReq c k) ea.toNat s = (t, e, v) ∧ busReadA g (coreReq c k) (ea.toNat + 1) t = (u, e2, w) ∧ e = respOk ∧
        e2 ≠ respOk) := by
  refine ⟨?_, ?_, ?_, ?_⟩ <;> (dsimp only [Ready, SramGood]; decide +kernel)

theorem witness_StoresWriteOneAddress : (
      let s : State := withC up (fun c => c.setG 1 0xEFFFE)
      let k : Fin 4 := 0
      let rs : GReg := 30
      let ra : GReg := 1
      let imm : BitVec 20 := 0
      let c := s.cores[k]
      let ea := c.getG ra + imm.signExtend 36
      let cls := (coreReq c k).cls
      inFlight c k s < 16 ∧ Ready s k (.st rs ra imm) ∧ SramOpen s cls ea.toNat ∧ Ready s k (.stp rs ra imm) ∧
        inFlight c k s < 15 ∧ rs.val % 2 = 0 ∧ rs ≠ 0 ∧ SramOpen s cls (ea.toNat + 1))
    ∧ (
      let s : State := withC up (fun c => c.setG 1 0x7FFFFF)
      let k : Fin 4 := 0
      let rs : GReg := 30
      let ra : GReg := 1
      let imm : BitVec 20 := 0
      let f := Arrive.ok
      let t := s
      let e := respBus
      let tag := 0
      let c := s.cores[k]
      let ea := c.getG ra + imm.signExtend 36
      inFlight c k s < 16 ∧ Ready s k (.st rs ra imm) ∧ ea.toNat < 0x800000 ∧ e ≠ respOk ∧ e ≠ respStall ∧ freeTag
        k.val s = some tag ∧ busWriteA f (coreReq c k) ea.toNat (c.getG rs) s = (t, e)) := by
  refine ⟨?_, ?_⟩ <;> (dsimp only [Ready, SramOpen]; decide +kernel)

theorem witness_AtomicsOnSram : (
      let s : State := up
      let k : Fin 4 := 0
      let rd : GReg := 5
      let ra : GReg := 5
      let rb : GReg := 5
      let rc : GReg := 5
      let c := s.cores[k]
      let a := (c.getG ra).toNat
      let old := s.word a
      inFlight c k s < 16 ∧ SramGood s a ∧ SramOpen s (coreReq c k).cls a ∧ Ready s k (.atom .swap rd ra rb 0) ∧ Ready
        s k (.atom .aadd rd ra rb 0) ∧ Ready s k (.atom .cas rd ra rb rc) ∧ old = c.getG rc)
    ∧ (
      let s : State := withC up (fun c => c.setG 2 9)
      let k : Fin 4 := 0
      let rd : GReg := 5
      let ra : GReg := 5
      let rb : GReg := 5
      let rc : GReg := 2
      let c := s.cores[k]
      let a := (c.getG ra).toNat
      let old := s.word a
      inFlight c k s < 16 ∧ SramGood s a ∧ SramOpen s (coreReq c k).cls a ∧ Ready s k (.atom .cas rd ra rb rc) ∧ old ≠
        c.getG rc) := by
  refine ⟨?_, ?_⟩ <;> (dsimp only [Ready, SramGood, SramOpen]; decide +kernel)

theorem witness_ControlTransfer : (
      let s : State := up
      let k : Fin 4 := 0
      let ra : GReg := 5
      let imm : BitVec 20 := 5
      let cond : BitVec 4 := 5
      let off : BitVec 24 := 0xFFFEFF
      let c := s.cores[k]
      let z := bit (c.getC 1) 0
      let n := bit (c.getC 1) 1
      let cy := bit (c.getC 1) 2
      let v := bit (c.getC 1) 3
      let holds := [z, !z, n != v, n == v, !z && (n == v), z || (n != v), !cy, cy, cy && !z, !cy || z, n, !n, v, !v,
        true]
      let rel := c.pc + off.signExtend 36
      let ind := c.getG ra + imm.signExtend 36
      Free s k ∧ cond ≠ 15 ∧ holds.getD cond.toNat false = false ∧ 2 ^ 24 ≤ rel.toNat ∧ ind.toNat < 2 ^ 24)
    ∧ (
      let s : State := up
      let k : Fin 4 := 0
      let cond : BitVec 4 := 15
      Free s k ∧ cond = 15)
    ∧ (
      let s : State := up
      let k : Fin 4 := 0
      let cond : BitVec 4 := 14
      let off : BitVec 24 := 0
      let c := s.cores[k]
      let z := bit (c.getC 1) 0
      let n := bit (c.getC 1) 1
      let cy := bit (c.getC 1) 2
      let v := bit (c.getC 1) 3
      let holds := [z, !z, n != v, n == v, !z && (n == v), z || (n != v), !cy, cy, cy && !z, !cy || z, n, !n, v, !v,
        true]
      let rel := c.pc + off.signExtend 36
      Free s k ∧ rel.toNat < 2 ^ 24 ∧ holds.getD cond.toNat false = true)
    ∧ (
      let s : State := withC up (fun c => c.setG 1 0xFFFFFF)
      let k : Fin 4 := 0
      let ra : GReg := 1
      let imm : BitVec 20 := 1
      let c := s.cores[k]
      let ind := c.getG ra + imm.signExtend 36
      Free s k ∧ 2 ^ 24 ≤ ind.toNat) := by
  refine ⟨?_, ?_, ?_, ?_⟩ <;> dsimp only [Free]
  all_goals repeat' apply And.intro
  all_goals decide +kernel

theorem witness_ControlRegisters : (
      let s : State := up
      let k : Fin 4 := 0
      let n : BitVec 6 := 5
      let w := Moagar.encode .nop
      let c := s.cores[k]
      let i := n.toNat
      let plain := i ≤ 1 ∨ (3 ≤ i ∧ i ≤ 8) ∨ (16 ≤ i ∧ i ≤ 23) ∨ (26 ≤ i ∧ i ≤ 27) ∨ (32 ≤ i ∧ i ≤ 47)
      Free s k ∧ Moagar.decode w = .nop ∧ inFlight c k s = 0 ∧ plain ∧ (i = 3 ∨ i = 4 ∨ i = 5 ∨ i = 6 ∨ i = 8 ∨ (16 ≤
        i ∧ i ≤ 23) ∨ (32 ≤ i ∧ i ≤ 47)))
    ∧ (
      let s : State := withC up (fun c => (c.setC 0 0x1800))
      let k : Fin 4 := 0
      let n : BitVec 6 := 13
      let i := n.toNat
      let ro := i = 2 ∨ (9 ≤ i ∧ i ≤ 15) ∨ i = 26 ∨ i = 27
      Free s k ∧ i = 13 ∧ ro)
    ∧ (
      let s : State := withC up (fun c => (c.setC 0 0x1800))
      let k : Fin 4 := 0
      let n : BitVec 6 := 11
      let i := n.toNat
      Free s k ∧ i = 11)
    ∧ (
      let s : State := withC up (fun c => (c.setC 0 0x1800))
      let k : Fin 4 := 0
      let n : BitVec 6 := 48
      let i := n.toNat
      Free s k ∧ 48 ≤ i)
    ∧ (
      let s : State := withC up (fun c => (c.setC 0 0x1800))
      let k : Fin 4 := 0
      let n : BitVec 6 := 24
      let c := s.cores[k]
      let i := n.toNat
      let secure := i = 24 ∨ i = 25 ∨ (28 ≤ i ∧ i ≤ 31)
      Free s k ∧ secure ∧ c.sec = false)
    ∧ (
      let s : State := withC up (fun c => (c.setC 0 0x1800))
      let k : Fin 4 := 0
      let n : BitVec 6 := 1
      let i := n.toNat
      Free s k ∧ i = 1)
    ∧ (
      let s : State := withC up (fun c => (c.setC 0 0x1800))
      let k : Fin 4 := 0
      let r : GReg := 5
      let n : BitVec 6 := 0
      let c := s.cores[k]
      let i := n.toNat
      let v := c.getG r
      Free s k ∧ i = 0 ∧ getBits v 11 2 ≠ 3)
    ∧ (
      let s : State := up
      let k : Fin 4 := 0
      let w := 0xFFFFFFFFF
      Free s k ∧ Moagar.decode w = .undef) := by
  refine ⟨?_, ?_, ?_, ?_, ?_, ?_, ?_, ?_⟩ <;> dsimp only [Free]
  all_goals repeat' apply And.intro
  all_goals decide +kernel

theorem witness_TrapAndInterruptEntry : (
      let s : State := withC up (fun c => (c.setC 0 0x1800))
      let k : Fin 4 := 0
      let t : Cause := ⟨63, 255, 0, false, false⟩
      let j : Fin 4 := 2
      let c := s.cores[k]
      t.code < 64 ∧ t.detail < 256 ∧ s.cores[k].st stTH = false ∧ c.sec = false ∧ pairOfCore j ≠ pairOfCore k)
    ∧ (
      let s : State := up
      let k : Fin 4 := 0
      let t : Cause := ⟨63, 255, 0, false, false⟩
      let c := s.cores[k]
      t.code < 64 ∧ t.detail < 256 ∧ s.cores[k].st stTH = false ∧ c.sec = true)
    ∧ (
      let s : State := withR (withC up (fun c => { c.setC 0 0x1801 with afterIret := true })) [(R.INT_CFG 24, 0x1F),
        (R.INT_PEND 0, 0x1000000)]
      let k : Fin 4 := 0
      let n : Nat := 24
      let t : State := leaveIdle (acknowledge 24 s)
      let v : Word := 0
      let c := s.cores[k]
      let a := c.getC 4 + BitVec.ofNat 36 n
      n < 256 ∧ atBoundary s k = true ∧ a.toNat < 2 ^ 24 ∧ winner s (fun m => sourceFor s (codesOf s (targetOf k)) m
        && takeable c (s.fld (F.INT_CFG_LEVEL m))) = some n ∧ busReadA .ok (coreReq c k) a.toNat (leaveIdle
        (acknowledge n s)) = (t, respOk, v) ∧ c.afterIret = true ∧ c.dhalt = false) := by
  refine ⟨?_, ?_, ?_⟩ <;> decide +kernel

theorem witness_TrapsAndReturns : (
      let s : State := withC up (fun c => (c.setC 0 0x1800))
      let k : Fin 4 := 0
      let c := s.cores[k]
      Free s k ∧ c.sec = false ∧ c.st stTH = false ∧ attached s = false ∧ c.act = 0)
    ∧ (
      let s : State := withC up (fun c => (c.setC 0 0x1804))
      let k : Fin 4 := 0
      let c := s.cores[k]
      Free s k ∧ c.st stTH = true)
    ∧ (
      let s : State := withC up (fun c => (c.setC 0 0x1C08))
      let k : Fin 4 := 0
      let l : Nat := 7
      let c := s.cores[k]
      Free s k ∧ l < 8 ∧ 2 ^ l ≤ c.act ∧ c.act < 2 ^ (l + 1)) := by
  refine ⟨?_, ?_, ?_⟩ <;> dsimp only [Free]
  all_goals repeat' apply And.intro
  all_goals decide +kernel

theorem witness_WaitsAndSubmission : (
      let s : State := up
      let k : Fin 4 := 0
      let c := s.cores[k]
      Free s k ∧ routed s k = false ∧ safetyIssuer s k = true ∧ (s.lsc.release = none ∨ takeNow s k ≠ none) ∧ inFlight
        c k s = 0 ∧ (coreReq c k).cls < 2)
    ∧ (
      let s : State := withR up [(R.INT_CFG 24, 0x1F), (R.INT_PEND 0, 0x1000000)]
      let k : Fin 4 := 0
      Free s k ∧ routed s k = true)
    ∧ (
      let s : State := { up with lsc := { up.lsc with release := some ⟨5, true⟩ } }
      let k : Fin 4 := 0
      let r := (⟨5, true⟩ : Release)
      Free s k ∧ safetyIssuer s k = true ∧ takeNow s k = none ∧ s.lsc.release = some r)
    ∧ (
      let s : State := up
      let k : Fin 4 := 2
      Free s k ∧ safetyIssuer s k = false)
    ∧ (
      let s : State := withC up (fun c => (c.setC 0 0x1000))
      let k : Fin 4 := 0
      let c := s.cores[k]
      Free s k ∧ inFlight c k s = 0 ∧ 2 ≤ (coreReq c k).cls ∧ safetyIssuer s k = true ∧ ((xsubStatus s = 0 → ∀ j <
        xNout s, SramGood s (s.fld F.XLA_OSBASE_OSBASE + j))))
    ∧ (
      let s : State := { withR up [(R.INT_CFG 24, 0x1F), (R.INT_PEND 0, 0x1000000)] with
        cores := Vector.replicate 4 { runCore 0x100 with wait := .wfi } }
      let k : Fin 4 := 0
      let c := s.cores[k]
      coreLive s k = true ∧ c.wait = .wfi ∧ routed s k = true)
    ∧ (
      let s : State := { withC up (fun c => { c with wait := .waitf 5 }) with
        lsc := { up.lsc with release := some ⟨5, false⟩ } }
      let k : Fin 4 := 0
      let rd : GReg := 5
      let r := (⟨5, false⟩ : Release)
      let c := s.cores[k]
      coreLive s k = true ∧ c.wait = .waitf rd ∧ s.lsc.release = some r ∧ takeNow s k = none) := by
  refine ⟨?_, ?_, ?_, ?_, ?_, ?_, ?_⟩ <;> dsimp only [Free, SramGood]
  all_goals repeat' apply And.intro
  all_goals decide +kernel

theorem witness_SplitHoistAndDip : (
      let s : State := { withC up (fun c => c.setC 0 0x8800) with split := #v[true, true] }
      let k : Fin 4 := 0
      let n : BitVec 8 := 5
      let c := s.cores[k]
      let p := pairOfCore k
      let i := n.toNat
      Free s k ∧ ((c.st stSPLIT = true ∨ c.sec = true ∨ (isSafety s p = true ∧ splitForbidden s = true))) ∧ c.st
        stSPLIT = true ∧ c.sec = false ∧ c.joinLeft = none ∧ c.joinOver = false ∧ i ≤ 143 ∧ inFlight c k s = 0 ∧ i <
        136 ∧ (flagLatched i = true ∨ flagClass s i = none))
    ∧ (
      let s : State := up
      let k : Fin 4 := 0
      let n : BitVec 8 := 143
      let c := s.cores[k]
      let i := n.toNat
      Free s k ∧ i ≤ 143 ∧ inFlight c k s = 0 ∧ 136 ≤ i ∧ flagLatched i = false ∧ flagClass s i ≠ none)
    ∧ (
      let s : State := withC up (fun c => (c.setC 0 0x1800))
      let k : Fin 4 := 0
      let rd : GReg := 5
      let c := s.cores[k]
      let p := pairOfCore k
      Free s k ∧ c.st stSPLIT = false ∧ c.sec = false ∧ (isSafety s p && splitForbidden s) = false ∧ rd ≠ 0)
    ∧ (
      let s : State := { withC up (fun c => { c.setC 0 0x8800 with wait := .join 7, joinLeft := some (some 0) }) with
        split := #v[true, true] }
      let k : Fin 4 := 0
      let rd : GReg := 7
      let r2 := (7 : GReg)
      let c := s.cores[k]
      let p := pairOfCore k
      clocked s = true ∧ s.split[p] = true ∧ k = leadOf p ∧ c.wait = .join rd ∧ c.joinOver = false ∧ s.cores[shadowOf
        p].wait = .join r2 ∧ s.cores[shadowOf p].joinOver = false ∧ inFlight c k s = 0 ∧ inFlight s.cores[shadowOf p]
        (shadowOf p) s = 0)
    ∧ (
      let s : State := { up with
        cores := #v[{ runCore 0x100 with wait := .join 7, joinLeft := some (some 0) }, runCore 0x100, runCore 0x100,
          runCore 0x100], split := #v[true, false] }
      let k : Fin 4 := 0
      let rd : GReg := 7
      let c := s.cores[k]
      coreLive s k = true ∧ c.wait = .join rd ∧ ((c.joinOver = true ∨ c.joinLeft = some (some 0) ∧ joinWaits
        s.cores[otherCore k] = false)) ∧ rd ≠ 0)
    ∧ (
      let s : State := up
      let k : Fin 4 := 0
      let n : BitVec 8 := 144
      let i := n.toNat
      Free s k ∧ 143 < i) := by
  refine ⟨?_, ?_, ?_, ?_, ?_, ?_⟩ <;> dsimp only [Free]
  all_goals repeat' apply And.intro
  all_goals decide +kernel

theorem witness_SecureModeAndStoreErrors : (
      let s : State := withC up (fun c => { (c.setC 24 1).setC 27 0 with firstSec := false })
      let k : Fin 4 := 0
      let c := s.cores[k]
      Free s k ∧ c.sec = true ∧ coreLive s k = true ∧ c.firstSec = false ∧ c.getC 24 ≠ 0 ∧ c.getC 27 = 0 ∧ c.st stTH =
        false)
    ∧ (
      let s : State := withC up (fun c => (c.setC 0 0x1800))
      let k : Fin 4 := 0
      let g : BitVec 6 := 63
      let f := Arrive.ok
      let t := s
      let v := (0 : Word)
      let c := s.cores[k]
      let a := c.getC 25 + BitVec.ofNat 36 g.toNat
      Free s k ∧ c.sec = false ∧ a.toNat < 2 ^ 24 ∧ inFlight c k s = 0 ∧ busReadA f ⟨k.val, 3, true⟩ a.toNat s = (t,
        respOk, v) ∧ v.toNat < 2 ^ 24)
    ∧ (
      let s : State := withC up (fun c => { c.setC 0 0x1800 with stErr := [⟨5, 5, 255⟩] })
      let k : Fin 4 := 0
      let tag := 5
      let b := (5 : Nat)
      let e := (255 : Nat)
      let r := ([] : List StoreError)
      let c := s.cores[k]
      coreLive s k = true ∧ c.stErr = ⟨tag, b, e⟩ :: r ∧ e < 256 ∧ c.sec = false ∧ c.st stTH = false)
    ∧ (
      let s : State := withC up (fun c => (c.setC 0 0x1800))
      let k : Fin 4 := 0
      let g : BitVec 6 := 0
      let f := Arrive.timeout
      let t := s
      let e := respTimeout
      let v := (0 : Word)
      let c := s.cores[k]
      let a := c.getC 25 + BitVec.ofNat 36 g.toNat
      Free s k ∧ c.sec = false ∧ a.toNat < 2 ^ 24 ∧ inFlight c k s = 0 ∧ busReadA f ⟨k.val, 3, true⟩ a.toNat s = (t,
        e, v) ∧ e ≠ respOk) := by
  refine ⟨?_, ?_, ?_, ?_⟩ <;> dsimp only [Free]
  all_goals repeat' apply And.intro
  all_goals decide +kernel

theorem witness_MoagarEncodeDecode : (
      let i : MInstr := .rrr .clamp 31 30 29 28
      i.wf = true ∧ i ≠ .undef) := by
  decide +kernel

theorem witness_SdpDataInstructions : (
      let s : State := withF up [(F.SDP_STAT_STATE, 1)]
      let dd : Fin 8 := 7
      let n : BitVec 6 := 36
      let mv : Option SMove := some ⟨false, 7, 1, true⟩
      let ms := mv.toList
      SdpGo s ms ∧ movesClash none ms = false ∧ movesClash (some dd) ms = true ∧ 35 < n.toNat)
    ∧ (
      let s : State := withF up [(F.SDP_STAT_STATE, 1)]
      let dd : Fin 8 := 0
      let n : BitVec 6 := 35
      let mv : Option SMove := none
      let ms := mv.toList
      SdpGo s ms ∧ movesClash (some dd) ms = false ∧ n.toNat ≤ 35) := by
  refine ⟨?_, ?_⟩ <;> (dsimp only [SdpGo]; decide +kernel)

theorem witness_SdpAccumulatorsAndMacs : (
      let s : State := withF up [(F.SDP_STAT_STATE, 1)]
      let ds : Fin 8 := 0
      let n : BitVec 8 := 255
      let mv : Option SMove := none
      let ms := mv.toList
      SdpGo s ms ∧ movesClash none ms = false ∧ n ≠ 0 ∧ movesClash (some ds) ms = false)
    ∧ (
      let s : State := withF up [(F.SDP_STAT_STATE, 1)]
      let mop : BitVec 3 := 7
      let mv0 : Option SMove := none
      let mv1 : Option SMove := none
      let ms := mv0.toList ++ mv1.toList
      SdpGo s ms ∧ 4 ≤ mop.toNat)
    ∧ (
      let s : State := { withF up [(F.SDP_STAT_STATE, 1)] with
        sdp := { up.sdp with bank := Vector.replicate 2 { sdpBank up with i := #v[0, 1, 2, 3, 4, 5, 6, 1023] } } }
      let mop : BitVec 3 := 0
      let mv0 : Option SMove := some ⟨false, 7, 1, true⟩
      let mv1 : Option SMove := some ⟨true, 3, 7, false⟩
      let ms := mv0.toList ++ mv1.toList
      SdpGo s ms ∧ movesClash none ms = false ∧ mop = 0)
    ∧ (
      let s : State := withF up [(F.SDP_STAT_STATE, 1)]
      let mop : BitVec 3 := 1
      let mv0 : Option SMove := none
      let mv1 : Option SMove := none
      let ms := mv0.toList ++ mv1.toList
      SdpGo s ms ∧ movesClash none ms = false ∧ mop = 1)
    ∧ (
      let s : State := withF up [(F.SDP_STAT_STATE, 1)]
      let mop : BitVec 3 := 2
      let mv0 : Option SMove := none
      let mv1 : Option SMove := none
      let ms := mv0.toList ++ mv1.toList
      SdpGo s ms ∧ movesClash none ms = false ∧ mop = 2)
    ∧ (
      let s : State := withF up [(F.SDP_STAT_STATE, 1)]
      let mop : BitVec 3 := 3
      let mv0 : Option SMove := none
      let mv1 : Option SMove := none
      let ms := mv0.toList ++ mv1.toList
      SdpGo s ms ∧ movesClash none ms = false ∧ mop = 3)
    ∧ (
      let s : State := { withF up [(F.SDP_STAT_STATE, 1)] with
        sdp := { up.sdp with bank := Vector.replicate 2 { sdpBank up with pipe2 := [⟨3, .mac, 5⟩] } } }
      let u : MacOp := ⟨3, .mac, 5⟩
      let o := sdpBank s
      clocked s = true ∧ sdpState s = sdpRunning ∧ upsetAt s (0x850800 + o.pc.toNat) = none ∧ o.loops = [] ∧ o.pipe2 =
        [u]) := by
  refine ⟨?_, ?_, ?_, ?_, ?_, ?_, ?_⟩ <;> (dsimp only [SdpGo]; decide +kernel)

theorem witness_SdpControlInstructions : (
      let s : State := withF up [(F.SDP_STAT_STATE, 1)]
      let tgt : BitVec 11 := 3
      let w := 5
      let o := sdpBank s
      SdpGo s [] ∧ Sdp.decode w = none ∧ sdpInFlight s = 0 ∧ tgt.toNat ≤ 3 ∧ s.fldB F.SDP_STAT_INFI = false ∧
        o.pc.toNat < tgt.toNat)
    ∧ (
      let s : State := withF up [(F.SDP_STAT_STATE, 1), (F.SDP_STAT_INFI, 1), (F.SDP_STAT_BANK, 1)]
      let tgt : BitVec 11 := 0
      let o := sdpBank s
      SdpGo s [] ∧ s.fldB F.SDP_STAT_INFI = true ∧ s.fld F.SDP_STAT_BANK = 1 ∧ tgt.toNat ≤ o.pc.toNat)
    ∧ (
      let s : State := withF up [(F.SDP_STAT_STATE, 1)]
      let tgt : BitVec 11 := 4
      SdpGo s [] ∧ 3 < tgt.toNat)
    ∧ (
      let s : State := { withF up [(F.SDP_STAT_STATE, 1)] with
        sdp := { up.sdp with bank := Vector.replicate 2 { sdpBank up with loops := [⟨3, 0, 2⟩] } } }
      let l : SdpLoop := ⟨3, 0, 2⟩
      let o := sdpBank s
      clocked s = true ∧ sdpState s = sdpRunning ∧ upsetAt s (0x850800 + o.pc.toNat) = none ∧ o.loops = [l] ∧ o.pipe2
        = [] ∧ l.last = o.pc) := by
  refine ⟨?_, ?_, ?_, ?_⟩ <;> (dsimp only [SdpGo]; decide +kernel)

theorem witness_SdpLoadsAndAddresses : (
      let s : State := withF up [(F.SDP_STAT_STATE, 1)]
      let ds : Fin 8 := 0
      let k : Fin 8 := 0
      let imm : BitVec 11 := 1023
      let i28 : BitVec 28 := 0x3FFFF
      let disp : BitVec 10 := 5
      let i20 : BitVec 20 := 5
      let o := sdpBank s
      let la := 0x850400 + (o.i[k] + disp).toNat
      let ea := o.d[ds] + i20.signExtend 36
      SdpGo s [] ∧ i28.toNat < 2 ^ 18 ∧ upsetAt s la = none ∧ SramGood s ea.toNat ∧ sdpInFlight s < 8 ∧ SramOpen s
        (s.fld F.SDP_CTRL_CLS) ea.toNat ∧ imm.toNat < 1024)
    ∧ (
      let s : State := withF up [(F.SDP_STAT_STATE, 1)]
      let imm : BitVec 11 := 1024
      let i28 : BitVec 28 := 0x40000
      SdpGo s [] ∧ 2 ^ 18 ≤ i28.toNat ∧ 1024 ≤ imm.toNat)
    ∧ (
      let s : State := { withF up [(F.SDP_STAT_STATE, 1)] with
        sdp := { up.sdp with bank := Vector.replicate 2 { sdpBank up with d := Vector.replicate 8 0xFFFFFF } } }
      let ds : Fin 8 := 0
      let i20 : BitVec 20 := 1
      let o := sdpBank s
      let ea := o.d[ds] + i20.signExtend 36
      SdpGo s [] ∧ 2 ^ 24 ≤ ea.toNat) := by
  refine ⟨?_, ?_, ?_⟩ <;> (dsimp only [SramGood, SramOpen, SdpGo]; decide +kernel)

theorem witness_SdpStartAndStop : (
      let s : State := withF up [(F.SDP_TMR_EN, 1), (F.SDP_TMR_PER, 1)]
      let rq : Req := app
      Accepts s rq R.SDP_CTRL ∧ (sdpState s = sdpStopped ∨ sdpState s = sdpHalted) ∧ Accepts s rq R.SDP_CMD ∧ clocked
        s = true ∧ s.fldB F.SDP_TMR_EN = true ∧ s.fld F.SDP_TMR_PER ≠ 0)
    ∧ (
      let s : State := withR (withF (withF up [(F.SDP_STAT_STATE, 1)]) [(F.SDP_CTRL_FIEN, 1)]) [(R.INT_CFG 5, 0x9F),
        (R.INT_PEND 0, 0x20)]
      let rq : Req := app
      let n : Nat := 5
      let live := sdpState s = sdpRunning ∨ sdpState s = sdpWaiting
      Accepts s rq R.SDP_CTRL ∧ live ∧ clocked s = true ∧ s.fldB F.SDP_CTRL_FIEN = true ∧ s.fldB F.SDP_STAT_INFI =
        false ∧ s.fld F.SDP_STAT_BANK = 0 ∧ topOf s 4 = some n ∧ n < 256)
    ∧ (
      let s : State := { withF up [(F.SDP_STAT_STATE, 1)] with sdp := { up.sdp with stErr := [⟨5, 5, 15⟩] } }
      let tag := 5
      let a := 5
      let e := (15 : Nat)
      let live := sdpState s = sdpRunning ∨ sdpState s = sdpWaiting
      clocked s = true ∧ s.sdp.stErr = [⟨tag, a, e⟩] ∧ e < 16 ∧ live)
    ∧ (
      let s : State := { up with sdp := { up.sdp with stErr := [⟨5, 5, 15⟩] } }
      let tag := 5
      let a := 5
      let e := (15 : Nat)
      let live := sdpState s = sdpRunning ∨ sdpState s = sdpWaiting
      clocked s = true ∧ s.sdp.stErr = [⟨tag, a, e⟩] ∧ e < 16 ∧ (¬live)) := by
  refine ⟨?_, ?_, ?_, ?_⟩ <;> (dsimp only [Accepts]; decide +kernel)

theorem witness_IdleCycleAdvances : (
      let s : State := up
      s.pending = [] ∧ s.pwr.startDue = none ∧ clocked s = true)
    ∧ (
      let s : State := State.reset
      s.pending = [] ∧ (s.pwr.startDue.isSome = true ∨ s.pwr.pstate = .deep ∨ s.pwr.pstate = .off))
    ∧ (
      let s : State := { up with pwr := { up.pwr with pstate := .sleep } }
      s.pending = [] ∧ s.pwr.startDue = none ∧ s.pwr.pstate = .sleep ∧ s.corrN = 0) := by
  refine ⟨?_, ?_, ?_⟩ <;> decide +kernel

theorem witness_ResetsAndClockFault : (
      let s : State := up
      let rq : Req := app
      Accepts s rq R.SYS_RST ∧ clocked s = true ∧ Accepts s rq R.BIST_CMD ∧ destructiveAllowed s = true ∧ s.lstate ≠
        lsVoting)
    ∧ (
      let s : State := withF up [(F.HAL_RSTAT_LSTATE, 3)]
      let rq : Req := app
      Accepts s rq R.BIST_CMD ∧ ((destructiveAllowed s = false ∨ s.lstate = lsVoting))) := by
  refine ⟨?_, ?_⟩ <;> (dsimp only [Accepts]; decide +kernel)

theorem witness_StartUpRuns : (
      let s : State := up
      (s.pwr.startDue = none ∨ s.svp.silent = true) ∧ clocked s = true ∧ putDue s = true ∧ s.fld F.BIST_PUTMAX_H ≠ 0 ∧
        ((∃ i, i < 3 ∧ s.fld F.BIST_PUTMAX_H < putAge s i)))
    ∧ (
      let s : State := State.reset
      let r : StartUpRun := ⟨true, 0, [], [], 0, ⟨BitVec.allOnes 64, true, true⟩, ⟨BitVec.allOnes 64, true, true⟩,
        true, true, .passed, 0, 0, 0⟩
      let form : Nat := 1
      s.pwr.startDue = some form ∧ s.pwr.pstate = .run ∧ s.svp.silent = false ∧ r.fusesRead = true ∧ form ≠ formWake ∧
        lifeOf (s.lcy.fuses.life ||| r.lifeBad) ≠ lcScrapped ∧ s.lstate = lsOffline ∧ pairRetired s 0 = false ∧
        s.health (leadOf 0) = hcInUse ∧ s.health (shadowOf 0) = hcInUse)
    ∧ (
      let s : State := State.reset
      let r : StartUpRun := ⟨false, 0, [], [], 0, ⟨BitVec.allOnes 64, true, true⟩, ⟨BitVec.allOnes 64, true, true⟩,
        true, true, .passed, 0, 0, 0⟩
      let form : Nat := 1
      s.pwr.startDue = some form ∧ s.pwr.pstate = .run ∧ s.svp.silent = false ∧ r.fusesRead = false)
    ∧ (
      let s : State := State.reset
      let r : StartUpRun := ⟨true, 16, [], [], 0, ⟨BitVec.allOnes 64, true, true⟩, ⟨BitVec.allOnes 64, true, true⟩,
        true, true, .passed, 0, 0, 0⟩
      let form : Nat := 1
      s.pwr.startDue = some form ∧ s.pwr.pstate = .run ∧ s.svp.silent = false ∧ r.fusesRead = true ∧ form < 4 ∧ lifeOf
        (s.lcy.fuses.life ||| r.lifeBad) = lcScrapped)
    ∧ (
      let s : State := { up with pwr := { up.pwr with putAt := some 5 } }
      let d : DWord := 5
      s.pwr.putAt = some d ∧ s.dlk.dtime.toNat < d.toNat + 3600000000000) := by
  refine ⟨?_, ?_, ?_, ?_, ?_⟩ <;> decide +kernel

theorem witness_PowerStatesAndDomains : (
      let s : State := up
      let rq : Req := app
      let d : Fin 5 := 0
      let off : BitVec 5 := 5
      Accepts s rq R.PWR_DOMOFF ∧ off.getLsbD d.val = true ∧ domainPowered s d.val = true ∧ domainIdle s d.val = true
        ∧ clocked s = true)
    ∧ (
      let s : State := withF up [(F.PWR_DOMST_PWRD, 15)]
      let rq : Req := app
      let d : Fin 5 := 4
      let off : BitVec 5 := 5
      Accepts s rq R.PWR_DOMOFF ∧ (off.getLsbD d.val = false ∨ domainIdle s d.val = false) ∧ clocked s = true ∧
        domainPowered s d.val = false) := by
  refine ⟨?_, ?_⟩ <;> (dsimp only [Accepts]; decide +kernel)

theorem witness_CalendarAndMonitors : (
      let s : State := up
      let rq : Req := app
      let which : Fin 3 := 0
      let d : BitVec 8 := 5
      Accepts s rq R.RTC_CMD ∧ Accepts s rq R.RTC_XREF ∧ Accepts s rq (alarmReg which) ∧ (s.rtc.stopped = true ∨
        s.dlk.dtime.toNat < s.rtc.tickAt.toNat + 100000) ∧ clocked s = true ∧ d.toInt.natAbs ≤ 20 ∧ s.pwr.pstate ≠
        .off)
    ∧ (
      let s : State := dt 200000 up
      clocked s = true ∧ s.rtc.stopped = false ∧ s.rtc.tickAt.toNat + 100000 ≤ s.dlk.dtime.toNat)
    ∧ (
      let s : State := up
      let d : BitVec 8 := 100
      clocked s = true ∧ 20 < d.toInt.natAbs) := by
  refine ⟨?_, ?_, ?_⟩ <;> (dsimp only [Accepts]; decide +kernel)

theorem witness_MemoryControllerEvents : (
      let s : State := up
      let a : Nat := 5
      let now := s.dlk.dtime.toNat
      now < s.memc.wipeAt.toNat + 32768 ∧ s.pwr.pstate ≠ .off ∧ ((∀ p ∈ s.memc.wb, p.1 ≠ a)) ∧ now < s.memc.mqAt.toNat
        + 60 ∧ s.memc.scrubNs < 659200000)
    ∧ (
      let s : State := dt 700000 { withF up [] with
        memc := { up.memc with wb := [(0xFFFFF, 650000)], mq := [⟨0, none, 0x3FFFFF, 5⟩] } }
      let a : Nat := 0xFFFFF
      let w : MramWrite := ⟨0, none, 0x3FFFFF, 5⟩
      let r : List MramWrite := []
      let d := 650000
      let l := []
      let now := s.dlk.dtime.toNat
      s.memc.wb = (a, d) :: l ∧ s.memc.mq = w :: r ∧ s.memc.mqAt.toNat + 60 ≤ now)
    ∧ (
      let s : State := dt 700000 (withF up [(F.MEMC_STAT_WIPE, 1)])
      let now := s.dlk.dtime.toNat
      s.fldB F.MEMC_STAT_WIPE = true ∧ s.memc.wipeAt.toNat + 32768 ≤ now)
    ∧ (
      let s : State := dt 700000 { withF up [(F.MEMC_CTRL_SCREN, 1), (F.MEMC_SCRPOS_BLOCK, 0x1FFFF)] with
        memc := { up.memc with scrubNs := 659200000 } }
      let blk := s.fld F.MEMC_SCRPOS_BLOCK
      let quietBlk := clocked s = true ∧ s.fldB F.MEMC_CTRL_SCREN = true ∧ s.memc.mq = [] ∧ (∀ n, n < 16 → upsetAt s
        (0x200000 + 16 * blk + n) = none) ∧ 659200000 ≤ s.memc.scrubNs
      quietBlk) := by
  refine ⟨?_, ?_, ?_, ?_⟩ <;> decide +kernel

theorem witness_MarchTests : (
      let s : State := dt 20000000 { withF up [(F.MEMC_STAT_MBUSY, 1), (F.MEMC_MCFG_BANKS, 0x8001)] with
        memc := { up.memc with march := some ⟨0x8001, true, true, false, false, 1, true, 5⟩ } }
      let rq : Req := app
      let m : MarchRun := ⟨0x8001, true, true, false, false, 1, true, 5⟩
      let x : FailRead := ⟨0xFFFF, 1, 1, 0⟩
      let k := (0 : Nat)
      let banks := s.fld F.MEMC_MCFG_BANKS
      let b := bankOf x.addr
      let fails := m.banks < 2 ^ 16 ∧ x.diff ≠ 0 ∧ maskHas m.banks b = true ∧ m.cut = false ∧ 1 ≤ x.elem ∧ x.elem ≤
        (if m.form then 5 else 4) ∧ x.bg < 4 ∧ (m.form = false ∨ m.allbg = true ∨ x.bg = m.bg)
      let pass := 1310720 * (if m.form && m.allbg then 4 else 1)
      let now := s.dlk.dtime.toNat
      Accepts s rq R.MEMC_MCMD ∧ ((maskHas banks 15 = true → 3 ≤ rq.cls)) ∧ marchRefused s = true ∧ s.memc.march =
        some m ∧ m.banks < 2 ^ 16 ∧ m.at_.toNat + pass ≤ now ∧ fails ∧ m.repair = true ∧ m.form = true ∧ m.fuse =
        false ∧ k < 44 ∧ x.diff = BitVec.twoPow 44 k ∧ s.fld (F.MEMC_REP_RF b) = 0 ∧ s.fld (F.MEMC_REP_RS b) = 0 ∧
        m.at_.toNat + 2 * pass ≤ now)
    ∧ (
      let s : State := up
      let rq : Req := app
      let banks := s.fld F.MEMC_MCFG_BANKS
      Accepts s rq R.MEMC_MCMD ∧ ((maskHas banks 15 = true → 3 ≤ rq.cls)) ∧ banks = 0)
    ∧ (
      let s : State := dt 50 { withF up [(F.MEMC_STAT_MBUSY, 1), (F.MEMC_MCFG_BANKS, 0x8001)] with
        memc := { up.memc with march := some ⟨0x8001, true, true, false, false, 1, true, 5⟩ } }
      let m : MarchRun := ⟨0x8001, true, true, false, false, 1, true, 5⟩
      let pass := 1310720 * (if m.form && m.allbg then 4 else 1)
      let now := s.dlk.dtime.toNat
      s.memc.march = some m ∧ now < m.at_.toNat + pass)
    ∧ (
      let s : State := dt 20000000 { withF up [(F.MEMC_STAT_MBUSY, 1), (F.MEMC_MCFG_BANKS, 0x8001)] with
        memc := { up.memc with march := some ⟨0x8001, false, false, false, false, 0, false, 5⟩ } }
      let m : MarchRun := ⟨0x8001, false, false, false, false, 0, false, 5⟩
      let x : FailRead := ⟨0xFFFF, 1, 1, 0⟩
      let b := bankOf x.addr
      let fails := m.banks < 2 ^ 16 ∧ x.diff ≠ 0 ∧ maskHas m.banks b = true ∧ m.cut = false ∧ 1 ≤ x.elem ∧ x.elem ≤
        (if m.form then 5 else 4) ∧ x.bg < 4 ∧ (m.form = false ∨ m.allbg = true ∨ x.bg = m.bg)
      let pass := 1310720 * (if m.form && m.allbg then 4 else 1)
      let now := s.dlk.dtime.toNat
      s.memc.march = some m ∧ fails ∧ m.repair = false ∧ m.at_.toNat + pass ≤ now)
    ∧ (
      let s : State := withF up [(F.MEMC_MCFG_BANKS, 0x7FFF)]
      let rq : Req := app
      let banks := s.fld F.MEMC_MCFG_BANKS
      Accepts s rq R.MEMC_MCMD ∧ ((maskHas banks 15 = true → 3 ≤ rq.cls)) ∧ marchRefused s = false) := by
  refine ⟨?_, ?_, ?_, ?_, ?_⟩ <;> (dsimp only [Accepts]; decide +kernel)

theorem witness_DmaTransfers : (
      let s : State := { withF up [(F.DMA_CNT_CNT 7, 5), (F.DMA_CTL_EN 7, 1), (F.DMA_CTL_TEN 7, 1), (F.DMA_STAT_BUSY
        7, 1)] with dma := up.dma.set 7 (some ⟨0x100, 0x105, 5, true, true, 2, 0⟩) }
      let c : Fin 8 := 7
      let r : DmaRun := ⟨0x100, 0x105, 5, true, true, 2, 0⟩
      s.intc.edges.getLsbD (s.fld (F.DMA_CTL_TSRC c.val)) = false ∧ clocked s = true ∧ s.dma[c] = some r ∧ r.sinc =
        true ∧ r.dinc = true ∧ ((∀ j, j < r.cnt → SramGood s (r.src + j) ∧ SramOpen s r.cls (r.dst + j))) ∧ (r.src +
        r.cnt ≤ r.dst ∨ r.dst + r.cnt ≤ r.src) ∧ r.cnt ≠ 0)
    ∧ (
      let s : State := { withF up [(F.DMA_CNT_CNT 7, 0xFFFFF), (F.DMA_CTL_EN 7, 1), (F.DMA_CTL_TEN 7, 1)] with
        intc := { up.intc with edges := BitVec.allOnes 256 } }
      let rq : Req := app
      let c : Fin 8 := 7
      let v : Word := 1
      let n := s.fld (F.DMA_CNT_CNT c.val)
      let busy := fun (t : State) => t.fldB (F.DMA_STAT_BUSY c.val)
      Accepts s rq (R.DMA_CTL c.val) ∧ busy s = false ∧ n ≠ 0 ∧ getBits v 3 2 ≠ 3 ∧ getBits v 3 2 ≤ rq.cls ∧ clocked s
        = true ∧ s.fldB (F.DMA_CTL_EN c.val) = true ∧ s.fldB (F.DMA_CTL_TEN c.val) = true ∧ s.intc.edges.getLsbD
        (s.fld (F.DMA_CTL_TSRC c.val)) = true ∧ s.intc.taken.getLsbD c.val = false)
    ∧ (
      let s : State := up
      let rq : Req := app
      let c : Fin 8 := 0
      let n := s.fld (F.DMA_CNT_CNT c.val)
      let busy := fun (t : State) => t.fldB (F.DMA_STAT_BUSY c.val)
      Accepts s rq (R.DMA_CTL c.val) ∧ busy s = false ∧ n = 0)
    ∧ (
      let s : State := { withF up [(F.DMA_STAT_BUSY 7, 1), (F.DMA_CTL_EN 7, 1), (F.DMA_CTL_TEN 7, 1)] with
        intc := { up.intc with edges := BitVec.allOnes 256 } }
      let c : Fin 8 := 7
      let busy := fun (t : State) => t.fldB (F.DMA_STAT_BUSY c.val)
      clocked s = true ∧ s.fldB (F.DMA_CTL_EN c.val) = true ∧ s.fldB (F.DMA_CTL_TEN c.val) = true ∧
        s.intc.edges.getLsbD (s.fld (F.DMA_CTL_TSRC c.val)) = true ∧ s.intc.taken.getLsbD c.val = false ∧ busy s =
        true) := by
  refine ⟨?_, ?_, ?_, ?_⟩ <;> (dsimp only [Accepts, SramGood, SramOpen]; decide +kernel)

theorem witness_OverlaysAndRollingLbist : (
      let s : State := { withF up [(F.BIST_RLBSTAT_RPH, 1)] with ovl := { up.ovl with rolling := true } }
      let rq : Req := app
      clocked s = true ∧ s.fldB F.SYS_OVLSTAT_BUILD = false ∧ Accepts s rq R.SYS_OVLCFG ∧ s.rwlLocked = false ∧
        s.ovl.rolling = true ∧ s.fld F.BIST_RLBSTAT_RPH = 1)
    ∧ (
      let s : State := withF up [(F.SYS_OVLSTAT_BUILD, 1)]
      clocked s = true ∧ s.fldB F.SYS_OVLSTAT_BUILD = true)
    ∧ (
      let s : State := withF up [(F.LCY_STATE_LCS, 3)]
      let rq : Req := app
      Accepts s rq R.SYS_OVLCFG ∧ s.rwlLocked = true) := by
  refine ⟨?_, ?_, ?_⟩ <;> (dsimp only [Accepts]; decide +kernel)

theorem witness_LifeCycleRecords : (
      let s : State := keyed
        0xcbaf774f6328d32114dbb55c750c503d61212e27d50694ac915c6f2fc5447c5d9f3afdbbc90751c96778fec1a7cbb3e28e32033f800bdb9b0db058d5a7d27579
        [(F.LCY_STATE_LCS, 2)]
      let rq : Req := app
      let r : List Word := sealRec 2 1 2 0x3FFFFF [5]
      let ok := fun (ty : Nat) => clocked s = true ∧ s.pwr.startDue = none ∧ recType r = ty ∧ recCheck s r = stOk
      ok 2 ∧ ((∀ i, i < recN r → inProtected (recAddr r + i) = true)) ∧ Accepts s rq R.LCY_CMD ∧ sealOk rq = true ∧
        lcDevelop ≤ s.lcState ∧ s.lcState ≤ lcReturned)
    ∧ (
      let s : State := withF up [(F.LCY_STATE_LCS, 1)]
      let r : List Word := sealRec 1 1 0 0 (List.replicate 16 5)
      let ok := fun (ty : Nat) => clocked s = true ∧ s.pwr.startDue = none ∧ recType r = ty ∧ recCheck s r = stOk
      ok 1 ∧ recN r = 16 ∧ s.memc.mq = [])
    ∧ (
      let s : State := keyed
        0xd69def6f14f9ddd205afbfd492897d02482afbc14cbe309782995eba3836b1f569a3b6c609de07d4b62f33df526eb0ccf235ffc808e881ef0800db8fc62e35fb
        [(F.LCY_STATE_LCS, 2)]
      let r : List Word := sealRec 3 1 1 0x0 (List.replicate 13 5)
      let ok := fun (ty : Nat) => clocked s = true ∧ s.pwr.startDue = none ∧ recType r = ty ∧ recCheck s r = stOk
      ok 3 ∧ recN r = 13)
    ∧ (
      let s : State := keyed
        0xacfe9fdd59ffb6459d125ce9303b3c480653408859bcb8ac2533fb5d62a37e0c368b15b22a99aefd80c672df22a8cba975d49b1e9373f3ba53735ba1738c8852
        [(F.LCY_STATE_LCS, 3)]
      let r : List Word := sealRec 5 1 1 0x0 []
      let ok := fun (ty : Nat) => clocked s = true ∧ s.pwr.startDue = none ∧ recType r = ty ∧ recCheck s r = stOk
      ok 5)
    ∧ (
      let s : State := keyed
        0xdb953d655f24184edb85605efbbcf1a958c8508756a6b9760862e049c8efb35272f4a21c664ba4886a71752da42f7c2770ac944f619a3d7e78d7dfa286f29cbd
        [(F.LCY_STATE_LCS, 3), (F.LCY_STATE_SESS, 1)]
      let r : List Word := sealRec 7 9 1 0x0 []
      let ok := fun (ty : Nat) => clocked s = true ∧ s.pwr.startDue = none ∧ recType r = ty ∧ recCheck s r = stOk
      ok 7)
    ∧ (
      let s : State := keyed
        0xe505e64905d74746fe26c895f38a24e378d7f9ef550852bf191b9a88c68e268ecad70b34f16009b15892297725d6695c3a366c988fe3a93109cbc691a6e5340d
        [(F.LCY_STATE_LCS, 4)]
      let r : List Word := sealRec 8 1 1 0x0 []
      let ok := fun (ty : Nat) => clocked s = true ∧ s.pwr.startDue = none ∧ recType r = ty ∧ recCheck s r = stOk
      ok 8)
    ∧ (
      let s : State := up
      let r : List Word := sealRec 2 1 0 0x200000 [5]
      clocked s = true ∧ s.pwr.startDue = none ∧ recCheck s r ≠ stOk ∧ recType r = 2)
    ∧ (
      let s : State := up
      let rq : Req := ⟨0, 2, true⟩
      Accepts s rq R.LCY_CMD ∧ sealOk rq = false)
    ∧ (
      let s : State := { withF up [(F.LCY_KSTAT_IDX, 12)] with lcy := { up.lcy with keys := some [5] } }
      let rq : Req := app
      let l : List Word := [5]
      Accepts s rq R.LCY_KOUT ∧ sealOk rq = true ∧ s.lcy.keys = some l ∧ s.fldB F.LCY_KSTAT_UNWF = false ∧ s.fld
        F.LCY_KSTAT_IDX < 13) := by
  refine ⟨?_, ?_, ?_, ?_, ?_, ?_, ?_, ?_, ?_⟩ <;> first | decide +kernel | (dsimp only [Accepts]; decide +kernel)

theorem digest_of_zeros : shaOfWords (List.replicate 256 0)
    = 0x4cf9816ed1062189ff0c8d427fba5e912cc68fc9af76cf7f08fd255977de3b33 := by
  decide +kernel

theorem unwrap_of_wrapped (s : State) (hw : s.words sealKeys 18 = wrapped) (hd : devKey s = devKey State.reset)
    (hp : s.fldB F.LCY_KSTAT_PRES = true) : unwrapKeys s = some (List.replicate 13 5) := by
  simp only [unwrapKeys, hw, hd, hp]
  decide +kernel

theorem digests_match (s : State) (r : List Word) (hd : s.words dirBase 256 = List.replicate 256 0)
    (hc : s.words sealedCfg 256 = List.replicate 256 0) (hk : unwrapKeys s = some (List.replicate 13 5))
    (hp : recPayload r = digests) : sealMatches s r = true := by
  simp only [sealMatches, sealDigestWords, hd, hc, hk, hp, digest_of_zeros]
  decide +kernel


def sealState : State :=
  let q := 0x1eeb6f55d61e9010f26d0188f8296910c16e2094f2e3e249863cfcf64706ef11 * 2 ^ 256
    + 0xbc8524190139e1ac2f72a2889d38287e8f2bcf5461ee171d2e691815fee379d9
  withKeys (keyed q [(F.LCY_STATE_LCS, 2), (F.LCY_KSTAT_PRES, 1)])
def sealRecord : List Word :=
  let h := 0x0704e1afed059efe4e8e0940279b814e65732c1e922e512849faa138e969d739
  [0x10410, 0x2, 0x0, 0x18] ++ digests ++ wordsOfNat 8 h ++ wordsOfNat 8 h
/-- SEAL of a part whose directory and safety configuration are empty and whose key block is thirteen words of 5. -/
theorem witness_LifeCycleRecords_seal : clocked sealState = true ∧ sealState.pwr.startDue = none
    ∧ recType sealRecord = 4 ∧ recCheck sealState sealRecord = stOk ∧ sealMatches sealState sealRecord = true :=
  ⟨by decide +kernel, by decide +kernel, by decide +kernel, by decide +kernel,
    digests_match _ _ (by decide +kernel) (by decide +kernel)
      (unwrap_of_wrapped _ (by decide +kernel) (by decide +kernel) (by decide +kernel)) (by decide +kernel)⟩

def closeState : State :=
  let q := 0xe74774f4c74e0f764c7efff93e56adda6cad194394f6848f7cb1d654cf4f42aa * 2 ^ 256
    + 0x4fe4f9e007277dbcf0673e0383f9650572cb120ae18a7b39cffceb02840d75b5
  withKeys (keyed q [(F.LCY_STATE_LCS, 3), (F.LCY_STATE_SESS, 1), (F.LCY_KSTAT_PRES, 1)])
def closeRecord : List Word :=
  let h := 0x6723808b709a4c0e688231e232bf50bb1730222485f3f471f4d33dbead256274
  [0x10610, 0x2, 0x0, 0x18] ++ digests ++ wordsOfNat 8 h ++ wordsOfNat 8 h
/-- CLOSE of a part whose directory and safety configuration are empty and whose key block is thirteen words of 5. -/
theorem witness_LifeCycleRecords_close : clocked closeState = true ∧ closeState.pwr.startDue = none
    ∧ recType closeRecord = 6 ∧ recCheck closeState closeRecord = stOk ∧ sealMatches closeState closeRecord = true :=
  ⟨by decide +kernel, by decide +kernel, by decide +kernel, by decide +kernel,
    digests_match _ _ (by decide +kernel) (by decide +kernel)
      (unwrap_of_wrapped _ (by decide +kernel) (by decide +kernel) (by decide +kernel)) (by decide +kernel)⟩

theorem witness_ServicePort : (
      let s : State := up
      let f : SvpFrame := svf 0 []
      let good := fun (c : Nat) => f.cut = false ∧ f.crc = crc8 (BitVec.ofNat 8 c :: BitVec.ofNat 8 f.payload.length
        :: (packWords f.payload).map (BitVec.ofNat 8))
      let heard := fun (c : Nat) => svpHeard f s = true ∧ f.lost = false ∧ good c ∧ svpRunning s = true
      let bare := fun (c : Nat) => heard c ∧ f.payload = []
      bare 0 ∧ svpHeard f s = true ∧ f.lost = false ∧ (¬good 1))
    ∧ (
      let s : State := withF up [(F.SVP_CFG_ADDR, 0x40)]
      let f : SvpFrame := svf 9 [5]
      let cmd : BitVec 8 := 9
      let good := fun (c : Nat) => f.cut = false ∧ f.crc = crc8 (BitVec.ofNat 8 c :: BitVec.ofNat 8 f.payload.length
        :: (packWords f.payload).map (BitVec.ofNat 8))
      let heard := fun (c : Nat) => svpHeard f s = true ∧ f.lost = false ∧ good c ∧ svpRunning s = true
      8 < cmd.toNat ∧ heard cmd.toNat)
    ∧ (
      let s : State := withF up [(F.SVP_CFG_ADDR, 0x40)]
      let f : SvpFrame := svf 1 []
      let good := fun (c : Nat) => f.cut = false ∧ f.crc = crc8 (BitVec.ofNat 8 c :: BitVec.ofNat 8 f.payload.length
        :: (packWords f.payload).map (BitVec.ofNat 8))
      let heard := fun (c : Nat) => svpHeard f s = true ∧ f.lost = false ∧ good c ∧ svpRunning s = true
      let bare := fun (c : Nat) => heard c ∧ f.payload = []
      bare 1)
    ∧ (
      let s : State := withF up [(F.SVP_CFG_ADDR, 0x40)]
      let f : SvpFrame := svf 2 []
      let good := fun (c : Nat) => f.cut = false ∧ f.crc = crc8 (BitVec.ofNat 8 c :: BitVec.ofNat 8 f.payload.length
        :: (packWords f.payload).map (BitVec.ofNat 8))
      let heard := fun (c : Nat) => svpHeard f s = true ∧ f.lost = false ∧ good c ∧ svpRunning s = true
      let bare := fun (c : Nat) => heard c ∧ f.payload = []
      bare 2)
    ∧ (
      let s : State := { withF up [(F.SVP_CFG_ADDR, 0x40)] with svp := { up.svp with resp := .words [5] } }
      let f : SvpFrame := svf 6 []
      let l : List Word := [5]
      let good := fun (c : Nat) => f.cut = false ∧ f.crc = crc8 (BitVec.ofNat 8 c :: BitVec.ofNat 8 f.payload.length
        :: (packWords f.payload).map (BitVec.ofNat 8))
      let heard := fun (c : Nat) => svpHeard f s = true ∧ f.lost = false ∧ good c ∧ svpRunning s = true
      let bare := fun (c : Nat) => heard c ∧ f.payload = []
      bare 6 ∧ s.svp.resp = .words l)
    ∧ (
      let s : State := withF up [(F.SVP_CFG_ADDR, 0x40)]
      let f : SvpFrame := svf 6 []
      let good := fun (c : Nat) => f.cut = false ∧ f.crc = crc8 (BitVec.ofNat 8 c :: BitVec.ofNat 8 f.payload.length
        :: (packWords f.payload).map (BitVec.ofNat 8))
      let heard := fun (c : Nat) => svpHeard f s = true ∧ f.lost = false ∧ good c ∧ svpRunning s = true
      let bare := fun (c : Nat) => heard c ∧ f.payload = []
      bare 6 ∧ s.svp.resp = .none)
    ∧ (
      let s : State := withF up [(F.SVP_CFG_ADDR, 0x40)]
      let f : SvpFrame := svf 1 [5]
      let good := fun (c : Nat) => f.cut = false ∧ f.crc = crc8 (BitVec.ofNat 8 c :: BitVec.ofNat 8 f.payload.length
        :: (packWords f.payload).map (BitVec.ofNat 8))
      let heard := fun (c : Nat) => svpHeard f s = true ∧ f.lost = false ∧ good c ∧ svpRunning s = true
      heard 1 ∧ f.payload ≠ [])
    ∧ (
      let s : State := withF up [(F.SVP_CFG_ADDR, 0x40)]
      let f : SvpFrame := svf 3 [0x1F3FFFE0]
      let w : Word := 0x1F3FFFE0
      let good := fun (c : Nat) => f.cut = false ∧ f.crc = crc8 (BitVec.ofNat 8 c :: BitVec.ofNat 8 f.payload.length
        :: (packWords f.payload).map (BitVec.ofNat 8))
      let heard := fun (c : Nat) => svpHeard f s = true ∧ f.lost = false ∧ good c ∧ svpRunning s = true
      let live := fun (c : Nat) => heard c ∧ s.lcState ≠ lcScrapped
      let a := getBits w 0 24
      let n := getBits w 24 5 + 1
      live 3 ∧ f.payload = [w] ∧ ((∀ i, i < n → loaderReads s (a + i) = true ∧ upsetAt s (a + i) = none ∧ queued s (a
        + i) = none)))
    ∧ (
      let s : State := withF up [(F.SVP_CFG_ADDR, 0x40)]
      let f : SvpFrame := svf 3 [0xF0000]
      let w : Word := 0xF0000
      let good := fun (c : Nat) => f.cut = false ∧ f.crc = crc8 (BitVec.ofNat 8 c :: BitVec.ofNat 8 f.payload.length
        :: (packWords f.payload).map (BitVec.ofNat 8))
      let heard := fun (c : Nat) => svpHeard f s = true ∧ f.lost = false ∧ good c ∧ svpRunning s = true
      let live := fun (c : Nat) => heard c ∧ s.lcState ≠ lcScrapped
      let a := getBits w 0 24
      live 3 ∧ f.payload = [w] ∧ loaderReads s a = false)
    ∧ (
      let s : State := withF up [(F.SVP_CFG_ADDR, 0x40), (F.LCY_STATE_LCS, 2)]
      let f : SvpFrame := svf 4 [0xEFFE1, 5, 5, 5, 5, 5, 5, 5, 5, 5, 5, 5, 5, 5, 5, 5, 5, 5, 5, 5, 5, 5, 5, 5, 5, 5,
        5, 5, 5, 5, 5, 5]
      let w : Word := 0xEFFE1
      let p : List Word := List.replicate 31 5
      let good := fun (c : Nat) => f.cut = false ∧ f.crc = crc8 (BitVec.ofNat 8 c :: BitVec.ofNat 8 f.payload.length
        :: (packWords f.payload).map (BitVec.ofNat 8))
      let heard := fun (c : Nat) => svpHeard f s = true ∧ f.lost = false ∧ good c ∧ svpRunning s = true
      let live := fun (c : Nat) => heard c ∧ s.lcState ≠ lcScrapped
      let a := getBits w 0 24
      live 4 ∧ f.payload = w :: p ∧ 1 ≤ p.length ∧ p.length ≤ 31 ∧ s.lcState ≠ lcSealed ∧ a + p.length ≤ 0xF0000 ∧ ((∀
        i, i < p.length → marching s (bankOf (a + i)) = false)))
    ∧ (
      let s : State := withF up [(F.SVP_CFG_ADDR, 0x40), (F.LCY_STATE_LCS, 3)]
      let f : SvpFrame := svf 4 [0xEFFE1, 5, 5, 5, 5, 5, 5, 5, 5, 5, 5, 5, 5, 5, 5, 5, 5, 5, 5, 5, 5, 5, 5, 5, 5, 5,
        5, 5, 5, 5, 5, 5]
      let w : Word := 0xEFFE1
      let p : List Word := List.replicate 31 5
      let good := fun (c : Nat) => f.cut = false ∧ f.crc = crc8 (BitVec.ofNat 8 c :: BitVec.ofNat 8 f.payload.length
        :: (packWords f.payload).map (BitVec.ofNat 8))
      let heard := fun (c : Nat) => svpHeard f s = true ∧ f.lost = false ∧ good c ∧ svpRunning s = true
      let live := fun (c : Nat) => heard c ∧ s.lcState ≠ lcScrapped
      live 4 ∧ f.payload = w :: p ∧ 1 ≤ p.length ∧ p.length ≤ 31 ∧ s.lcState = lcSealed)
    ∧ (
      let s : State := { withF up [(F.SVP_CFG_ADDR, 0x40)] with svp := { up.svp with chunk := 0xFFFF } }
      let f : SvpFrame := svf 5 [0xFFFF, 5, 5, 5, 5, 5, 5, 5, 5, 5, 5, 5, 5, 5, 5, 5, 5, 5, 5, 5, 5, 5, 5, 5, 5, 5, 5,
        5, 5, 5, 5, 5]
      let w : Word := 0xFFFF
      let p : List Word := List.replicate 31 5
      let good := fun (c : Nat) => f.cut = false ∧ f.crc = crc8 (BitVec.ofNat 8 c :: BitVec.ofNat 8 f.payload.length
        :: (packWords f.payload).map (BitVec.ofNat 8))
      let heard := fun (c : Nat) => svpHeard f s = true ∧ f.lost = false ∧ good c ∧ svpRunning s = true
      let live := fun (c : Nat) => heard c ∧ s.lcState ≠ lcScrapped
      live 5 ∧ f.payload = w :: p ∧ bit w 16 = false ∧ p.length ≤ 31 ∧ getBits w 0 16 = s.svp.chunk ∧ s.svp.chunk ≠ 0)
    ∧ (
      let s : State := withF up [(F.SVP_CFG_ADDR, 0x40), (F.SVP_CFG_MSGEN, 1)]
      let f : SvpFrame := svf 7 [5]
      let p : List Word := [5]
      let good := fun (c : Nat) => f.cut = false ∧ f.crc = crc8 (BitVec.ofNat 8 c :: BitVec.ofNat 8 f.payload.length
        :: (packWords f.payload).map (BitVec.ofNat 8))
      let heard := fun (c : Nat) => svpHeard f s = true ∧ f.lost = false ∧ good c ∧ svpRunning s = true
      let live := fun (c : Nat) => heard c ∧ s.lcState ≠ lcScrapped
      live 7 ∧ f.payload = p ∧ 1 ≤ p.length ∧ p.length ≤ 8 ∧ s.fldB F.SVP_MSG_RXV = false ∧ s.fldB F.SVP_CFG_MSGEN =
        true)
    ∧ (
      let s : State := withF up [(F.SVP_CFG_ADDR, 0x40)]
      let f : SvpFrame := svf 8 []
      let good := fun (c : Nat) => f.cut = false ∧ f.crc = crc8 (BitVec.ofNat 8 c :: BitVec.ofNat 8 f.payload.length
        :: (packWords f.payload).map (BitVec.ofNat 8))
      let heard := fun (c : Nat) => svpHeard f s = true ∧ f.lost = false ∧ good c ∧ svpRunning s = true
      let live := fun (c : Nat) => heard c ∧ s.lcState ≠ lcScrapped
      live 8 ∧ f.payload = [] ∧ destructiveAllowed s = true ∧ s.lstate ≠ lsVoting)
    ∧ (
      let s : State := withF up [(F.SVP_CFG_ADDR, 0x40), (F.HAL_RSTAT_LSTATE, 3)]
      let f : SvpFrame := svf 8 []
      let good := fun (c : Nat) => f.cut = false ∧ f.crc = crc8 (BitVec.ofNat 8 c :: BitVec.ofNat 8 f.payload.length
        :: (packWords f.payload).map (BitVec.ofNat 8))
      let heard := fun (c : Nat) => svpHeard f s = true ∧ f.lost = false ∧ good c ∧ svpRunning s = true
      let live := fun (c : Nat) => heard c ∧ s.lcState ≠ lcScrapped
      live 8 ∧ f.payload = [] ∧ (s.lcState = lcSealed ∨ s.lstate = lsVoting))
    ∧ (
      let s : State := withF up [(F.SVP_CFG_ADDR, 0x40)]
      let f : SvpFrame := { svf 1 [] with lost := true }
      svpHeard f s = true ∧ f.lost = true)
    ∧ (
      let s : State := { State.reset with regs := (withF State.reset [(F.SVP_CFG_ADDR, 0x40)]).regs }
      let f : SvpFrame := svf 1 []
      let good := fun (c : Nat) => f.cut = false ∧ f.crc = crc8 (BitVec.ofNat 8 c :: BitVec.ofNat 8 f.payload.length
        :: (packWords f.payload).map (BitVec.ofNat 8))
      svpHeard f s = true ∧ f.lost = false ∧ good 1 ∧ svpRunning s = false)
    ∧ (
      let s : State := withF up [(F.SVP_CFG_ADDR, 0x40)]
      let f : SvpFrame := { svf 1 [] with addr := 0x41 }
      svpHeard f s = false) := by
  refine ⟨?_, ?_, ?_, ?_, ?_, ?_, ?_, ?_, ?_, ?_, ?_, ?_, ?_, ?_, ?_, ?_, ?_, ?_⟩ <;> decide +kernel

theorem witness_RegisterWritesAndReads : (
      let s : State := up
      let rq : Req := app
      let a : Addr := 0x802000
      let n : Fin 2 := 0
      let r : Fin 4 := 0
      let row : RegRow := (regRow? 0x802000).getD ⟨0, 0, 0, 0, 0, 0, 0, 0, 0⟩
      let at_ := a.toNat / 0x1000
      Accepts s rq a.toNat ∧ blockAddr a.toNat = true ∧ regRow? a.toNat = some row ∧ (at_ = 0x802 ∨ at_ = 0x827 ∨ at_
        = 0x832) ∧ a.toNat ≠ R.LCY_KOUT ∧ a.toNat ≠ R.LCY_CMD ∧ (¬(0x850400 ≤ a.toNat ∧ a.toNat < 0x851000)) ∧ Accepts
        s rq R.INT_SWI ∧ Accepts s rq (R.ISN_IU n.val) ∧ Accepts s rq (R.SENT_FC r.val))
    ∧ (
      let s : State := up
      let a : Addr := 0x200
      clocked s = true ∧ ((blockAddr a.toNat = false ∨ regRow? a.toNat = none)))
    ∧ (
      let s : State := up
      let rq : Req := ⟨4, 1, false⟩
      let a : Addr := 0x820000
      clocked s = true ∧ wakeWindow a.toNat s = s ∧ blockAddr a.toNat = true ∧ rq.cls < 2 ∧ classBlocks.contains
        (a.toNat / 0x1000) = true) := by
  refine ⟨?_, ?_, ?_⟩ <;> (dsimp only [Accepts]; decide +kernel)

theorem witness_HalyardAndClaim : (
      let s : State := up
      let rq : Req := app
      let now := s.dlk.dtime.toNat
      let since := fun (o : Option DWord) (d n : Nat) => o.any fun t => decide (t.toNat + n ≤ d)
      (s.obs ≠ 0 ∨ now < s.hal.quietAt.toNat + 20000) ∧ (s.die.gobs ≠ s.laneBit ∨ ¬since s.die.armAt s.die.dtime.toNat
        1000) ∧ (¬since s.hal.diffAt now 1000) ∧ Accepts s rq R.HAL_CMD ∧ s.fldB F.HAL_CTRL_AUTO = true)
    ∧ (
      let s : State := dt 100000 { up with
        die := { up.die with gobs := up.laneBit, armAt := some 5, dtime := 90000 }, hal := { up.hal with
          diffAt := some 5 } }
      let now := s.dlk.dtime.toNat
      let since := fun (o : Option DWord) (d n : Nat) => o.any fun t => decide (t.toNat + n ≤ d)
      clocked s = true ∧ s.obs = 0 ∧ s.hal.quietAt.toNat + 20000 ≤ now ∧ s.die.gobs = s.laneBit ∧ since s.die.armAt
        s.die.dtime.toNat 1000 ∧ since s.hal.diffAt now 1000)
    ∧ (
      let s : State := withF up [(F.HAL_CTRL_AUTO, 0), (F.HAL_RSTAT_LSTATE, 3)]
      let rq : Req := app
      Accepts s rq R.HAL_CMD ∧ s.fldB F.HAL_CTRL_AUTO = false ∧ s.lstate = lsVoting)
    ∧ (
      let s : State := withF up [(F.HAL_CTRL_AUTO, 0)]
      let rq : Req := app
      Accepts s rq R.HAL_CMD ∧ s.fldB F.HAL_CTRL_AUTO = false ∧ s.lstate ≠ lsVoting) := by
  refine ⟨?_, ?_, ?_, ?_⟩ <;> (dsimp only [Accepts]; decide +kernel)

theorem witness_SafeLimpAndFaultLog : (
      let s : State := { withF up [(F.HAL_HMCFG_LIMPT, 30), (F.HAL_LIMP_MS, 30000)] with
        hal := { up.hal with inHalfMast := true } }
      let rq : Req := app
      let base := s.fld F.FLT_LOGBASE_BASE
      Accepts s rq R.HAL_CMD ∧ s.hal.inHalfMast = true ∧ s.hal.limpWarned = false ∧ s.fld F.HAL_HMCFG_LIMPT * 1000 ≤
        s.fld F.HAL_LIMP_MS + 10000 ∧ s.fld F.HAL_HMCFG_LIMPT * 1000 ≤ s.fld F.HAL_LIMP_MS ∧ logRangeOk base (s.fld
        F.FLT_LOGCFG_SIZE) = false ∧ s.logQ = [])
    ∧ (
      let s : State := { up with hal := { up.hal with safe := true, relt := #v[true, true] } }
      let n : Fin 2 := 1
      s.hal.inHalfMast = false ∧ s.hal.safe = true ∧ s.hal.relt[n] = true ∧ s.hal.safeAt.toNat + 1000000 * s.fld
        F.HAL_SAFECFG_RELT ≤ s.dlk.dtime.toNat)
    ∧ (
      let s : State := withF up [(F.LCY_STATE_LCS, 3)]
      let rq : Req := app
      Accepts s rq R.FLT_LOGCFG ∧ s.rwlLocked = true)
    ∧ (
      let s : State := withF up [(F.HAL_SAFECFG_RELT, 5)]
      s.dlk.dtime.toNat < s.hal.safeAt.toNat + 1000000 * s.fld F.HAL_SAFECFG_RELT)
    ∧ (
      let s : State := { withR (withF up [(F.FLT_LOGCFG_SIZE, 8), (F.FLT_LOGCFG_EN, 1)]) [(R.FLT_LOGBASE, 0x3F0000)]
        with logQ := [⟨1, 2, 3⟩] }
      let e : LogEntry := ⟨1, 2, 3⟩
      let r : List LogEntry := []
      let base := s.fld F.FLT_LOGBASE_BASE
      s.logQ = e :: r ∧ logRangeOk base (s.fld F.FLT_LOGCFG_SIZE) = true)
    ∧ (
      let s : State := up
      let rq : Req := app
      let v : Word := 0x12
      Accepts s rq R.FLT_LOGCFG ∧ s.rwlLocked = false ∧ bit v 0 = false) := by
  refine ⟨?_, ?_, ?_, ?_, ?_, ?_⟩ <;> (dsimp only [Accepts]; decide +kernel)

theorem witness_LockStepPairs : (
      let s : State := { up with lsc := { up.lsc with testQ := [1] } }
      let rq : Req := app
      let p : Fin 2 := 1
      let g : BitVec 64 := 5
      clocked s = true ∧ s.pst p = psJoined ∧ g ≠ 0 ∧ s.fldB F.DBG_STAT_ATTACHED = false ∧ s.lsc.testQ.head? = some p
        ∧ Accepts s rq R.LSC_CMD ∧ s.safetyPair ≠ 1 ∧ s.lsc.takeover = false ∧ s.pst 1 ≠ psHalted ∧ s.pst 1 ≠
        psRetired)
    ∧ (
      let s : State := withF up [(F.LSC_STAT_P1ST, 3)]
      let rq : Req := app
      Accepts s rq R.LSC_CMD ∧ s.safetyPair ≠ 1 ∧ s.lsc.takeover = false ∧ s.pst 1 = psHalted ∧ s.fldB
        F.DBG_STAT_ATTACHED = false)
    ∧ (
      let s : State := withF up [(F.LSC_STAT_SPAIR, 1)]
      let rq : Req := app
      Accepts s rq R.LSC_CMD ∧ s.safetyPair = 1) := by
  refine ⟨?_, ?_, ?_⟩ <;> (dsimp only [Accepts]; decide +kernel)

theorem witness_DebugPort : (
      let s : State := { withF up [(F.DBG_STAT_ATTACHED, 1), (F.HAL_RSTAT_LSTATE, 6)] with
        tap := { up.tap with ir := tapAttach, core := 0 } }
      let code : BitVec 5 := 5
      let n : BitVec 6 := 50
      let k := s.tap.core
      let c := s.cores[k]
      let live := clocked s = true ∧ portOpen s = true
      let access := live ∧ s.tap.ir = tapAttach
      let ready := attached s = true ∧ issuesAlone s k = true ∧ c.run = .running ∧ s.pwr.pstate = .run
      portOpen s = true ∧ code ∉ [0, 1, 2, 16] ∧ live ∧ attached s = true ∧ access ∧ 48 ≤ n.toNat ∧ 50 ≤ n.toNat ∧
        n.toNat ≤ 57 ∧ ready ∧ c.dhalt = false)
    ∧ (
      let s : State := withC (withF up [(F.DBG_STAT_ATTACHED, 1), (F.HAL_RSTAT_LSTATE, 6)]) (fun c => { c with
        dhalt := true, pc := 0x100 }) |> fun s => { (s.setWord 0x100 (Moagar.encode .nop)).setWord 0x101
        (Moagar.encode .brk) with tap := { up.tap with ir := tapAttach } }
      let n : BitVec 6 := 5
      let k := s.tap.core
      let c := s.cores[k]
      let live := clocked s = true ∧ portOpen s = true
      let access := live ∧ s.tap.ir = tapAttach
      let ready := attached s = true ∧ issuesAlone s k = true ∧ c.run = .running ∧ s.pwr.pstate = .run
      access ∧ n.toNat < 48 ∧ ready ∧ c.dhalt = true ∧ c.wait = .none ∧ c.afterIret = false ∧ SramGood s c.pc.toNat ∧
        SramGood s (c.pc.toNat + 1) ∧ Moagar.decode (s.word c.pc.toNat) = .nop ∧ issuesInPairs (Moagar.decode (s.word
        (c.pc.toNat + 1))) = false)
    ∧ (
      let s : State := withF up [(F.LCY_STATE_LCS, 3)]
      portOpen s = false ∧ clocked s = true)
    ∧ (
      let s : State := withF up [(F.HAL_RSTAT_LSTATE, 1)]
      let p : Fin 2 := 0
      let g : BitVec 64 := 5
      let live := clocked s = true ∧ portOpen s = true
      live ∧ s.lstate ≠ lsOffline ∧ attached s = false ∧ s.pst p = psJoined ∧ g ≠ 0)
    ∧ (
      let s : State := { up with tap := { up.tap with ir := tapAttach, core := 3 } }
      let n : BitVec 6 := 49
      let live := clocked s = true ∧ portOpen s = true
      let access := live ∧ s.tap.ir = tapAttach
      access ∧ (n = 49 ∨ 58 ≤ n.toNat)) := by
  refine ⟨?_, ?_, ?_, ?_, ?_⟩ <;> (dsimp only [SramGood]; decide +kernel)

theorem witness_InputExchange : (
      let s : State := withF sX [(F.XLA_STAT_PHASE, 2)]
      let link : Fin 3 := 1
      let symOk : Bool := false
      let m : XMsg := msgOf 1 1 7 [11, 12]
      let e : XErr := .corr
      let ck := clocked s = true
      let on := ck ∧ xlaRuns s = true
      let types := if 2 ≤ s.phase ∧ s.phase ≤ 5 then [mtInput] else []
      ck ∧ stepDue 1 tI1 s = true ∧ s.xla.attempt = false ∧ s.xla.ownSet = none ∧ on ∧ link ≠ s.lane ∧ checkRound s
        link false symOk types tI1 m = some e ∧ symOk = false ∧ s.xla.selected = false ∧ allIn s = false ∧ stepDue 3
        (cI s) s = false)
    ∧ (
      let s : State := stp 1 (tI2 sX) (sX)
      let ck := clocked s = true
      ck ∧ stepDue 1 tI1 s = false ∧ stepDue 2 (tI2 s) s = true)
    ∧ (
      let s : State := withX sX (fun x => { x with ownSet := some [5, 6] })
      let vs : List Word := [5, 6]
      let ck := clocked s = true
      ck ∧ stepDue 1 tI1 s = true ∧ s.xla.attempt = false ∧ contributes s = true ∧ s.xla.ownSet = some vs ∧ vs.length
        < 64)
    ∧ (
      let s : State := withF sX [(F.XLA_STAT_PHASE, 2)]
      let link : Fin 3 := 1
      let symOk : Bool := true
      let m : XMsg := msgOf 1 1 7 [11, 12]
      let ck := clocked s = true
      let on := ck ∧ xlaRuns s = true
      let types := if 2 ≤ s.phase ∧ s.phase ≤ 5 then [mtInput] else []
      on ∧ link ≠ s.lane ∧ checkRound s link false symOk types tI1 m = none)
    ∧ (
      let s : State := withX sX (fun x => { x with relWait := some ⟨5, true⟩ })
      let r : Release := ⟨5, true⟩
      let ck := clocked s = true
      ck ∧ s.xla.relWait = some r ∧ (joinFrame s = false ∨ finalIn s = true ∧ s.xla.attempt = true ∧ s.xla.copies =
        []))
    ∧ (
      let s : State := withX (withF sX [(F.HAL_RSTAT_LSTATE, 2)]) (fun x => { x with
        ownSet := some [5, 6], attempt := false })
      let vs : List Word := [5, 6]
      let ck := clocked s = true
      ck ∧ stepDue 1 tI1 s = true ∧ s.xla.attempt = false ∧ contributes s = false ∧ s.xla.ownSet = some vs)
    ∧ (
      let s : State := stp 1 (1000) (withX (sX) (fun x => { x with
        peer := x.peer.map (fun p => { p with in1 := true, in2 := true }), selected := false }))
      let ck := clocked s = true
      let on := ck ∧ xlaRuns s = true
      on ∧ s.xla.selected = false ∧ allIn s = true ∧ 1 ≤ s.xla.xstep ∧ s.xla.xstep < 3)
    ∧ (
      let s : State := stp 2 (cI sX) (withX sX (fun x => { x with selected := false }))
      let ck := clocked s = true
      let on := ck ∧ xlaRuns s = true
      on ∧ s.xla.selected = false ∧ stepDue 3 (cI s) s = true)
    ∧ (
      let s : State := stp 2 (cI sX) (withX sX (fun x => { x with selected := true }))
      let ck := clocked s = true
      ck ∧ stepDue 3 (cI s) s = true ∧ s.xla.selected = true)
    ∧ (
      let s : State := { withX sX (fun x => { x with relWait := some ⟨5, true⟩, finalFrame := some 5 }) with
        frame := 6 }
      let r : Release := ⟨5, true⟩
      let ck := clocked s = true
      ck ∧ s.xla.relWait = some r ∧ joinFrame s = true ∧ finalIn s = false) := by
  refine ⟨?_, ?_, ?_, ?_, ?_, ?_, ?_, ?_, ?_, ?_⟩ <;> decide +kernel

theorem witness_SelectionAndVote : (
      let a : Word := 5
      let b : Word := 5
      let c : Word := 5
      let rule := 5
      (a = b ∨ a = c) ∧ rule ≤ 5)
    ∧ (
      let s : State := up
      let o := outputOf s
      ((∀ x, o x = none)))
    ∧ (
      let a : Word := 5
      let b : Word := 6
      let c : Word := 6
      a ≠ b ∧ b = c)
    ∧ (
      let a : Word := 5
      let b : Word := 6
      let c : Word := 7
      a ≠ b ∧ a ≠ c ∧ b ≠ c)
    ∧ (
      let s : State := withX sX (fun x => { x with
        viewV := #v[[msgOf 0 2 7 [11, 12]], [msgOf 1 2 7 [11, 12]], [msgOf 2 2 7 [11, 12]]] })
      let a : XMsg := msgOf 0 2 7 [11, 12]
      let b : XMsg := msgOf 1 2 7 [11, 12]
      let c : XMsg := msgOf 2 2 7 [11, 12]
      let o := outputOf s
      let pa := xmPayload a
      let pb := xmPayload b
      let pc := xmPayload c
      o 0 = some a ∧ o 1 = some b ∧ o 2 = some c ∧ pa = pb ∧ pb = pc)
    ∧ (
      let s : State := withX sX (fun x => { x with
        viewV := #v[[msgOf 0 2 7 [11, 12]], [msgOf 1 2 7 [11, 12]], [msgOf 2 2 7 [11, 13]]] })
      let a : XMsg := msgOf 0 2 7 [11, 12]
      let b : XMsg := msgOf 1 2 7 [11, 12]
      let c : XMsg := msgOf 2 2 7 [11, 13]
      let o := outputOf s
      let pa := xmPayload a
      let pb := xmPayload b
      let pc := xmPayload c
      o 0 = some a ∧ o 1 = some b ∧ o 2 = some c ∧ pa = pb ∧ pb ≠ pc)
    ∧ (
      let s : State := withX sX (fun x => { x with
        viewV := #v[[msgOf 0 2 7 [11, 12]], [msgOf 1 2 7 [11, 13]], [msgOf 2 2 7 [11, 12]]] })
      let a : XMsg := msgOf 0 2 7 [11, 12]
      let b : XMsg := msgOf 1 2 7 [11, 13]
      let c : XMsg := msgOf 2 2 7 [11, 12]
      let o := outputOf s
      let pa := xmPayload a
      let pb := xmPayload b
      let pc := xmPayload c
      o 0 = some a ∧ o 1 = some b ∧ o 2 = some c ∧ pa = pc ∧ pa ≠ pb)
    ∧ (
      let s : State := withX sX (fun x => { x with
        viewV := #v[[msgOf 0 2 7 [11, 13]], [msgOf 1 2 7 [11, 12]], [msgOf 2 2 7 [11, 12]]] })
      let a : XMsg := msgOf 0 2 7 [11, 13]
      let b : XMsg := msgOf 1 2 7 [11, 12]
      let c : XMsg := msgOf 2 2 7 [11, 12]
      let o := outputOf s
      let pa := xmPayload a
      let pb := xmPayload b
      let pc := xmPayload c
      o 0 = some a ∧ o 1 = some b ∧ o 2 = some c ∧ pb = pc ∧ pa ≠ pb)
    ∧ (
      let s : State := withX sX (fun x => { x with
        viewV := #v[[msgOf 0 2 7 [11, 12]], [msgOf 1 2 7 [11, 13]], [msgOf 2 2 7 [11, 14]]] })
      let a : XMsg := msgOf 0 2 7 [11, 12]
      let b : XMsg := msgOf 1 2 7 [11, 13]
      let c : XMsg := msgOf 2 2 7 [11, 14]
      let o := outputOf s
      let pa := xmPayload a
      let pb := xmPayload b
      let pc := xmPayload c
      o 0 = some a ∧ o 1 = some b ∧ o 2 = some c ∧ pa ≠ pb ∧ pb ≠ pc ∧ pa ≠ pc)
    ∧ (
      let s : State := withX sX (fun x => { x with viewV := #v[[msgOf 0 2 7 [11, 12]], [msgOf 1 2 7 [11, 12]], []] })
      let a : XMsg := msgOf 0 2 7 [11, 12]
      let b : XMsg := msgOf 1 2 7 [11, 12]
      let x : Fin 3 := 0
      let y : Fin 3 := 1
      let z : Fin 3 := 2
      let o := outputOf s
      let pa := xmPayload a
      let pb := xmPayload b
      x < y ∧ z ≠ x ∧ z ≠ y ∧ o x = some a ∧ o y = some b ∧ o z = none ∧ pa = pb)
    ∧ (
      let s : State := withX sX (fun x => { x with viewV := #v[[], [msgOf 1 2 7 [11, 12]], [msgOf 2 2 7 [11, 13]]] })
      let a : XMsg := msgOf 1 2 7 [11, 12]
      let b : XMsg := msgOf 2 2 7 [11, 13]
      let x : Fin 3 := 1
      let y : Fin 3 := 2
      let z : Fin 3 := 0
      let o := outputOf s
      let pa := xmPayload a
      let pb := xmPayload b
      x < y ∧ z ≠ x ∧ z ≠ y ∧ o x = some a ∧ o y = some b ∧ o z = none ∧ pa ≠ pb)
    ∧ (
      let s : State := withX sX (fun x => { x with viewV := #v[[], [], [msgOf 2 2 7 [11, 12]]] })
      let a : XMsg := msgOf 2 2 7 [11, 12]
      let x : Fin 3 := 2
      let o := outputOf s
      o x = some a ∧ ((∀ y, y ≠ x → o y = none))) := by
  refine ⟨?_, ?_, ?_, ?_, ?_, ?_, ?_, ?_, ?_, ?_, ?_, ?_⟩ <;> decide +kernel

theorem witness_VoteExchange : (
      let s : State := withF ({ sX with ltime := BitVec.ofNat 72 (tV1 sX) }) [(F.XLA_STAT_PHASE, 6)]
      let link : Fin 3 := 1
      let symOk : Bool := true
      let m : XMsg := msgOf 1 2 7 [11, 12]
      let ck := clocked s = true
      let on := ck ∧ xlaRuns s = true
      let types := if 6 ≤ s.phase ∧ s.phase ≤ 8 then [mtOutput, mtState] else []
      ck ∧ stepDue 5 (tV1 s) s = true ∧ s.xla.attempt = false ∧ s.xla.finalFrame = none ∧ (contributes s = false ∨
        s.xla.accepted = none) ∧ on ∧ link ≠ s.lane ∧ checkRound s link false symOk types (tV1 s) m = none ∧ ((stepDue
        7 (cV s) s = false ∨ frameReached s (xT s - 500) = true)) ∧ ((stepDue 7 (xT s - 500) s = false ∨ s.xla.voted =
        true)) ∧ ((s.hal.isoLeft ≠ some 0 ∨ frameReached s (xT s) = false ∨ s.lstate ≠ lsWithdrawn)))
    ∧ (
      let s : State := { withF sX [(F.HAL_RSTAT_LSTATE, 4)] with
        hal := { up.hal with isoLeft := some 0 }, ltime := 50000 }
      let ck := clocked s = true
      ck ∧ stepDue 6 (tV2 s) s = true ∧ stepDue 7 (xT s - 500) s = true ∧ s.xla.voted = false ∧ s.hal.isoLeft = some 0
        ∧ frameReached s (xT s) = true ∧ s.lstate = lsWithdrawn)
    ∧ (
      let s : State := withF sX [(F.XLA_STAT_PHASE, 8)]
      let link : Fin 3 := 1
      let symOk : Bool := false
      let m : XMsg := msgOf 1 2 7 [11, 12]
      let e : XErr := .corr
      let ck := clocked s = true
      let on := ck ∧ xlaRuns s = true
      let types := if 6 ≤ s.phase ∧ s.phase ≤ 8 then [mtOutput, mtState] else []
      ck ∧ stepDue 5 (tV1 s) s = false ∧ on ∧ link ≠ s.lane ∧ checkRound s link false symOk types (tV1 s) m = some e)
    ∧ (
      let s : State := stp 4 (tV1 sX) (withX sX (fun x => { x with accepted := some [5, 6] }))
      let set : List Word := [5, 6]
      let ck := clocked s = true
      ck ∧ stepDue 5 (tV1 s) s = true ∧ s.xla.attempt = false ∧ s.xla.finalFrame = none ∧ contributes s = true ∧
        s.xla.accepted = some set ∧ set.length < 64)
    ∧ (
      let s : State := stp 6 (cV sX) (withX sX (fun x => { x with voted := false }))
      let ck := clocked s = true
      ck ∧ stepDue 7 (cV s) s = true ∧ frameReached s (xT s - 500) = false ∧ s.xla.voted = false)
    ∧ (
      let s : State := stp 6 (cV sX) (withX sX (fun x => { x with voted := true }))
      let ck := clocked s = true
      ck ∧ stepDue 7 (cV s) s = true ∧ frameReached s (xT s - 500) = false ∧ s.xla.voted = true) := by
  refine ⟨?_, ?_, ?_, ?_, ?_, ?_⟩ <;> decide +kernel

theorem witness_JoinAndMirror : (
      let s : State := sX
      let link : Fin 3 := 1
      let symOk : Bool := true
      let m : XMsg := msgOf 1 5 0 [400, 380, 1 + 50000 * 2 ^ 18, 5, 6]
      let e : XErr := XErr.corr
      let ck := clocked s = true
      let formed := s.fldB F.XLA_STAT_FORMED
      let head := checkHead s link false symOk [mtJoin] m
      ck ∧ xlaReady s = true ∧ link ≠ s.lane ∧ head = none ∧ formed = true ∧ stepDue 4 (cI s + 50) s = false ∧ stepDue
        8 (cV s + 50) s = false ∧ xlaRuns s = true ∧ checkMirror s link symOk m = some e)
    ∧ (
      let s : State := withX (withF ({ sX with ltime := BitVec.ofNat 72 (cI sX + 60) }) [(F.XLA_STAT_PHASE, 6),
        (F.HAL_RSTAT_LSTATE, 4), (F.XLA_MEMB_CUR, 2)]) (fun x => { x with attempt := true })
      let link : Fin 3 := 1
      let symOk : Bool := true
      let m : XMsg := msgOf 1 4 7 (0 :: List.replicate 32 77)
      let e : XErr := XErr.corr
      let ck := clocked s = true
      let head := checkHead s link false symOk [mtJoin] m
      ck ∧ xlaReady s = true ∧ link ≠ s.lane ∧ head = some e ∧ stepDue 4 (cI s + 50) s = true ∧ (s.xla.served = none ∨
        contributes s = false) ∧ xlaRuns s = true ∧ checkMirror s link symOk m = none ∧ xmFrame m = s.frame ∧
        missedJfin link m s = true ∧ xmJlane m ≠ s.lane.val)
    ∧ (
      let s : State := withP (withF sX [(F.XLA_STAT_FORMED, 0), (F.HAL_RSTAT_LSTATE, 2)]) (fun p => { p with
        delayOk := true })
      let link : Fin 3 := 1
      let symOk : Bool := true
      let m : XMsg := msgOf 1 5 0 [0, 0, 1 + 50000 * 2 ^ 18, 5, 6]
      let ck := clocked s = true
      let formed := s.fldB F.XLA_STAT_FORMED
      let head := checkHead s link false symOk [mtJoin] m
      let p := xmPayload m
      ck ∧ s.fldB F.XLA_CTRL_EN = true ∧ formed = false ∧ (s.lstate = lsSyncing ∨ s.lstate = lsWithdrawn) ∧
        s.xla.announced.getD 0 < 8 ∧ joinSendDue s = true ∧ xlaReady s = true ∧ link ≠ s.lane ∧ head = none ∧ s.lane =
        0 ∧ xmMemb m = 0 ∧ s.xla.founding = false ∧ s.xla.solo = false ∧ s.xla.peer[link].delayOk = true ∧ bit (p.getD
        2 0) 0 = true ∧ getBits (p.getD 2 0) 18 18 = xT s)
    ∧ (
      let s : State := withP (withX (withF sX [(F.XLA_STAT_FORMED, 0), (F.HAL_RSTAT_LSTATE, 2)]) (fun x => { x with
        founding := true, epoch := some 50000 })) (fun p => { p with accept := true })
      let ck := clocked s = true
      let formed := s.fldB F.XLA_STAT_FORMED
      ck ∧ s.xla.founding = true ∧ formed = false ∧ xlaReady s = true ∧ s.xla.announced = none ∧ acceptTime s = true)
    ∧ (
      let s : State := withX (dt 9000000000 (withF sX [(F.XLA_CTRL_SOLO, 1), (F.XLA_STAT_FORMED, 0),
        (F.HAL_RSTAT_LSTATE, 2)])) (fun x => { x with readyAt := some 0 })
      let ck := clocked s = true
      let formed := s.fldB F.XLA_STAT_FORMED
      ck ∧ s.fldB F.XLA_CTRL_SOLO = true ∧ s.fldB F.XLA_CTRL_EN = true ∧ s.lstate = lsSyncing ∧ formed = false ∧ ((∀
        x, x ≠ s.lane → isPeer s x = false)) ∧ s.xla.solo = false ∧ soloDue s = true)
    ∧ (
      let s : State := stp 3 (cI sX + 50) (withX sX (fun x => { x with capture := [(5, [1, 2])], served := some 1 }))
      let x := 1
      let ck := clocked s = true
      ck ∧ stepDue 4 (cI s + 50) s = true ∧ s.xla.served = some x ∧ contributes s = true)
    ∧ (
      let s : State := stp 7 (cV sX + 50) (sX)
      let ck := clocked s = true
      ck ∧ stepDue 8 (cV s + 50) s = true ∧ (s.xla.served = none ∨ contributes s = false))
    ∧ (
      let s : State := stp 7 (cV sX + 50) (withX sX (fun x => { x with capture := [(5, [1, 2])], served := some 1 }))
      let x := 1
      let ck := clocked s = true
      ck ∧ stepDue 8 (cV s + 50) s = true ∧ s.xla.served = some x ∧ contributes s = true)
    ∧ (
      let s : State := stp 2 (cI sX + 60) (withX (withF sX [(F.XLA_STAT_PHASE, 6), (F.HAL_RSTAT_LSTATE, 4),
        (F.XLA_MEMB_CUR, 2)]) (fun x => { x with attempt := true }))
      let link : Fin 3 := 1
      let symOk : Bool := true
      let m : XMsg := ownMsg { sX with lane := 1 } (BitVec.ofNat 36 (cI sX + 60)) 4 0 2 { jlane := 0 } (0 ::
        List.replicate 32 77)
      let ck := clocked s = true
      let place := s.fld F.XLA_MBASE_MBASE + 32 * mirBlock m
      ck ∧ xlaRuns s = true ∧ link ≠ s.lane ∧ checkMirror s link symOk m = none ∧ (s.lstate = lsSyncing ∨ s.lstate =
        lsWithdrawn) ∧ xmJlane m = s.lane.val ∧ inAttempt s (mirAttempt m) = true ∧ s.xla.failedAtt ≠ some (mirAttempt
        m) ∧ s.xla.copies = [] ∧ missedJfin link m s = false ∧ mirBlock m < mblks s ∧ mirFinal m = false ∧
        mirrorSources s = 1 ∧ mirSeq m = s.xla.nextMseq ∧ ((∀ i, i < 32 → SramOpen s 2 (place + i))))
    ∧ (
      let s : State := stp 4 (tV1 sX) { withX sX (fun x => { x with finalFrame := some 5 }) with frame := 6 }
      let f : Word := 5
      let ck := clocked s = true
      ck ∧ s.xla.finalFrame = some f ∧ s.frame = f + 1 ∧ frameReached s (tV1 s - 100) = true) := by
  refine ⟨?_, ?_, ?_, ?_, ?_, ?_, ?_, ?_, ?_, ?_⟩ <;> (dsimp only [SramOpen]; decide +kernel)

theorem witness_XlaCommands : (
      let s : State := withF sX [(F.XLA_CTRL_EN, 0), (F.HAL_RSTAT_LSTATE, 1), (F.BIST_STAT_STEP, 8)]
      let rq : Req := app
      Accepts s rq R.XLA_CTRL ∧ s.fldB F.XLA_CTRL_EN = false ∧ s.fldB F.XLA_KEYSTAT_LOADED = true ∧ xlaConfigOk s =
        true ∧ Accepts s rq R.XLA_CMD ∧ poisoned s 15 = false ∧ s.fldB F.MEMC_STAT_WIPE = false ∧ marching s 15 =
        false ∧ ((∀ i, i < 13 → upsetAt s (0xFFFF0 + i) = none)))
    ∧ (
      let s : State := sX
      let rq : Req := app
      Accepts s rq R.XLA_CTRL ∧ s.fldB F.XLA_CTRL_EN = true ∧ s.xla.attempt = false ∧ Accepts s rq R.XLA_CMD)
    ∧ (
      let s : State := withF sX [(F.XLA_CTRL_EN, 0), (F.XLA_WIN_WIN, 99)]
      let rq : Req := app
      Accepts s rq R.XLA_CTRL ∧ s.fldB F.XLA_CTRL_EN = false ∧ s.fldB F.XLA_KEYSTAT_LOADED = true ∧ xlaConfigOk s =
        false)
    ∧ (
      let s : State := withX (withF sX [(F.HAL_RSTAT_LSTATE, 4)]) (fun x => { x with attempt := true })
      let rq : Req := app
      Accepts s rq R.XLA_CTRL ∧ s.fldB F.XLA_CTRL_EN = true ∧ s.xla.attempt = true ∧ s.lstate = lsWithdrawn) := by
  refine ⟨?_, ?_, ?_, ?_⟩ <;> (dsimp only [Accepts]; decide +kernel)

theorem witness_FrameStarts : (
      let s : State := withX (withF sX [(F.XLA_STAT_FORMED, 0), (F.HAL_RSTAT_LSTATE, 2)]) (fun x => { x with
        founding := true, announced := some 7, epoch := some 400 })
      let m : Nat := 7
      let e : DWord := 400
      let at_ := s.xla.frameEpoch + BitVec.ofNat 72 ((s.frame.toNat + 1) * xT s)
      let due := s.fldB F.XLA_STAT_FORMED = true ∧ s.fldB F.XLA_CTRL_EN = true ∧ at_.toNat ≤ s.ltime.toNat
      clocked s = true ∧ (¬due) ∧ formationMembers s = some m ∧ s.xla.epoch = some e ∧ s.fldB F.XLA_CTRL_EN = true ∧
        s.fldB F.XLA_STAT_FORMED = false ∧ xlaReady s = true ∧ e.toNat ≤ s.ltime.toNat)
    ∧ (
      let s : State := { withX (withF sX [(F.XLA_MEMB_NEXT, 7)]) (fun x => { x with commitDue := some (true, false) })
        with ltime := 1000000 }
      let at_ := s.xla.frameEpoch + BitVec.ofNat 72 ((s.frame.toNat + 1) * xT s)
      let due := s.fldB F.XLA_STAT_FORMED = true ∧ s.fldB F.XLA_CTRL_EN = true ∧ at_.toNat ≤ s.ltime.toNat
      clocked s = true ∧ due) := by
  refine ⟨?_, ?_⟩ <;> decide +kernel

theorem witness_PwmPeriods : (
      let s : State := up
      let n : Fin 2 := 0
      let rq : Req := app
      let per := s.fld (F.PWM_PER_PER 0)
      let lim := fun (lo x hi : Nat) => lo ≤ x ∧ x ≤ hi
      let dt := s.fld (F.PWM_DT_DT n.val)
      let ofs := s.fld (F.PWM_OFS_OFS 1)
      let fits := s.fldB F.XLA_CTRL_EN = false ∨ ∃ k ∈ [1, 2, 3, 4, 5, 6, 7, 8], xT s = k * 2 * per
      let valid := lim 2500 per 100000 ∧ lim 10 dt 500 ∧ lim 150 (s.fld (F.PWM_LIM_MINON n.val)) 1000 ∧ lim (dt + 10)
        (s.fld (F.PWM_LIM_MINON n.val)) 1000 ∧ lim (dt + 10) (s.fld (F.PWM_LIM_MINOFF n.val)) 1000 ∧ lim (dt + 10)
        (s.fld (F.PWM_RFR_RFW n.val)) 1000 ∧ lim 1 (s.fld (F.PWM_RFR_RFPER n.val)) 63 ∧ (n = 1 → 300 ≤ ofs ∧ ofs + 300
        ≤ per ∧ s.fldB (F.PWM_CTRL_EN 0) = true) ∧ s.fld F.DLK_STAT_LSTATE = 4 ∧ s.lstate ≠ 0 ∧ s.lstate ≠ 1 ∧
        s.lstate ≠ 5 ∧ (n = 0 → fits)
      clocked s = true ∧ periodDue n s = false ∧ s.fldB (F.PWM_CTRL_EN n.val) = false ∧ Accepts s rq (R.PWM_CTRL
        n.val) ∧ (¬valid) ∧ Accepts s rq R.PWM_LOAD)
    ∧ (
      let s : State := withF up [(F.PWM_APER_APER 0, 2500), (F.PWM_CTRL_EN 0, 1), (F.PWM_CTRL_EN 1, 1),
        (F.PWM_STAT_PEND 0, 1), (F.PWM_STAT_PEND 1, 1), (F.PWM_LOAD_LOADALL, 1), (F.DLK_STAT_LSTATE, 4)]
      let n : Fin 2 := 0
      let rq : Req := app
      let len : Int := 2 * s.fld (F.PWM_APER_APER 0)
      let on := clocked s = true ∧ s.fldB (F.PWM_CTRL_EN n.val) = true
      on ∧ n = 0 ∧ 0 < len ∧ periodDue n s = true ∧ Accepts s rq (R.PWM_CTRL n.val) ∧ s.fldB (F.PWM_CTRL_EN n.val) =
        true)
    ∧ (
      let s : State := withF up [(F.PWM_CTRL_EN 0, 1), (F.PWM_CTRL_EN 1, 1), (F.PWM_STAT_PEND 0, 1), (F.PWM_STAT_PEND
        1, 1), (F.PWM_LOAD_LOADALL, 1), (F.DLK_STAT_LSTATE, 4)]
      let n : Fin 2 := 1
      let on := clocked s = true ∧ s.fldB (F.PWM_CTRL_EN n.val) = true
      on ∧ n = 1)
    ∧ (
      let s : State := withF up [(F.PWM_PER_PER 0, 2500), (F.PWM_DT_DT 0, 10), (F.PWM_LIM_MINON 0, 150),
        (F.PWM_LIM_MINOFF 0, 1000), (F.PWM_RFR_RFW 0, 20), (F.PWM_RFR_RFPER 0, 63), (F.DLK_STAT_LSTATE, 4),
        (F.HAL_RSTAT_LSTATE, 3)]
      let n : Fin 2 := 0
      let rq : Req := app
      let per := s.fld (F.PWM_PER_PER 0)
      let lim := fun (lo x hi : Nat) => lo ≤ x ∧ x ≤ hi
      let dt := s.fld (F.PWM_DT_DT n.val)
      let ofs := s.fld (F.PWM_OFS_OFS 1)
      let fits := s.fldB F.XLA_CTRL_EN = false ∨ ∃ k ∈ [1, 2, 3, 4, 5, 6, 7, 8], xT s = k * 2 * per
      let valid := lim 2500 per 100000 ∧ lim 10 dt 500 ∧ lim 150 (s.fld (F.PWM_LIM_MINON n.val)) 1000 ∧ lim (dt + 10)
        (s.fld (F.PWM_LIM_MINON n.val)) 1000 ∧ lim (dt + 10) (s.fld (F.PWM_LIM_MINOFF n.val)) 1000 ∧ lim (dt + 10)
        (s.fld (F.PWM_RFR_RFW n.val)) 1000 ∧ lim 1 (s.fld (F.PWM_RFR_RFPER n.val)) 63 ∧ (n = 1 → 300 ≤ ofs ∧ ofs + 300
        ≤ per ∧ s.fldB (F.PWM_CTRL_EN 0) = true) ∧ s.fld F.DLK_STAT_LSTATE = 4 ∧ s.lstate ≠ 0 ∧ s.lstate ≠ 1 ∧
        s.lstate ≠ 5 ∧ (n = 0 → fits)
      Accepts s rq (R.PWM_CTRL n.val) ∧ s.fldB (F.PWM_CTRL_EN n.val) = false ∧ valid ∧ cfgFull s = false)
    ∧ (
      let s : State := { withF up [(F.PWM_PER_PER 0, 2500), (F.PWM_DT_DT 0, 10), (F.PWM_LIM_MINON 0, 150),
        (F.PWM_LIM_MINOFF 0, 1000), (F.PWM_RFR_RFW 0, 20), (F.PWM_RFR_RFPER 0, 63), (F.DLK_STAT_LSTATE, 4),
        (F.HAL_RSTAT_LSTATE, 3)] with dlk := { up.dlk with cfgQ := List.replicate 16 ⟨0, 0, 0, 0, 0, 0⟩ } }
      let n : Fin 2 := 0
      let rq : Req := app
      let per := s.fld (F.PWM_PER_PER 0)
      let lim := fun (lo x hi : Nat) => lo ≤ x ∧ x ≤ hi
      let dt := s.fld (F.PWM_DT_DT n.val)
      let ofs := s.fld (F.PWM_OFS_OFS 1)
      let fits := s.fldB F.XLA_CTRL_EN = false ∨ ∃ k ∈ [1, 2, 3, 4, 5, 6, 7, 8], xT s = k * 2 * per
      let valid := lim 2500 per 100000 ∧ lim 10 dt 500 ∧ lim 150 (s.fld (F.PWM_LIM_MINON n.val)) 1000 ∧ lim (dt + 10)
        (s.fld (F.PWM_LIM_MINON n.val)) 1000 ∧ lim (dt + 10) (s.fld (F.PWM_LIM_MINOFF n.val)) 1000 ∧ lim (dt + 10)
        (s.fld (F.PWM_RFR_RFW n.val)) 1000 ∧ lim 1 (s.fld (F.PWM_RFR_RFPER n.val)) 63 ∧ (n = 1 → 300 ≤ ofs ∧ ofs + 300
        ≤ per ∧ s.fldB (F.PWM_CTRL_EN 0) = true) ∧ s.fld F.DLK_STAT_LSTATE = 4 ∧ s.lstate ≠ 0 ∧ s.lstate ≠ 1 ∧
        s.lstate ≠ 5 ∧ (n = 0 → fits)
      Accepts s rq (R.PWM_CTRL n.val) ∧ s.fldB (F.PWM_CTRL_EN n.val) = false ∧ valid ∧ cfgFull s = true) := by
  refine ⟨?_, ?_, ?_, ?_, ?_⟩ <;> (dsimp only [Accepts]; decide +kernel)

theorem witness_TripsAndChopper : (
      let s : State := up
      let rq : Req := app
      let n : Fin 2 := 0
      let b := fun (f : Nat → Fld) => s.fldB (f n.val) = true
      let r := resolvedTrip n.val s
      let was := s.fld (F.PWM_STAT_TSTATE n.val)
      let offs := b F.PWM_TRIP_EMOFF ∨ b F.PWM_TRIP_SWOFF ∨ (b F.PWM_TRIP_XLAT ∧ ¬b F.PWM_TRIP_XLASH) ∨ (b
        F.PWM_TRIP_SAFET ∧ ¬b F.PWM_TRIP_SAFESH)
      let shorts := b F.PWM_TRIP_EMSHORT ∨ b F.PWM_TRIP_SWSHORT ∨ b F.PWM_TRIP_XLAT ∨ b F.PWM_TRIP_SAFET
      let gate := s.fldB F.SYS_CHSTAT_GATE = true
      let now := s.dlk.dtime.toNat
      let minOver := s.chop.onAt.toNat + 1000 * s.fld F.SYS_CHCFG_MINON ≤ now
      let maxOver := s.chop.onAt.toNat + 10000 * s.fld F.SYS_CHCFG_MAXON ≤ now
      let restOver := s.chop.restAt.toNat + 1000 * s.fld F.SYS_CHCFG_REST ≤ now
      (¬offs) ∧ (¬shorts) ∧ Accepts s rq (R.PWM_CMD n.val) ∧ clocked s = true ∧ (n.val = 0 ∨ maskHas (s.fld
        F.PWR_DOMST_PWRD) 1 = true) ∧ (r = 0 ∨ r = was) ∧ Accepts s rq R.SYS_EMTEST ∧ s.lstate ≠ 1 ∧ s.lstate ≠ 4 ∧
        (¬gate ∨ ¬minOver) ∧ (¬gate ∨ ¬maxOver) ∧ (s.fldB F.SYS_CHSTAT_RESTING = false ∨ ¬restOver))
    ∧ (
      let s : State := withF up [(F.PWM_TRIP_EMOFF 1, 1), (F.PWM_TRIP_EMSHORT 1, 1), (F.HAL_RSTAT_LSTATE, 4)]
      let rq : Req := app
      let n : Fin 2 := 1
      let b := fun (f : Nat → Fld) => s.fldB (f n.val) = true
      let r := resolvedTrip n.val s
      let was := s.fld (F.PWM_STAT_TSTATE n.val)
      let offs := b F.PWM_TRIP_EMOFF ∨ b F.PWM_TRIP_SWOFF ∨ (b F.PWM_TRIP_XLAT ∧ ¬b F.PWM_TRIP_XLASH) ∨ (b
        F.PWM_TRIP_SAFET ∧ ¬b F.PWM_TRIP_SAFESH)
      offs ∧ clocked s = true ∧ (n.val = 0 ∨ maskHas (s.fld F.PWR_DOMST_PWRD) 1 = true) ∧ r ≠ 0 ∧ r ≠ was ∧ Accepts s
        rq R.SYS_EMTEST ∧ (s.lstate = 1 ∨ s.lstate = 4))
    ∧ (
      let s : State := dt 100000 (withF up [(F.SYS_CHSTAT_GATE, 1), (F.SYS_CHCFG_MAXON, 1), (F.SYS_CHCFG_REST, 1)])
      let gate := s.fldB F.SYS_CHSTAT_GATE = true
      let now := s.dlk.dtime.toNat
      let minOver := s.chop.onAt.toNat + 1000 * s.fld F.SYS_CHCFG_MINON ≤ now
      let maxOver := s.chop.onAt.toNat + 10000 * s.fld F.SYS_CHCFG_MAXON ≤ now
      clocked s = true ∧ gate ∧ minOver ∧ s.fld F.SYS_CHCFG_MAXON ≠ 0 ∧ maxOver)
    ∧ (
      let s : State := withF up [(F.PWM_TRIP_SAFET 0, 1), (F.PWM_TRIP_SAFESH 0, 1), (F.HAL_RSTAT_LSTATE, 1)]
      let n : Fin 2 := 0
      let b := fun (f : Nat → Fld) => s.fldB (f n.val) = true
      let offs := b F.PWM_TRIP_EMOFF ∨ b F.PWM_TRIP_SWOFF ∨ (b F.PWM_TRIP_XLAT ∧ ¬b F.PWM_TRIP_XLASH) ∨ (b
        F.PWM_TRIP_SAFET ∧ ¬b F.PWM_TRIP_SAFESH)
      let shorts := b F.PWM_TRIP_EMSHORT ∨ b F.PWM_TRIP_SWSHORT ∨ b F.PWM_TRIP_XLAT ∨ b F.PWM_TRIP_SAFET
      (¬offs) ∧ shorts)
    ∧ (
      let s : State := withF up [(F.SYS_CHSTAT_RESTING, 1)]
      let gate := s.fldB F.SYS_CHSTAT_GATE = true
      let now := s.dlk.dtime.toNat
      let restOver := s.chop.restAt.toNat + 1000 * s.fld F.SYS_CHCFG_REST ≤ now
      clocked s = true ∧ (¬gate) ∧ s.fldB F.SYS_CHSTAT_RESTING = true ∧ restOver) := by
  refine ⟨?_, ?_, ?_, ?_, ?_⟩ <;> (dsimp only [Accepts]; decide +kernel)

theorem witness_DriveLinkPackets : (
      let s : State := { up with
        die := { up.die with
          powered := true, dtime := 200, bank := Vector.replicate 2 { up.die.bank[0] with
            sched := [⟨100, 0x2A, false⟩] }, chopSched := [⟨100, 0x2A, false⟩] } }
      let n : Fin 2 := 0
      let e : DieEdge := ⟨100, 0x2A, false⟩
      let es : List DieEdge := []
      let q : Fin 3 := ⟨n.val, by omega⟩
      let now := s.die.dtime.toNat
      let turn := s.dlk.tripQ = [] ∧ guardWindow s = false
      let idle := turn ∧ ∀ q : Fin 3, s.dlk.edgeQ[q] = []
      let synced := idle ∧ s.dlk.dtime < s.dlk.tsyncAt
      let b := s.die.bank[n]
      (s.dlk.edgeQ[q] = [] ∨ ¬turn) ∧ b.sched = e :: es ∧ e.at_ ≤ now ∧ e.gs < 64 ∧ s.die.chopSched = e :: es ∧
        clocked s = true ∧ ((linkUp s = false ∨ ¬synced ∨ 7 ≤ s.dlk.cfgSent.length)) ∧ ((linkUp s = false ∨ ¬idle ∨
        s.dlk.dtime < s.dlk.tsyncAt)))
    ∧ (
      let s : State := { up with
        dlk := { up.dlk with
          edgeQ := #v[[⟨0xFFFFF, 0x2A, false, true⟩], [⟨0xFFFFF, 0x2A, false, true⟩], [⟨0xFFFFF, 0x2A, false, true⟩]]
            }, die := { up.die with
          powered := true, dtime := 200, patHeld := false, bank := Vector.replicate 2 { up.die.bank[0] with
            accept := true } } }
      let n : Fin 2 := 0
      let p : EdgePkt := ⟨0xFFFFF, 0x2A, false, true⟩
      let ps : List EdgePkt := []
      let q : Fin 3 := ⟨n.val, by omega⟩
      let turn := s.dlk.tripQ = [] ∧ guardWindow s = false
      let b := s.die.bank[n]
      let up := s.die.powered = true
      s.dlk.edgeQ[q] = p :: ps ∧ turn ∧ up ∧ s.die.patHeld = false ∧ (b.accept = true ∨ p.resume = true) ∧ (b.discard
        = false ∨ p.first = true) ∧ s.dlk.edgeQ[(2 : Fin 3)] = p :: ps)
    ∧ (
      let s : State := dt 1000 { withF up [(F.DLK_STAT_LSTATE, 4)] with
        dlk := { up.dlk with tsyncAt := 5000, cfgSent := [⟨1, 0x40, 10, 0, 0, 5⟩] }, die := { up.die with
          powered := true, dtime := 200 } }
      let n : Fin 2 := 0
      let w : CfgWrite := ⟨1, 0x40, 10, 0, 0, 5⟩
      let ws : List CfgWrite := []
      let q : Fin 3 := ⟨n.val, by omega⟩
      let turn := s.dlk.tripQ = [] ∧ guardWindow s = false
      let idle := turn ∧ ∀ q : Fin 3, s.dlk.edgeQ[q] = []
      let synced := idle ∧ s.dlk.dtime < s.dlk.tsyncAt
      clocked s = true ∧ linkUp s = true ∧ synced ∧ s.dlk.cfgSent.length < 7 ∧ s.dlk.soPend = [] ∧ s.dlk.cfgQ = [] ∧
        s.dlk.cfgSent = w :: ws ∧ passed s w.sentAt 800 = true ∧ w.tries < 3)
    ∧ (
      let s : State := { withF up [(F.DLK_STAT_LSTATE, 4)] with
        dlk := { up.dlk with cfgSent := [⟨0, 5, 10, 7, 3, 5⟩] }, die := { up.die with powered := true, dtime := 200 }
          }
      let n : Fin 2 := 0
      let w : CfgWrite := ⟨0, 5, 10, 7, 3, 5⟩
      let ws : List CfgWrite := []
      let q : Fin 3 := ⟨n.val, by omega⟩
      let turn := s.dlk.tripQ = [] ∧ guardWindow s = false
      let idle := turn ∧ ∀ q : Fin 3, s.dlk.edgeQ[q] = []
      clocked s = true ∧ linkUp s = true ∧ s.dlk.cfgSent = w :: ws ∧ passed s w.sentAt 800 = false ∧ idle ∧
        s.dlk.tsyncAt ≤ s.dlk.dtime ∧ s.dlk.dtime.toNat < 2 ^ 71)
    ∧ (
      let s : State := { up with
        dlk := { up.dlk with
          edgeQ := #v[[⟨0xFFFFF, 0x2A, false, true⟩], [⟨0xFFFFF, 0x2A, false, true⟩], [⟨0xFFFFF, 0x2A, false, true⟩]]
            }, die := { up.die with powered := true, dtime := 200, patHeld := true } }
      let n : Fin 2 := 0
      let p : EdgePkt := ⟨0xFFFFF, 0x2A, false, true⟩
      let ps : List EdgePkt := []
      let q : Fin 3 := ⟨n.val, by omega⟩
      let turn := s.dlk.tripQ = [] ∧ guardWindow s = false
      let b := s.die.bank[n]
      let up := s.die.powered = true
      s.dlk.edgeQ[q] = p :: ps ∧ turn ∧ up ∧ (s.die.patHeld = true ∨ (b.accept = false ∧ p.resume = false) ∨
        (b.discard = true ∧ p.first = false)))
    ∧ (
      let s : State := { up with
        die := { up.die with
          bank := Vector.replicate 2 { up.die.bank[0] with sched := [⟨100, 0x2A, false⟩] }, chopSched := [⟨100, 0x2A,
            false⟩] } }
      let n : Fin 2 := 0
      let e : DieEdge := ⟨100, 0x2A, false⟩
      let es : List DieEdge := []
      let now := s.die.dtime.toNat
      let b := s.die.bank[n]
      b.sched = e :: es ∧ now < e.at_)
    ∧ (
      let s : State := { up with
        dlk := { up.dlk with tripQ := [0x1A] }, die := { up.die with powered := true, dtime := 200, patHeld := false }
          }
      let o : Nat := 0x1A
      let os : List Nat := []
      let up := s.die.powered = true
      s.dlk.tripQ = o :: os ∧ up ∧ s.die.patHeld = false)
    ∧ (
      let s : State := { withF up [(F.DLK_STAT_LSTATE, 4)] with
        dlk := { up.dlk with tsyncAt := 5, cfgQ := [⟨1, 0x40, 10, 0, 0, 5⟩] }, die := { up.die with
          powered := true, dtime := 200 } }
      let n : Fin 2 := 0
      let w : CfgWrite := ⟨1, 0x40, 10, 0, 0, 5⟩
      let ws : List CfgWrite := []
      let q : Fin 3 := ⟨n.val, by omega⟩
      let turn := s.dlk.tripQ = [] ∧ guardWindow s = false
      let idle := turn ∧ ∀ q : Fin 3, s.dlk.edgeQ[q] = []
      let synced := idle ∧ s.dlk.dtime < s.dlk.tsyncAt
      clocked s = true ∧ linkUp s = true ∧ synced ∧ s.dlk.cfgSent.length < 7 ∧ s.dlk.soPend = [] ∧ s.dlk.cfgQ = w ::
        ws)
    ∧ (
      let s : State := { withF up [(F.DLK_STAT_LSTATE, 4)] with
        dlk := { up.dlk with tsyncAt := 5, soPend := [(3, true)] }, die := { up.die with
          powered := true, dtime := 200 } }
      let n : Fin 2 := 0
      let c : Nat := 3
      let on : Bool := true
      let sos : List (Nat × Bool) := []
      let q : Fin 3 := ⟨n.val, by omega⟩
      let turn := s.dlk.tripQ = [] ∧ guardWindow s = false
      let idle := turn ∧ ∀ q : Fin 3, s.dlk.edgeQ[q] = []
      let synced := idle ∧ s.dlk.dtime < s.dlk.tsyncAt
      clocked s = true ∧ linkUp s = true ∧ synced ∧ s.dlk.cfgSent.length < 7 ∧ s.dlk.soPend = (c, on) :: sos ∧ c < 4)
    ∧ (
      let s : State := dt 1000 { withF up [(F.DLK_STAT_LSTATE, 4)] with
        dlk := { up.dlk with tsyncAt := 5000, cfgSent := [⟨0, 5, 10, 7, 3, 5⟩] }, die := { up.die with
          powered := true, dtime := 200 } }
      let w : CfgWrite := ⟨0, 5, 10, 7, 3, 5⟩
      let ws : List CfgWrite := []
      clocked s = true ∧ linkUp s = true ∧ s.dlk.cfgSent = w :: ws ∧ passed s w.sentAt 800 = true ∧ 3 ≤ w.tries)
    ∧ (
      let s : State := dt 3000 { withF up [(F.DLK_STAT_LSTATE, 4)] with
        dlk := { up.dlk with tsync := some 5 }, die := { up.die with powered := true, dtime := 200 } }
      let delay : BitVec 10 := 5
      let d : DWord := 5
      let up := s.die.powered = true
      let err : Int := s.fld F.DLK_LDLY_DLY - delay.toNat
      let theirs : Int := s.dlk.dtime.toNat
      let own : Int := s.die.dtime.toNat
      s.dlk.tsync = some d ∧ up ∧ 2000 ≤ theirs ∧ theirs < 2 ^ 71 ∧ (theirs - own).natAbs < 2 ^ 22 ∧ (s.die.tsAt =
        none ∨ (theirs + err - own).natAbs ≤ 2))
    ∧ (
      let s : State := dt 3000 { withF up [(F.DLK_STAT_LSTATE, 4)] with
        dlk := { up.dlk with tsync := some 5 }, die := { up.die with powered := true, dtime := 2000, tsAt := some 5 }
          }
      let delay : BitVec 10 := 5
      let d : DWord := 5
      let up := s.die.powered = true
      let err : Int := s.fld F.DLK_LDLY_DLY - delay.toNat
      let theirs : Int := s.dlk.dtime.toNat
      let own : Int := s.die.dtime.toNat
      s.dlk.tsync = some d ∧ up ∧ 2000 ≤ theirs ∧ theirs < 2 ^ 71 ∧ (theirs - own).natAbs < 2 ^ 22 ∧ s.die.tsAt ≠ none
        ∧ 2 < (theirs + err - own).natAbs) := by
  refine ⟨?_, ?_, ?_, ?_, ?_, ?_, ?_, ?_, ?_, ?_, ?_, ?_⟩ <;> decide +kernel

theorem witness_DriveLinkManagement : (
      let s : State := withF up [(F.DLK_STAT_LSTATE, 1)]
      let rq : Req := app
      let quiet : Bool := true
      let codes : Nat := 5
      let level : Nat := 5
      let held : Nat := 5
      let k : Fin 24 := 0
      let ph : Fin 3 := 0
      let x : Word := 0x2A
      let ll := s.fld F.DLK_STAT_LSTATE
      let retrainable := s.fldB F.DLK_CTRL_EN = true ∧ ll = 0 ∧ s.lstate ≠ 0 ∧ s.lstate ≠ 5 ∧ s.dlk.stopAt.all fun x
        => decide (x.toNat + 1000 ≤ s.dlk.dtime.toNat)
      let formed := evaluated k ph s = true ∧ conditionOf k level s = true ∧ filterNs k.val s ≤ held
      let freed := releaseOf k level s = true ∧ filterNs k.val s ≤ held
      let lost := quiet = true ∨ 4 ≤ codes ∨ 3 ≤ s.die.tsBad ∨ s.die.tsAt.any fun x => decide (x.toNat + 5000 ≤
        s.die.dtime.toNat)
      clocked s = true ∧ (¬retrainable) ∧ ll = 1 ∧ s.die.powered = true ∧ Accepts s rq R.DLK_CMD ∧ ll ≠ 3 ∧ lost ∧ ll
        ≠ 0 ∧ (quiet = true ∨ 4 ≤ codes) ∧ (k.val = 18 ∨ ¬formed) ∧ (k.val = 18 ∨ ¬freed) ∧ s.die.chopAt = none ∧
        dieReports s = false)
    ∧ (
      let s : State := withF up [(F.DLK_STAT_LSTATE, 0), (F.DLK_CTRL_EN, 1), (F.HAL_RSTAT_LSTATE, 3)]
      let quiet : Bool := true
      let codes : Nat := 5
      let x : Word := 0x2A
      let ll := s.fld F.DLK_STAT_LSTATE
      let retrainable := s.fldB F.DLK_CTRL_EN = true ∧ ll = 0 ∧ s.lstate ≠ 0 ∧ s.lstate ≠ 5 ∧ s.dlk.stopAt.all fun x
        => decide (x.toNat + 1000 ≤ s.dlk.dtime.toNat)
      clocked s = true ∧ retrainable ∧ (ll = 0 ∨ (quiet = false ∧ codes < 4)))
    ∧ (
      let s : State := { withF up [(F.DLK_STAT_LSTATE, 3)] with
        dlk := { up.dlk with upEvent := none }, die := { up.die with
          powered := true, evDue := true, regs := (withF up [(F.GDC_STAT_DSTATE, 2)]).regs } }
      let rq : Req := app
      let ll := s.fld F.DLK_STAT_LSTATE
      Accepts s rq R.DLK_CMD ∧ ll = 3 ∧ clocked s = true ∧ s.dlk.upBits = none ∧ s.dlk.upEvent = none ∧ s.die.evDue =
        true ∧ dieReports s = true)
    ∧ (
      let s : State := { withF up [(F.DLK_STAT_LSTATE, 2)] with die := { up.die with powered := true } }
      let ll := s.fld F.DLK_STAT_LSTATE
      clocked s = true ∧ ll = 2 ∧ s.fldB F.DLK_STAT_VERR = false ∧ s.die.powered = true)
    ∧ (
      let s : State := { up with die := { up.die with powered := false } }
      s.die.powered = false)
    ∧ (
      let s : State := { up with
        dlk := { up.dlk with upEvent := some 0xFFFFFF }, die := { up.die with powered := true } }
      let v : Nat := 0xFFFFFF
      clocked s = true ∧ s.dlk.upBits = none ∧ s.dlk.upEvent = some v)
    ∧ (
      let s : State := { up with
        dlk := { up.dlk with upStatus := [(0, 23, 3, 0x2A)] }, die := { up.die with powered := true } }
      let off : Nat := 23
      let ack : Nat := 3
      let x : Word := 0x2A
      let st : List (Nat × Nat × Nat × Word) := []
      clocked s = true ∧ s.dlk.upBits = none ∧ eventDue s = none ∧ s.dlk.upStatus = (0, off, ack, x) :: st ∧ off <
        0x18 ∧ off ≠ 0x10 ∧ off ≠ 0x13 ∧ off ≠ 0x14)
    ∧ (
      let s : State := { up with
        dlk := { up.dlk with upStatus := [(0, 16, 3, 0x2A)] }, die := { up.die with powered := true } }
      let off : Nat := 16
      let ack : Nat := 3
      let x : Word := 0x2A
      let st : List (Nat × Nat × Nat × Word) := []
      clocked s = true ∧ s.dlk.upBits = none ∧ eventDue s = none ∧ s.dlk.upStatus = (0, off, ack, x) :: st ∧ off =
        0x10)
    ∧ (
      let s : State := { up with
        dlk := { up.dlk with upStatus := [(0, 19, 3, 0x2A)] }, die := { up.die with powered := true } }
      let off : Nat := 19
      let ack : Nat := 3
      let x : Word := 0x2A
      let st : List (Nat × Nat × Nat × Word) := []
      clocked s = true ∧ s.dlk.upBits = none ∧ eventDue s = none ∧ s.dlk.upStatus = (0, off, ack, x) :: st ∧ off =
        0x13)
    ∧ (
      let s : State := { up with
        dlk := { up.dlk with upStatus := [(0, 20, 3, 0x2A)] }, die := { up.die with powered := true } }
      let off : Nat := 20
      let ack : Nat := 3
      let x : Word := 0x2A
      let st : List (Nat × Nat × Nat × Word) := []
      clocked s = true ∧ s.dlk.upBits = none ∧ eventDue s = none ∧ s.dlk.upStatus = (0, off, ack, x) :: st ∧ off =
        0x14)
    ∧ (
      let s : State := { up with die := { up.die with powered := true } }
      let quiet : Bool := false
      let codes : Nat := 0
      let x : Word := 0x2A
      let lost := quiet = true ∨ 4 ≤ codes ∨ 3 ≤ s.die.tsBad ∨ s.die.tsAt.any fun x => decide (x.toNat + 5000 ≤
        s.die.dtime.toNat)
      s.die.powered = true ∧ (¬lost))
    ∧ (
      let s : State := { up with die := { up.die with powered := true } }
      let level : Nat := 2000000
      let held : Nat := 64000
      let k : Fin 24 := 15
      let ph : Fin 3 := 0
      let formed := evaluated k ph s = true ∧ conditionOf k level s = true ∧ filterNs k.val s ≤ held
      s.die.powered = true ∧ k.val ≠ 18 ∧ formed)
    ∧ (
      let s : State := { up with die := { up.die with powered := true } }
      let level : Nat := 0
      let held : Nat := 64000
      let k : Fin 24 := 15
      let freed := releaseOf k level s = true ∧ filterNs k.val s ≤ held
      s.die.powered = true ∧ k.val ≠ 18 ∧ k.val ≠ 19 ∧ k.val ≠ 20 ∧ freed)
    ∧ (
      let s : State := { up with
        die := { up.die with
          powered := true, dtime := 300000, chop := true, chopAt := some (5, 5), regs := (withF up [(F.GDC_CTRL_OENCH,
            1)]).regs } }
      let w := ((5, 5) : DWord × Nat)
      s.die.chopAt = some w ∧ chopOut s = true ∧ w.1.toNat + 1000 * max 1 (dieFld s F.GDC_CHOP_CHT) ≤
        s.die.dtime.toNat)
    ∧ (
      let s : State := { up with
        dlk := { up.dlk with upBits := some (5, []) }, die := { up.die with powered := true, dtime := 200 } }
      clocked s = true ∧ s.dlk.upBits ≠ none)
    ∧ (
      let s : State := { up with
        dlk := { up.dlk with upStatus := [(1, dieHalyard, 3, 0x2A)] }, die := { up.die with
          powered := true, dtime := 200 } }
      let ack : Nat := 3
      let x : Word := 0x2A
      let st : List (Nat × Nat × Nat × Word) := []
      clocked s = true ∧ s.dlk.upBits = none ∧ eventDue s = none ∧ s.dlk.upStatus = (1, dieHalyard, ack, x) :: st)
    ∧ (
      let s : State := { up with
        dlk := { up.dlk with upStatus := [(1, dieErrors, 3, 0x2A)] }, die := { up.die with
          powered := true, dtime := 200 } }
      let ack : Nat := 3
      let x : Word := 0x2A
      let st : List (Nat × Nat × Nat × Word) := []
      clocked s = true ∧ s.dlk.upBits = none ∧ eventDue s = none ∧ s.dlk.upStatus = (1, dieErrors, ack, x) :: st) := by
  refine ⟨?_, ?_, ?_, ?_, ?_, ?_, ?_, ?_, ?_, ?_, ?_, ?_, ?_, ?_, ?_, ?_, ?_⟩ <;> dsimp only [Accepts]
  all_goals repeat' apply And.intro
  all_goals decide +kernel

theorem witness_HallAndCurrents : (
      let s : State := up
      let n : Fin 2 := 0
      let raw : BitVec 3 := 5
      let k := n.val
      let en := if n = 0 then s.fldB F.HALL_CTRL_EN0 else s.fldB F.HALL_CTRL_EN1
      let filt := s.fld (F.HALL_STAT_FILT k)
      let now := s.dlk.dtime.toNat
      let stable := (if s.fld (F.HALL_STAT_RAW k) = raw.toNat then s.com[n].rawAt.toNat else now) + 100 * s.fld
        F.HALL_CTRL_HFT ≤ now
      let still := s.com[n].edgeAt.toNat + 1000000 * max 1 (s.fld F.HALL_CTRL_HSTO) ≤ now
      let catching := s.com[n].mode = some 2 ∧ s.fld (F.COM_STAT_PHASE k) = 1 ∧ s.com[n].next = none ∧
        s.com[n].startAt.toNat + 1000000 * s.fld (F.COM_SS_FSTO k) ≤ now
      let ms := (s.ltime.toNat - s.com[n].lockAt.toNat) / 1000000
      let lock := s.fld (F.COM_LOCK_LOCKT k)
      clocked s = true ∧ (en = false ∨ filt = raw.toNat ∨ ¬stable) ∧ (en = false ∨ ¬still) ∧ (¬catching) ∧ (lock = 0 ∨
        ms < lock * (s.com[n].lockN + 1)))
    ∧ (
      let s : State := up
      let n : Fin 2 := 0
      let i : Fin 3 := 0
      let c : Fin 7 := 0
      let k := n.val
      let o := (s.isn.owed[n]).getD (sampleNow n s)
      let trim := if n = 0 then s.fld F.DLK_TRIM_TB0 else s.fld F.DLK_TRIM_TB1
      let anchor := o.start.toNat + 2 * o.spt + 160 + trim
      let late := bitsAfter anchor s
      let newest := s.isn.newest.toNat
      let owes := s.fldB (F.PWM_CTRL_EN k) = true ∧ (s.isn.owed[n] ≠ none ∨ s.isn.sampled[n] = false)
      let due := owes ∧ (newest + 50 > anchor ∨ anchor + 550 ≤ s.ltime.toNat)
      c.val = 3 * k + i.val ∧ late = none ∧ clocked s = true ∧ (¬due) ∧ s.dlk.upBits = none)
    ∧ (
      let s : State := dt 90000000000 (withF up [(F.HALL_STAT_RAW 0, 1), (F.HALL_CTRL_EN0, 1), (F.HALL_CTRL_EN1, 1),
        (F.HALL_MAP_MAP 0, 0o76543210)])
      let n : Fin 2 := 0
      let raw : BitVec 3 := 1
      let k := n.val
      let en := if n = 0 then s.fldB F.HALL_CTRL_EN0 else s.fldB F.HALL_CTRL_EN1
      let filt := s.fld (F.HALL_STAT_FILT k)
      let entry := fun (x : Nat) => s.fld (F.HALL_MAP_MAP k) / 8 ^ x % 8
      let old := entry filt
      let new := entry raw.toNat
      let now := s.dlk.dtime.toNat
      let stable := (if s.fld (F.HALL_STAT_RAW k) = raw.toNat then s.com[n].rawAt.toNat else now) + 100 * s.fld
        F.HALL_CTRL_HFT ≤ now
      let still := s.com[n].edgeAt.toNat + 1000000 * max 1 (s.fld F.HALL_CTRL_HSTO) ≤ now
      clocked s = true ∧ en = true ∧ filt ≠ raw.toNat ∧ stable ∧ old < 6 ∧ new < 6 ∧ (new + 6 - old) % 6 = 1 ∧ still)
    ∧ (
      let s : State := { withF up [(F.PWM_CTRL_EN 0, 1), (F.ISN_CTRL_EN0, 1)] with
        isn := { up.isn with
          bits := Vector.replicate 7 (List.replicate 200 (some true)), newest := 101000, owed := Vector.replicate 2
            (some ⟨100000, 0, 0, #v[3000, 3000, 3000]⟩) } }
      let n : Fin 2 := 0
      let l : Nat := 17
      let x : Int := ((channelX 2 (3 + up.fld (F.ISN_CFG_OSR 0)) 17 ({ withF up [(F.PWM_CTRL_EN 0, 1),
        (F.ISN_CTRL_EN0, 1)] with
        isn := { up.isn with
          bits := Vector.replicate 7 (List.replicate 200 (some true)), newest := 101000, owed := Vector.replicate 2
            (some ⟨100000, 0, 0, #v[3000, 3000, 3000]⟩) } })).getD 0)
      let i : Fin 3 := 2
      let c : Fin 7 := 2
      let k := n.val
      let o := (s.isn.owed[n]).getD (sampleNow n s)
      let trim := if n = 0 then s.fld F.DLK_TRIM_TB0 else s.fld F.DLK_TRIM_TB1
      let anchor := o.start.toNat + 2 * o.spt + 160 + trim
      let late := bitsAfter anchor s
      let newest := s.isn.newest.toNat
      let owes := s.fldB (F.PWM_CTRL_EN k) = true ∧ (s.isn.owed[n] ≠ none ∨ s.isn.sampled[n] = false)
      let due := owes ∧ (newest + 50 > anchor ∨ anchor + 550 ≤ s.ltime.toNat)
      let p := fun (i : Fin 3) => phaseSample n i late o s
      let v := fun (i : Fin 3) => (p i).valid
      let two := (v 0 && v 1) || (v 0 && v 2) || (v 1 && v 2)
      let en := if n = 0 then s.fldB F.ISN_CTRL_EN0 else s.fldB F.ISN_CTRL_EN1
      let l2n := 3 + s.fld (F.ISN_CFG_OSR k)
      c.val = 3 * k + i.val ∧ late = some l ∧ channelX c l2n l s = some x ∧ clocked s = true ∧ due ∧ en = true ∧ two =
        true)
    ∧ (
      let s : State := { withF up [(F.PWM_CTRL_EN 0, 1), (F.ISN_CTRL_EN0, 1)] with
        isn := { up.isn with
          bits := Vector.replicate 7 ([]), newest := 101000, owed := Vector.replicate 2 (some ⟨100000, 0, 0, #v[3000,
            3000, 3000]⟩) } }
      let n : Fin 2 := 0
      let l : Nat := 17
      let i : Fin 3 := 0
      let c : Fin 7 := 0
      let k := n.val
      let o := (s.isn.owed[n]).getD (sampleNow n s)
      let trim := if n = 0 then s.fld F.DLK_TRIM_TB0 else s.fld F.DLK_TRIM_TB1
      let anchor := o.start.toNat + 2 * o.spt + 160 + trim
      let late := bitsAfter anchor s
      let newest := s.isn.newest.toNat
      let owes := s.fldB (F.PWM_CTRL_EN k) = true ∧ (s.isn.owed[n] ≠ none ∨ s.isn.sampled[n] = false)
      let due := owes ∧ (newest + 50 > anchor ∨ anchor + 550 ≤ s.ltime.toNat)
      let p := fun (i : Fin 3) => phaseSample n i late o s
      let v := fun (i : Fin 3) => (p i).valid
      let two := (v 0 && v 1) || (v 0 && v 2) || (v 1 && v 2)
      let en := if n = 0 then s.fldB F.ISN_CTRL_EN0 else s.fldB F.ISN_CTRL_EN1
      let l2n := 3 + s.fld (F.ISN_CFG_OSR k)
      c.val = 3 * k + i.val ∧ late = some l ∧ channelX c l2n l s = none ∧ clocked s = true ∧ due ∧ en = true ∧ two =
        false)
    ∧ (
      let s : State := dt 90000000000 (withF up [(F.HALL_STAT_RAW 0, 5), (F.HALL_CTRL_EN0, 1), (F.HALL_CTRL_EN1, 1),
        (F.HALL_MAP_MAP 0, 0o76543210)])
      let n : Fin 2 := 0
      let raw : BitVec 3 := 5
      let k := n.val
      let en := if n = 0 then s.fldB F.HALL_CTRL_EN0 else s.fldB F.HALL_CTRL_EN1
      let filt := s.fld (F.HALL_STAT_FILT k)
      let entry := fun (x : Nat) => s.fld (F.HALL_MAP_MAP k) / 8 ^ x % 8
      let old := entry filt
      let new := entry raw.toNat
      let now := s.dlk.dtime.toNat
      let stable := (if s.fld (F.HALL_STAT_RAW k) = raw.toNat then s.com[n].rawAt.toNat else now) + 100 * s.fld
        F.HALL_CTRL_HFT ≤ now
      clocked s = true ∧ en = true ∧ filt ≠ raw.toNat ∧ stable ∧ old < 6 ∧ new < 6 ∧ (new + 6 - old) % 6 = 5)
    ∧ (
      let s : State := dt 90000000000 (withF up [(F.HALL_STAT_RAW 0, 2), (F.HALL_CTRL_EN0, 1), (F.HALL_CTRL_EN1, 1),
        (F.HALL_MAP_MAP 0, 0o76543210)])
      let n : Fin 2 := 0
      let raw : BitVec 3 := 2
      let k := n.val
      let en := if n = 0 then s.fldB F.HALL_CTRL_EN0 else s.fldB F.HALL_CTRL_EN1
      let filt := s.fld (F.HALL_STAT_FILT k)
      let entry := fun (x : Nat) => s.fld (F.HALL_MAP_MAP k) / 8 ^ x % 8
      let old := entry filt
      let new := entry raw.toNat
      let now := s.dlk.dtime.toNat
      let stable := (if s.fld (F.HALL_STAT_RAW k) = raw.toNat then s.com[n].rawAt.toNat else now) + 100 * s.fld
        F.HALL_CTRL_HFT ≤ now
      clocked s = true ∧ en = true ∧ filt ≠ raw.toNat ∧ stable ∧ old < 6 ∧ new < 6 ∧ 2 ≤ (new + 6 - old) % 6 ∧ (new +
        6 - old) % 6 ≤ 4)
    ∧ (
      let s : State := dt 90000000000 (withF up [(F.HALL_STAT_RAW 0, 6), (F.HALL_CTRL_EN0, 1), (F.HALL_CTRL_EN1, 1),
        (F.HALL_MAP_MAP 0, 0o76543210)])
      let n : Fin 2 := 0
      let raw : BitVec 3 := 6
      let k := n.val
      let en := if n = 0 then s.fldB F.HALL_CTRL_EN0 else s.fldB F.HALL_CTRL_EN1
      let filt := s.fld (F.HALL_STAT_FILT k)
      let entry := fun (x : Nat) => s.fld (F.HALL_MAP_MAP k) / 8 ^ x % 8
      let new := entry raw.toNat
      let now := s.dlk.dtime.toNat
      let stable := (if s.fld (F.HALL_STAT_RAW k) = raw.toNat then s.com[n].rawAt.toNat else now) + 100 * s.fld
        F.HALL_CTRL_HFT ≤ now
      clocked s = true ∧ en = true ∧ filt ≠ raw.toNat ∧ stable ∧ 6 ≤ new)
    ∧ (
      let s : State := { up with
        dlk := { up.dlk with upBits := some (255, []) }, isn := { up.isn with nextSeq := some 255 } }
      let q : Nat := 255
      let os : List (BitVec 8) := []
      clocked s = true ∧ s.dlk.upBits = some (q, os))
    ∧ (
      let s : State := dt 90000000000 (withF up [(F.HALL_STAT_RAW 1, 1), (F.HALL_CTRL_EN1, 1), (F.HALL_MAP_MAP 1,
        0o70111117)])
      let n : Fin 2 := 1
      let raw : BitVec 3 := 1
      let k := n.val
      let en := if n = 0 then s.fldB F.HALL_CTRL_EN0 else s.fldB F.HALL_CTRL_EN1
      let filt := s.fld (F.HALL_STAT_FILT k)
      let entry := fun (x : Nat) => s.fld (F.HALL_MAP_MAP k) / 8 ^ x % 8
      let old := entry filt
      let new := entry raw.toNat
      let now := s.dlk.dtime.toNat
      let stable := (if s.fld (F.HALL_STAT_RAW k) = raw.toNat then s.com[n].rawAt.toNat else now) + 100 * s.fld
        F.HALL_CTRL_HFT ≤ now
      clocked s = true ∧ en = true ∧ filt ≠ raw.toNat ∧ stable ∧ 6 ≤ old ∧ new < 6)
    ∧ (
      let s : State := dt 90000000000 { withF up [(F.COM_STAT_PHASE 1, 1)] with
        com := Vector.replicate 2 { up.com[0] with mode := some 2, next := none } }
      let n : Fin 2 := 1
      let k := n.val
      let now := s.dlk.dtime.toNat
      let catching := s.com[n].mode = some 2 ∧ s.fld (F.COM_STAT_PHASE k) = 1 ∧ s.com[n].next = none ∧
        s.com[n].startAt.toNat + 1000000 * s.fld (F.COM_SS_FSTO k) ≤ now
      clocked s = true ∧ catching)
    ∧ (
      let s : State := { withF up [(F.COM_LOCK_LOCKT 1, 1023)] with ltime := 90000000000 }
      let n : Fin 2 := 1
      let k := n.val
      let ms := (s.ltime.toNat - s.com[n].lockAt.toNat) / 1000000
      let lock := s.fld (F.COM_LOCK_LOCKT k)
      clocked s = true ∧ lock ≠ 0 ∧ lock * (s.com[n].lockN + 1) ≤ ms)
    ∧ (
      let s : State := dt 90000000000 (withF up [(F.HALL_STAT_FILT 0, 1), (F.HALL_STAT_RAW 0, 3), (F.HALL_CTRL_EN0,
        1), (F.HALL_MAP_MAP 0, 0o77771717)])
      let n : Fin 2 := 0
      let raw : BitVec 3 := 3
      let k := n.val
      let en := if n = 0 then s.fldB F.HALL_CTRL_EN0 else s.fldB F.HALL_CTRL_EN1
      let filt := s.fld (F.HALL_STAT_FILT k)
      let entry := fun (x : Nat) => s.fld (F.HALL_MAP_MAP k) / 8 ^ x % 8
      let old := entry filt
      let new := entry raw.toNat
      let now := s.dlk.dtime.toNat
      let stable := (if s.fld (F.HALL_STAT_RAW k) = raw.toNat then s.com[n].rawAt.toNat else now) + 100 * s.fld
        F.HALL_CTRL_HFT ≤ now
      clocked s = true ∧ en = true ∧ filt ≠ raw.toNat ∧ stable ∧ old < 6 ∧ new = old) := by
  refine ⟨?_, ?_, ?_, ?_, ?_, ?_, ?_, ?_, ?_, ?_, ?_, ?_, ?_⟩ <;> decide +kernel

theorem witness_Encoders : (
      let s : State := up
      let n : Fin 2 := 0
      let z : Bool := true
      let rq : Req := app
      let i : Fin 3 := 0
      let j : Fin 2 := 0
      let vp : Int := 5
      let vn : Int := 5
      let held : Nat := 5
      let k := n.val
      let ck := clocked s = true ∧ maskHas (s.fld F.PWR_DOMST_PWRD) (2 + k) = true
      let lvl := s.fld (F.QEP_STAT_LVL k)
      let a0 := maskHas lvl 0
      let b0 := maskHas lvl 1
      let h := s.qep[n]
      let on := s.fldB (F.QEP_CTRL_EN k)
      let mode := s.fld (F.QEP_CTRL_MODE k)
      let indexed := s.fldB (F.QEP_CTRL_ZEN k) = true ∧ z ≠ s.fldB (F.QEP_CTRL_ZPOL k) ∧ 2 * b2n a0 + b2n b0 = s.fld
        (F.QEP_CTRL_ZQS k)
      let e := (s.ltime - h.lastEdge).toNat
      let decays := s.fldB (F.QEP_SPCFG_DECAY k) = true ∧ s.fldB (F.QEP_STAT_SPDV k) = true ∧ h.lastIv < e
      let wire := s.fld (F.QEP_STAT_WIRE k)
      let diff := s.fldB (F.QEP_CTRL_DIFF k)
      let out := (vp - vn).natAbs < 150 ∨ vp + vn < 2 * 500 ∨ 2 * 4000 < vp + vn
      let long := 1000 * max 1 (s.fld (F.QEP_WCFG_WFT k)) ≤ held
      let now := s.dlk.dtime.toNat
      let calm := h.idxLater = false
      let timeout := h.hasEdge = false ∨ h.lastEdge.toNat + 10000 * max 1 (s.fld (F.QEP_SPCFG_SSTO k)) ≤ s.ltime.toNat
      let pulls := diff = false ∧ s.fldB (F.QEP_WCFG_PTEN k) = true ∧ h.pullAt.toNat + 1000000 ≤ now
      let jj : Fin 3 := ⟨j.val, by omega⟩
      let stuckable := h.lvlAt[jj].toNat + 1000000 * s.fld (F.QEP_WCFG_WLT k) ≤ now ∧ diff = false ∧ mode ≤ 1 ∧ s.fld
        (F.QEP_WCFG_WLT k) ≠ 0 ∧ maskHas lvl j.val = false ∧ s.fld (F.QEP_WCFG_WSTK k) ≤ h.otherEdges[j]
      ck ∧ calm ∧ on = false ∧ (¬indexed ∨ h.idxCond = true) ∧ (on = false ∨ ¬timeout) ∧ (¬decays) ∧ Accepts s rq
        (R.QEP_POS k) ∧ Accepts s rq (R.QEP_CMP k) ∧ Accepts s rq (R.QEP_CMPCFG k) ∧ Accepts s rq (R.QEP_DOCTL k) ∧
        s.fldB (F.QEP_DOCTL_DOEN k) = false ∧ (diff = false ∨ ¬out ∨ ¬long ∨ maskHas wire i.val = true) ∧ (diff =
        false ∨ out ∨ ¬long ∨ maskHas wire i.val = false) ∧ (¬pulls) ∧ (¬stuckable))
    ∧ (
      let s : State := withF up [(F.PWR_DOMST_PWRD, 15), (F.QEP_CTRL_EN 1, 1), (F.QEP_CTRL_MODE 1, 0), (F.QEP_STAT_LVL
        1, 0)]
      let n : Fin 2 := 1
      let a : Bool := true
      let b : Bool := false
      let k := n.val
      let ck := clocked s = true ∧ maskHas (s.fld F.PWR_DOMST_PWRD) (2 + k) = true
      let lvl := s.fld (F.QEP_STAT_LVL k)
      let a0 := maskHas lvl 0
      let b0 := maskHas lvl 1
      let h := s.qep[n]
      let on := s.fldB (F.QEP_CTRL_EN k)
      let mode := s.fld (F.QEP_CTRL_MODE k)
      let steps : List (Bool × Bool × Bool × Bool) := [(false, false, true, false), (true, false, true, true), (true,
        true, false, true), (false, true, false, false)]
      let calm := h.idxLater = false
      let timeout := h.hasEdge = false ∨ h.lastEdge.toNat + 10000 * max 1 (s.fld (F.QEP_SPCFG_SSTO k)) ≤ s.ltime.toNat
      ck ∧ calm ∧ on = true ∧ mode = 0 ∧ (a0, b0, a, b) ∈ steps ∧ timeout)
    ∧ (
      let s : State := withF up [(F.PWR_DOMST_PWRD, 15), (F.QEP_CTRL_EN 1, 1), (F.QEP_CTRL_MODE 1, 0), (F.QEP_STAT_LVL
        1, 1)]
      let n : Fin 2 := 1
      let a : Bool := false
      let b : Bool := false
      let k := n.val
      let ck := clocked s = true ∧ maskHas (s.fld F.PWR_DOMST_PWRD) (2 + k) = true
      let lvl := s.fld (F.QEP_STAT_LVL k)
      let a0 := maskHas lvl 0
      let b0 := maskHas lvl 1
      let h := s.qep[n]
      let on := s.fldB (F.QEP_CTRL_EN k)
      let mode := s.fld (F.QEP_CTRL_MODE k)
      let steps : List (Bool × Bool × Bool × Bool) := [(false, false, true, false), (true, false, true, true), (true,
        true, false, true), (false, true, false, false)]
      let calm := h.idxLater = false
      ck ∧ calm ∧ on = true ∧ mode = 0 ∧ (a, b, a0, b0) ∈ steps)
    ∧ (
      let s : State := withF up [(F.PWR_DOMST_PWRD, 15), (F.QEP_CTRL_EN 1, 1), (F.QEP_CTRL_MODE 1, 0), (F.QEP_STAT_LVL
        1, 3)]
      let n : Fin 2 := 1
      let a : Bool := true
      let b : Bool := true
      let k := n.val
      let ck := clocked s = true ∧ maskHas (s.fld F.PWR_DOMST_PWRD) (2 + k) = true
      let lvl := s.fld (F.QEP_STAT_LVL k)
      let a0 := maskHas lvl 0
      let b0 := maskHas lvl 1
      let h := s.qep[n]
      let on := s.fldB (F.QEP_CTRL_EN k)
      let mode := s.fld (F.QEP_CTRL_MODE k)
      let calm := h.idxLater = false
      ck ∧ calm ∧ on = true ∧ mode = 0 ∧ a = a0 ∧ b = b0)
    ∧ (
      let s : State := withF up [(F.PWR_DOMST_PWRD, 15), (F.QEP_CTRL_EN 1, 1), (F.QEP_CTRL_MODE 1, 0), (F.QEP_STAT_LVL
        1, 2)]
      let n : Fin 2 := 1
      let a : Bool := true
      let b : Bool := false
      let k := n.val
      let ck := clocked s = true ∧ maskHas (s.fld F.PWR_DOMST_PWRD) (2 + k) = true
      let lvl := s.fld (F.QEP_STAT_LVL k)
      let a0 := maskHas lvl 0
      let b0 := maskHas lvl 1
      let h := s.qep[n]
      let on := s.fldB (F.QEP_CTRL_EN k)
      let mode := s.fld (F.QEP_CTRL_MODE k)
      let calm := h.idxLater = false
      ck ∧ calm ∧ on = true ∧ mode = 0 ∧ a ≠ a0 ∧ b ≠ b0)
    ∧ (
      let s : State := withF up [(F.PWR_DOMST_PWRD, 15), (F.QEP_CTRL_EN 1, 1), (F.QEP_CTRL_MODE 1, 1), (F.QEP_STAT_LVL
        1, 0)]
      let n : Fin 2 := 1
      let a : Bool := true
      let k := n.val
      let ck := clocked s = true ∧ maskHas (s.fld F.PWR_DOMST_PWRD) (2 + k) = true
      let lvl := s.fld (F.QEP_STAT_LVL k)
      let a0 := maskHas lvl 0
      let h := s.qep[n]
      let on := s.fldB (F.QEP_CTRL_EN k)
      let mode := s.fld (F.QEP_CTRL_MODE k)
      let calm := h.idxLater = false
      ck ∧ calm ∧ on = true ∧ mode = 1 ∧ a ≠ a0)
    ∧ (
      let s : State := withF up [(F.PWR_DOMST_PWRD, 15), (F.QEP_CTRL_EN 1, 1), (F.QEP_CTRL_MODE 1, 1), (F.QEP_STAT_LVL
        1, 0)]
      let n : Fin 2 := 1
      let a : Bool := false
      let k := n.val
      let ck := clocked s = true ∧ maskHas (s.fld F.PWR_DOMST_PWRD) (2 + k) = true
      let lvl := s.fld (F.QEP_STAT_LVL k)
      let a0 := maskHas lvl 0
      let h := s.qep[n]
      let on := s.fldB (F.QEP_CTRL_EN k)
      let mode := s.fld (F.QEP_CTRL_MODE k)
      let calm := h.idxLater = false
      ck ∧ calm ∧ on = true ∧ mode = 1 ∧ a = a0)
    ∧ (
      let s : State := withF up [(F.PWR_DOMST_PWRD, 15), (F.QEP_CTRL_EN 1, 1), (F.QEP_CTRL_MODE 1, 2), (F.QEP_STAT_LVL
        1, 0)]
      let n : Fin 2 := 1
      let a : Bool := true
      let k := n.val
      let ck := clocked s = true ∧ maskHas (s.fld F.PWR_DOMST_PWRD) (2 + k) = true
      let lvl := s.fld (F.QEP_STAT_LVL k)
      let a0 := maskHas lvl 0
      let h := s.qep[n]
      let on := s.fldB (F.QEP_CTRL_EN k)
      let mode := s.fld (F.QEP_CTRL_MODE k)
      let calm := h.idxLater = false
      ck ∧ calm ∧ on = true ∧ 2 ≤ mode ∧ a = true ∧ a0 = false)
    ∧ (
      let s : State := withF up [(F.PWR_DOMST_PWRD, 15), (F.QEP_CTRL_EN 1, 1), (F.QEP_CTRL_MODE 1, 3), (F.QEP_STAT_LVL
        1, 1)]
      let n : Fin 2 := 1
      let a : Bool := true
      let k := n.val
      let ck := clocked s = true ∧ maskHas (s.fld F.PWR_DOMST_PWRD) (2 + k) = true
      let lvl := s.fld (F.QEP_STAT_LVL k)
      let a0 := maskHas lvl 0
      let h := s.qep[n]
      let on := s.fldB (F.QEP_CTRL_EN k)
      let mode := s.fld (F.QEP_CTRL_MODE k)
      let calm := h.idxLater = false
      ck ∧ calm ∧ on = true ∧ 2 ≤ mode ∧ (a = false ∨ a0 = true))
    ∧ (
      let s : State := withF up [(F.PWR_DOMST_PWRD, 15), (F.QEP_CTRL_ZEN 1, 1), (F.QEP_CTRL_ZQS 1, 3), (F.QEP_STAT_LVL
        1, 3)]
      let n : Fin 2 := 1
      let z : Bool := true
      let k := n.val
      let ck := clocked s = true ∧ maskHas (s.fld F.PWR_DOMST_PWRD) (2 + k) = true
      let lvl := s.fld (F.QEP_STAT_LVL k)
      let a0 := maskHas lvl 0
      let b0 := maskHas lvl 1
      let h := s.qep[n]
      let indexed := s.fldB (F.QEP_CTRL_ZEN k) = true ∧ z ≠ s.fldB (F.QEP_CTRL_ZPOL k) ∧ 2 * b2n a0 + b2n b0 = s.fld
        (F.QEP_CTRL_ZQS k)
      let calm := h.idxLater = false
      ck ∧ calm ∧ indexed ∧ h.idxCond = false)
    ∧ (
      let s : State := { withF up [(F.PWR_DOMST_PWRD, 15), (F.QEP_SPCFG_DECAY 1, 1), (F.QEP_STAT_SPDV 1, 1)] with
        ltime := 100 }
      let n : Fin 2 := 1
      let k := n.val
      let ck := clocked s = true ∧ maskHas (s.fld F.PWR_DOMST_PWRD) (2 + k) = true
      let h := s.qep[n]
      let e := (s.ltime - h.lastEdge).toNat
      let decays := s.fldB (F.QEP_SPCFG_DECAY k) = true ∧ s.fldB (F.QEP_STAT_SPDV k) = true ∧ h.lastIv < e
      ck ∧ decays)
    ∧ (
      let s : State := { withF up [(F.PWR_DOMST_PWRD, 15), ] with
        qep := Vector.replicate 2 { up.qep[0] with idxLater := true } }
      let n : Fin 2 := 1
      let k := n.val
      let ck := clocked s = true ∧ maskHas (s.fld F.PWR_DOMST_PWRD) (2 + k) = true
      let h := s.qep[n]
      ck ∧ h.idxLater = true)
    ∧ (
      let s : State := dt 900000000 { withF up [(F.PWR_DOMST_PWRD, 15), (F.QEP_WCFG_PTEN 1, 1), (F.QEP_STAT_LVL 1, 4),
        (F.QEP_CTRL_DIFF 1, 0)] with qep := Vector.replicate 2 { up.qep[0] with pullAt := 0 } }
      let n : Fin 2 := 1
      let i : Fin 3 := 2
      let edge : BitVec 3 := 4
      let k := n.val
      let ck := clocked s = true ∧ maskHas (s.fld F.PWR_DOMST_PWRD) (2 + k) = true
      let lvl := s.fld (F.QEP_STAT_LVL k)
      let h := s.qep[n]
      let diff := s.fldB (F.QEP_CTRL_DIFF k)
      let now := s.dlk.dtime.toNat
      let pulls := diff = false ∧ s.fldB (F.QEP_WCFG_PTEN k) = true ∧ h.pullAt.toNat + 1000000 ≤ now
      let loaded := maskHas lvl i.val = true ∧ h.lvlAt[i].toNat + 2000 ≤ now
      ck ∧ pulls ∧ loaded ∧ edge.getLsbD i.val = true)
    ∧ (
      let s : State := dt 900000000 { withF up [(F.PWR_DOMST_PWRD, 15), (F.QEP_WCFG_PTEN 1, 1), (F.QEP_STAT_LVL 1, 4),
        (F.QEP_CTRL_DIFF 1, 0)] with qep := Vector.replicate 2 { up.qep[0] with pullAt := 0 } }
      let n : Fin 2 := 1
      let i : Fin 3 := 2
      let edge : BitVec 3 := 3
      let k := n.val
      let ck := clocked s = true ∧ maskHas (s.fld F.PWR_DOMST_PWRD) (2 + k) = true
      let lvl := s.fld (F.QEP_STAT_LVL k)
      let h := s.qep[n]
      let diff := s.fldB (F.QEP_CTRL_DIFF k)
      let now := s.dlk.dtime.toNat
      let pulls := diff = false ∧ s.fldB (F.QEP_WCFG_PTEN k) = true ∧ h.pullAt.toNat + 1000000 ≤ now
      let loaded := maskHas lvl i.val = true ∧ h.lvlAt[i].toNat + 2000 ≤ now
      ck ∧ pulls ∧ loaded ∧ edge.getLsbD i.val = false)
    ∧ (
      let s : State := dt 900000000 { withF up [(F.PWR_DOMST_PWRD, 15), (F.QEP_WCFG_WLT 1, 1)] with
        qep := Vector.replicate 2 { up.qep[0] with otherEdges := Vector.replicate 2 1000000 } }
      let n : Fin 2 := 1
      let j : Fin 2 := 1
      let k := n.val
      let ck := clocked s = true ∧ maskHas (s.fld F.PWR_DOMST_PWRD) (2 + k) = true
      let lvl := s.fld (F.QEP_STAT_LVL k)
      let h := s.qep[n]
      let mode := s.fld (F.QEP_CTRL_MODE k)
      let wire := s.fld (F.QEP_STAT_WIRE k)
      let diff := s.fldB (F.QEP_CTRL_DIFF k)
      let now := s.dlk.dtime.toNat
      let jj : Fin 3 := ⟨j.val, by omega⟩
      let stuckable := h.lvlAt[jj].toNat + 1000000 * s.fld (F.QEP_WCFG_WLT k) ≤ now ∧ diff = false ∧ mode ≤ 1 ∧ s.fld
        (F.QEP_WCFG_WLT k) ≠ 0 ∧ maskHas lvl j.val = false ∧ s.fld (F.QEP_WCFG_WSTK k) ≤ h.otherEdges[j]
      ck ∧ stuckable ∧ maskHas wire j.val = false)
    ∧ (
      let s : State := withF up [(F.PWR_DOMST_PWRD, 15), (F.QEP_CTRL_DIFF 1, 1)]
      let n : Fin 2 := 1
      let i : Fin 3 := 2
      let vp : Int := 1200
      let vn : Int := 1100
      let held : Nat := 1000000
      let k := n.val
      let ck := clocked s = true ∧ maskHas (s.fld F.PWR_DOMST_PWRD) (2 + k) = true
      let wire := s.fld (F.QEP_STAT_WIRE k)
      let diff := s.fldB (F.QEP_CTRL_DIFF k)
      let out := (vp - vn).natAbs < 150 ∨ vp + vn < 2 * 500 ∨ 2 * 4000 < vp + vn
      let long := 1000 * max 1 (s.fld (F.QEP_WCFG_WFT k)) ≤ held
      ck ∧ diff = true ∧ out ∧ long ∧ maskHas wire i.val = false)
    ∧ (
      let s : State := withF up [(F.PWR_DOMST_PWRD, 15), (F.QEP_CTRL_DIFF 1, 1), (F.QEP_STAT_WIRE 1, 4)]
      let n : Fin 2 := 1
      let i : Fin 3 := 2
      let vp : Int := 2500
      let vn : Int := 1500
      let held : Nat := 1000000
      let k := n.val
      let ck := clocked s = true ∧ maskHas (s.fld F.PWR_DOMST_PWRD) (2 + k) = true
      let wire := s.fld (F.QEP_STAT_WIRE k)
      let diff := s.fldB (F.QEP_CTRL_DIFF k)
      let out := (vp - vn).natAbs < 150 ∨ vp + vn < 2 * 500 ∨ 2 * 4000 < vp + vn
      let long := 1000 * max 1 (s.fld (F.QEP_WCFG_WFT k)) ≤ held
      ck ∧ diff = true ∧ (¬out) ∧ long ∧ maskHas wire i.val = true) := by
  refine ⟨?_, ?_, ?_, ?_, ?_, ?_, ?_, ?_, ?_, ?_, ?_, ?_, ?_, ?_, ?_, ?_, ?_⟩ <;> (dsimp only [Accepts]; decide +kernel)

theorem witness_SentAndSupplies : (
      let s : State := withR up [(R.SENT_SUPSTAT, 0x600)]
      let r : Fin 4 := 3
      let rq : Req := app
      let v : Word := 5
      let i : Fin 4 := 3
      let kind : Fin 3 := 2
      let k := r.val
      let ck := clocked s = true
      let now := s.dlk.dtime.toNat
      let sup := fun (t : State) => getBits (t.reg R.SENT_SUPSTAT) (3 * i.val) 3
      let auto := maskHas (s.fld F.SENT_SUPCTRL_AUTOR) i.val
      let code := kind.val + 2
      let healed := (sup s = 2 ∧ s.sent[i].supAt.toNat + 10000000 ≤ now) ∨ (sup s = 4 ∧ s.sent[i].supAt.toNat + 100000
        ≤ now)
      ck ∧ s.fldB (F.SENT_CFG_EN k) = false ∧ Accepts s rq (R.SENT_CFG k) ∧ bit v 0 = true ∧ sup s ≠ 0 ∧ sup s ≠ 5 ∧
        sup s ≠ code ∧ ((code = 3 → sup s = 1)) ∧ sup s = 3 ∧ (auto = false ∨ ¬healed))
    ∧ (
      let s : State := { withF up [(F.SENT_CFG_EN 3, 1), (F.SENT_CFG_TICK 3, 30), (F.SENT_CFG_NIB 3, 6)] with
        sent := Vector.replicate 4 { up.sent[0] with phase := .search } }
      let r : Fin 4 := 3
      let p : Nat := 134400
      let k := r.val
      let ck := clocked s = true
      let h := s.sent[r]
      let nominal := 56 * 100 * s.fld (F.SENT_CFG_TICK k)
      let calOk := 8 * nominal ≤ 10 * p ∧ 10 * p ≤ 12 * nominal
      let now := s.dlk.dtime.toNat
      let tick := 100 * s.fld (F.SENT_CFG_TICK k)
      let gone := fun (low : Bool) (code : Nat) => h.edgeAt.toNat + (if low then 100 * tick - 100 * s.fld
        (F.SENT_CFG_SFT k) else 1000 * tick) ≤ now ∧ s.fld (F.SENT_STAT_LINE k) ≠ code
      ck ∧ s.fldB (F.SENT_CFG_EN k) = true ∧ h.phase = .search ∧ calOk ∧ (¬gone true 2) ∧ (¬gone false 1))
    ∧ (
      let s : State := dt 900000000 { withF up [(F.SENT_CFG_EN 3, 1), (F.SENT_CFG_TICK 3, 30), (F.SENT_CFG_NIB 3, 6)]
        with sent := Vector.replicate 4 { up.sent[0] with phase := .search } }
      let r : Fin 4 := 3
      let p : Nat := 5
      let k := r.val
      let ck := clocked s = true
      let h := s.sent[r]
      let nominal := 56 * 100 * s.fld (F.SENT_CFG_TICK k)
      let calOk := 8 * nominal ≤ 10 * p ∧ 10 * p ≤ 12 * nominal
      let now := s.dlk.dtime.toNat
      let tick := 100 * s.fld (F.SENT_CFG_TICK k)
      let gone := fun (low : Bool) (code : Nat) => h.edgeAt.toNat + (if low then 100 * tick - 100 * s.fld
        (F.SENT_CFG_SFT k) else 1000 * tick) ≤ now ∧ s.fld (F.SENT_STAT_LINE k) ≠ code
      ck ∧ s.fldB (F.SENT_CFG_EN k) = true ∧ h.phase = .search ∧ (¬calOk) ∧ gone true 2 ∧ gone false 1)
    ∧ (
      let s : State := { withF up [(F.SENT_CFG_EN 3, 1), (F.SENT_CFG_TICK 3, 30), (F.SENT_CFG_NIB 3, 6)] with
        sent := Vector.replicate 4 { up.sent[0] with phase := .nibbles, nibs := [5, 1, 2, 3, 4, 5], tc := 168000 } }
      let r : Fin 4 := 3
      let p : Nat := 36000
      let k := r.val
      let ck := clocked s = true
      let h := s.sent[r]
      let ticks := (112 * p + h.tc) / (2 * h.tc)
      let nibble := 12 ≤ ticks ∧ ticks ≤ 27
      ck ∧ s.fldB (F.SENT_CFG_EN k) = true ∧ h.phase = .nibbles ∧ nibble ∧ h.nibs.length + 1 < s.fld (F.SENT_CFG_NIB
        k) + 2)
    ∧ (
      let s : State := { withF up [(F.SENT_CFG_EN 3, 1), (F.SENT_CFG_TICK 3, 30), (F.SENT_CFG_NIB 3, 6)] with
        sent := Vector.replicate 4 { up.sent[0] with phase := .nibbles, nibs := [5, 1, 2, 3, 4, 5, 15], tc := 168000 }
          }
      let r : Fin 4 := 3
      let p : Nat := (3000 * (12 + sentCrc4 (up.fldB (F.SENT_CFG_CRCV 3)) [1, 2, 3, 4, 5, 15]))
      let status : Nat := 5
      let data : List Nat := [1, 2, 3, 4, 5, 15]
      let k := r.val
      let ck := clocked s = true
      let h := s.sent[r]
      let ticks := (112 * p + h.tc) / (2 * h.tc)
      let nibble := 12 ≤ ticks ∧ ticks ≤ 27
      let crc := sentCrc4 (s.fldB (F.SENT_CFG_CRCV k)) data
      ck ∧ s.fldB (F.SENT_CFG_EN k) = true ∧ h.phase = .nibbles ∧ h.nibs = status :: data ∧ data.length = s.fld
        (F.SENT_CFG_NIB k) ∧ nibble ∧ ticks - 12 = crc)
    ∧ (
      let s : State := { withF up [(F.SENT_CFG_EN 3, 1), (F.SENT_CFG_TICK 3, 30), (F.SENT_CFG_NIB 3, 6)] with
        sent := Vector.replicate 4 { up.sent[0] with phase := .nibbles, nibs := [5, 1, 2, 3, 4, 5, 15], tc := 168000 }
          }
      let r : Fin 4 := 3
      let p : Nat := (3000 * (12 + (sentCrc4 (up.fldB (F.SENT_CFG_CRCV 3)) [1, 2, 3, 4, 5, 15] + 1) % 16))
      let status : Nat := 5
      let data : List Nat := [1, 2, 3, 4, 5, 15]
      let k := r.val
      let ck := clocked s = true
      let h := s.sent[r]
      let ticks := (112 * p + h.tc) / (2 * h.tc)
      let nibble := 12 ≤ ticks ∧ ticks ≤ 27
      let crc := sentCrc4 (s.fldB (F.SENT_CFG_CRCV k)) data
      ck ∧ s.fldB (F.SENT_CFG_EN k) = true ∧ h.phase = .nibbles ∧ h.nibs = status :: data ∧ data.length = s.fld
        (F.SENT_CFG_NIB k) ∧ nibble ∧ ticks - 12 ≠ crc)
    ∧ (
      let s : State := { withF up [(F.SENT_CFG_EN 3, 1), (F.SENT_CFG_TICK 3, 30), (F.SENT_CFG_NIB 3, 6)] with
        sent := Vector.replicate 4 { up.sent[0] with phase := .nibbles, tc := 168000 } }
      let r : Fin 4 := 3
      let p : Nat := 168000
      let k := r.val
      let ck := clocked s = true
      let h := s.sent[r]
      let nominal := 56 * 100 * s.fld (F.SENT_CFG_TICK k)
      let calOk := 8 * nominal ≤ 10 * p ∧ 10 * p ≤ 12 * nominal
      let ticks := (112 * p + h.tc) / (2 * h.tc)
      let nibble := 12 ≤ ticks ∧ ticks ≤ 27
      ck ∧ s.fldB (F.SENT_CFG_EN k) = true ∧ h.phase = .nibbles ∧ (¬nibble) ∧ calOk)
    ∧ (
      let s : State := { withF up [(F.SENT_CFG_EN 3, 1), (F.SENT_CFG_TICK 3, 30), (F.SENT_CFG_NIB 3, 6)] with
        sent := Vector.replicate 4 { up.sent[0] with phase := .nibbles, tc := 168000 } }
      let r : Fin 4 := 3
      let p : Nat := 30000
      let k := r.val
      let ck := clocked s = true
      let h := s.sent[r]
      let nominal := 56 * 100 * s.fld (F.SENT_CFG_TICK k)
      let calOk := 8 * nominal ≤ 10 * p ∧ 10 * p ≤ 12 * nominal
      let ticks := (112 * p + h.tc) / (2 * h.tc)
      let nibble := 12 ≤ ticks ∧ ticks ≤ 27
      ck ∧ s.fldB (F.SENT_CFG_EN k) = true ∧ h.phase = .nibbles ∧ (¬nibble) ∧ (¬calOk))
    ∧ (
      let s : State := { withF up [(F.SENT_CFG_EN 3, 1), (F.SENT_CFG_TICK 3, 30), (F.SENT_CFG_NIB 3, 6)] with
        sent := Vector.replicate 4 { up.sent[0] with phase := .pause, tc := 168000 } }
      let r : Fin 4 := 3
      let p : Nat := 36000
      let k := r.val
      let ck := clocked s = true
      let h := s.sent[r]
      let ticks := (112 * p + h.tc) / (2 * h.tc)
      ck ∧ s.fldB (F.SENT_CFG_EN k) = true ∧ h.phase = .pause ∧ 12 ≤ ticks ∧ ticks ≤ 768)
    ∧ (
      let s : State := { withF up [(F.SENT_CFG_EN 3, 1), (F.SENT_CFG_TICK 3, 30), (F.SENT_CFG_NIB 3, 6)] with
        sent := Vector.replicate 4 { up.sent[0] with phase := .pause, tc := 168000 } }
      let r : Fin 4 := 3
      let p : Nat := 30000
      let k := r.val
      let ck := clocked s = true
      let h := s.sent[r]
      let ticks := (112 * p + h.tc) / (2 * h.tc)
      ck ∧ s.fldB (F.SENT_CFG_EN k) = true ∧ h.phase = .pause ∧ (¬(12 ≤ ticks ∧ ticks ≤ 768)))
    ∧ (
      let s : State := { withF up [(F.SENT_CFG_EN 3, 1), (F.SENT_CFG_TICK 3, 30), (F.SENT_CFG_NIB 3, 6)] with
        sent := Vector.replicate 4 { up.sent[0] with phase := .calib, tc := 168000 } }
      let r : Fin 4 := 3
      let p : Nat := 170625
      let k := r.val
      let ck := clocked s = true
      let h := s.sent[r]
      let nominal := 56 * 100 * s.fld (F.SENT_CFG_TICK k)
      let calOk := 8 * nominal ≤ 10 * p ∧ 10 * p ≤ 12 * nominal
      ck ∧ s.fldB (F.SENT_CFG_EN k) = true ∧ h.phase = .calib ∧ calOk ∧ 64 * ((p : Int) - h.tc).natAbs ≤ h.tc)
    ∧ (
      let s : State := { withF up [(F.SENT_CFG_EN 3, 1), (F.SENT_CFG_TICK 3, 30), (F.SENT_CFG_NIB 3, 6)] with
        sent := Vector.replicate 4 { up.sent[0] with phase := .calib, tc := 168000 } }
      let r : Fin 4 := 3
      let p : Nat := 170626
      let k := r.val
      let ck := clocked s = true
      let h := s.sent[r]
      let nominal := 56 * 100 * s.fld (F.SENT_CFG_TICK k)
      let calOk := 8 * nominal ≤ 10 * p ∧ 10 * p ≤ 12 * nominal
      ck ∧ s.fldB (F.SENT_CFG_EN k) = true ∧ h.phase = .calib ∧ calOk ∧ h.tc < 64 * ((p : Int) - h.tc).natAbs)
    ∧ (
      let s : State := { withF up [(F.SENT_CFG_EN 3, 1), (F.SENT_CFG_TICK 3, 30), (F.SENT_CFG_NIB 3, 6)] with
        sent := Vector.replicate 4 { up.sent[0] with phase := .calib, tc := 168000 } }
      let r : Fin 4 := 3
      let p : Nat := 400000
      let k := r.val
      let ck := clocked s = true
      let h := s.sent[r]
      let nominal := 56 * 100 * s.fld (F.SENT_CFG_TICK k)
      let calOk := 8 * nominal ≤ 10 * p ∧ 10 * p ≤ 12 * nominal
      let ticks := (112 * p + h.tc) / (2 * h.tc)
      let nibble := 12 ≤ ticks ∧ ticks ≤ 27
      ck ∧ s.fldB (F.SENT_CFG_EN k) = true ∧ h.phase = .calib ∧ (¬calOk) ∧ (¬nibble))
    ∧ (
      let s : State := withF up [(F.SENT_STAT_LINE 3, 2)]
      let r : Fin 4 := 3
      let k := r.val
      let ck := clocked s = true
      ck ∧ s.fld (F.SENT_STAT_LINE k) = 2)
    ∧ (
      let s : State := up
      let r : Fin 4 := 3
      let rq : Req := app
      let v : Word := 0
      let k := r.val
      Accepts s rq (R.SENT_CFG k) ∧ bit v 0 = false)
    ∧ (
      let s : State := { withF up [(F.SENT_CFG_EN 3, 1), (F.SENT_CFG_TICK 3, 30), (F.SENT_CFG_NIB 3, 6)] with
        sent := Vector.replicate 4 { up.sent[0] with phase := .calib, tc := 168000 } }
      let r : Fin 4 := 3
      let p : Nat := 36000
      let k := r.val
      let ck := clocked s = true
      let h := s.sent[r]
      let nominal := 56 * 100 * s.fld (F.SENT_CFG_TICK k)
      let calOk := 8 * nominal ≤ 10 * p ∧ 10 * p ≤ 12 * nominal
      let ticks := (112 * p + h.tc) / (2 * h.tc)
      let nibble := 12 ≤ ticks ∧ ticks ≤ 27
      ck ∧ s.fldB (F.SENT_CFG_EN k) = true ∧ h.phase = .calib ∧ (¬calOk) ∧ nibble)
    ∧ (
      let s : State := dt 900000000 (withR up [(R.SENT_SUPSTAT, 0x800), (R.SENT_SUPCTRL, 0xFFFFFFFFF)])
      let i : Fin 4 := 3
      let ck := clocked s = true
      let now := s.dlk.dtime.toNat
      let sup := fun (t : State) => getBits (t.reg R.SENT_SUPSTAT) (3 * i.val) 3
      let auto := maskHas (s.fld F.SENT_SUPCTRL_AUTOR) i.val
      let healed := (sup s = 2 ∧ s.sent[i].supAt.toNat + 10000000 ≤ now) ∨ (sup s = 4 ∧ s.sent[i].supAt.toNat + 100000
        ≤ now)
      ck ∧ healed ∧ auto = true) := by
  refine ⟨?_, ?_, ?_, ?_, ?_, ?_, ?_, ?_, ?_, ?_, ?_, ?_, ?_, ?_, ?_, ?_, ?_⟩ <;> (dsimp only [Accepts]; decide +kernel)

theorem witness_SafetyInputsAndOutputs : (
      let s : State := up
      let k : Fin 4 := 0
      let n : Fin 4 := 0
      let rq : Req := app
      let ck := clocked s = true
      let win := maskHas (s.fld F.SIO_TPSTAT_WIN) k.val
      let tpen := s.fldB F.SIO_CTRL_TPEN
      let inTest := maskHas (s.fld F.SIO_OSTAT_INTEST) n.val
      let cmd := maskHas (s.fld F.SIO_OSTAT_CMD) n.val
      let lt := s.ltime.toNat
      let tick := lt % 100000 < 3 ∧ s.sio.tickAt ≠ some (BitVec.ofNat 72 (lt / 100000 * 100000))
      let past := fun (w ph : Nat) => (lt - ph * w * 250000) % (w * 1000000)
      let at_ := fun (w ph : Nat) (was : Option DWord) => ph * w * 250000 ≤ lt ∧ past w ph < 3 ∧ was ≠ some
        (BitVec.ofNat 72 (lt - past w ph))
      let starts := tpen = true ∧ at_ (s.fld F.SIO_TPCFG_TPPER) k.val s.sio.tpAt[k]
      let tpAt := (s.sio.tpAt[k]).getD 0
      let tpSince := fun (w : Nat) => s.sio.tpAt[k] ≠ none ∧ (tpAt.toNat + w ≤ lt ∨ lt < tpAt.toNat)
      let otSince := fun (w : Nat) => s.sio.otAt[n] ≠ none ∧ ((s.sio.otAt[n].getD 0).toNat + w ≤ lt ∨ lt <
        (s.sio.otAt[n].getD 0).toNat)
      let ended := win = true ∧ tpSince (1000 * s.fld F.SIO_TPCFG_TPW)
      let checked := win = true ∧ tpSince (1000 * s.fld F.SIO_TPCFG_TPW - 5000) ∧ maskHas s.sio.tpDone k.val = false
      let testable := s.fldB (F.SIO_OCFG_OTEN n.val) = true ∧ cmd = true ∧ inTest = false ∧ at_ (s.fld
        F.SIO_OTCFG_OTPER) n.val s.sio.otAt[n]
      let judged := inTest = true ∧ otSince (1000 * s.fld F.SIO_OTCFG_OTW - 5000) ∧ maskHas s.sio.otDone n.val = false
      ck ∧ tick ∧ s.fldB F.SIO_CTRL_EN = false ∧ (¬starts) ∧ preDue k s = none ∧ tpen = false ∧ (¬ended) ∧ (¬checked)
        ∧ (¬testable) ∧ (¬judged) ∧ (inTest = false ∨ ¬otSince (1000 * s.fld F.SIO_OTCFG_OTW)) ∧ maskHas s.die.soCmd
        n.val = false ∧ Accepts s rq R.SIO_CTRL ∧ Accepts s rq R.SIO_CMD)
    ∧ (
      let s : State := { withF up [(F.SIO_CTRL_EN, 1), (F.SIO_CTRL_TPEN, 1), (F.SIO_TPCFG_TPPER, 4), (F.SIO_TPCFG_TPW,
        100), (F.SIO_TPSTAT_WIN, 15)] with
        ltime := 7000001, sio := { up.sio with
          tpAt := Vector.replicate 4 (some 0), otAt := Vector.replicate 4 (some 0) } }
      let k : Fin 4 := 3
      let ck := clocked s = true
      let win := maskHas (s.fld F.SIO_TPSTAT_WIN) k.val
      let tpen := s.fldB F.SIO_CTRL_TPEN
      let lt := s.ltime.toNat
      let tick := lt % 100000 < 3 ∧ s.sio.tickAt ≠ some (BitVec.ofNat 72 (lt / 100000 * 100000))
      let past := fun (w ph : Nat) => (lt - ph * w * 250000) % (w * 1000000)
      let at_ := fun (w ph : Nat) (was : Option DWord) => ph * w * 250000 ≤ lt ∧ past w ph < 3 ∧ was ≠ some
        (BitVec.ofNat 72 (lt - past w ph))
      let starts := tpen = true ∧ at_ (s.fld F.SIO_TPCFG_TPPER) k.val s.sio.tpAt[k]
      let tpAt := (s.sio.tpAt[k]).getD 0
      let tpSince := fun (w : Nat) => s.sio.tpAt[k] ≠ none ∧ (tpAt.toNat + w ≤ lt ∨ lt < tpAt.toNat)
      let ended := win = true ∧ tpSince (1000 * s.fld F.SIO_TPCFG_TPW)
      let checked := win = true ∧ tpSince (1000 * s.fld F.SIO_TPCFG_TPW - 5000) ∧ maskHas s.sio.tpDone k.val = false
      ck ∧ tick ∧ s.fldB F.SIO_CTRL_EN = true ∧ starts ∧ ended ∧ checked)
    ∧ (
      let s : State := { withF up [(F.SIO_CTRL_EN, 1), (F.SIO_CTRL_TPEN, 1), (F.SIO_TPCFG_TPPER, 4), (F.SIO_TPCFG_TPW,
        100)] with
        ltime := 6999000, sio := { up.sio with
          tpAt := Vector.replicate 4 (some 0), otAt := Vector.replicate 4 (some 0) } }
      let k : Fin 4 := 3
      let ck := clocked s = true
      let lt := s.ltime.toNat
      let tick := lt % 100000 < 3 ∧ s.sio.tickAt ≠ some (BitVec.ofNat 72 (lt / 100000 * 100000))
      ck ∧ (¬tick) ∧ preDue k s ≠ none)
    ∧ (
      let s : State := { withF up [(F.SIO_OCFG_OTEN 3, 1), (F.SIO_OSTAT_CMD, 8), (F.SIO_OTCFG_OTPER, 4),
        (F.SIO_OTCFG_OTW, 100), (F.SIO_OSTAT_INTEST, 8)] with
        ltime := 7000001, sio := { up.sio with
          tpAt := Vector.replicate 4 (some 0), otAt := Vector.replicate 4 (some 0) } }
      let n : Fin 4 := 3
      let ck := clocked s = true
      let inTest := maskHas (s.fld F.SIO_OSTAT_INTEST) n.val
      let lt := s.ltime.toNat
      let otSince := fun (w : Nat) => s.sio.otAt[n] ≠ none ∧ ((s.sio.otAt[n].getD 0).toNat + w ≤ lt ∨ lt <
        (s.sio.otAt[n].getD 0).toNat)
      let judged := inTest = true ∧ otSince (1000 * s.fld F.SIO_OTCFG_OTW - 5000) ∧ maskHas s.sio.otDone n.val = false
      let stuck := judged ∧ maskHas s.sio.discard n.val = false
      ck ∧ stuck ∧ inTest = true ∧ otSince (1000 * s.fld F.SIO_OTCFG_OTW))
    ∧ (
      let s : State := { withF up [(F.SIO_OCFG_OTEN 3, 1), (F.SIO_OSTAT_CMD, 8), (F.SIO_OTCFG_OTPER, 4),
        (F.SIO_OTCFG_OTW, 100)] with
        ltime := 7000001, sio := { up.sio with
          tpAt := Vector.replicate 4 (some 0), otAt := Vector.replicate 4 (some 0) } }
      let n : Fin 4 := 3
      let ck := clocked s = true
      let inTest := maskHas (s.fld F.SIO_OSTAT_INTEST) n.val
      let cmd := maskHas (s.fld F.SIO_OSTAT_CMD) n.val
      let lt := s.ltime.toNat
      let past := fun (w ph : Nat) => (lt - ph * w * 250000) % (w * 1000000)
      let at_ := fun (w ph : Nat) (was : Option DWord) => ph * w * 250000 ≤ lt ∧ past w ph < 3 ∧ was ≠ some
        (BitVec.ofNat 72 (lt - past w ph))
      let testable := s.fldB (F.SIO_OCFG_OTEN n.val) = true ∧ cmd = true ∧ inTest = false ∧ at_ (s.fld
        F.SIO_OTCFG_OTPER) n.val s.sio.otAt[n]
      ck ∧ testable)
    ∧ (
      let s : State := { withF up [(F.SIO_OCFG_OTEN 3, 1), (F.SIO_OSTAT_CMD, 8), (F.SIO_OTCFG_OTPER, 4),
        (F.SIO_OTCFG_OTW, 100), (F.SIO_OSTAT_INTEST, 8)] with
        ltime := 7000001, sio := { up.sio with
          tpAt := Vector.replicate 4 (some 0), otAt := Vector.replicate 4 (some 0), discard := 8 } }
      let n : Fin 4 := 3
      let ck := clocked s = true
      let inTest := maskHas (s.fld F.SIO_OSTAT_INTEST) n.val
      let lt := s.ltime.toNat
      let otSince := fun (w : Nat) => s.sio.otAt[n] ≠ none ∧ ((s.sio.otAt[n].getD 0).toNat + w ≤ lt ∨ lt <
        (s.sio.otAt[n].getD 0).toNat)
      let judged := inTest = true ∧ otSince (1000 * s.fld F.SIO_OTCFG_OTW - 5000) ∧ maskHas s.sio.otDone n.val = false
      let stuck := judged ∧ maskHas s.sio.discard n.val = false
      ck ∧ judged ∧ (¬stuck))
    ∧ (
      let s : State := { up with die := { up.die with soCmd := 8 } }
      let n : Fin 4 := 3
      let ck := clocked s = true
      ck ∧ maskHas s.die.soCmd n.val = true) := by
  refine ⟨?_, ?_, ?_, ?_, ?_, ?_, ?_⟩ <;> (dsimp only [Accepts]; decide +kernel)

theorem witness_NodeAndPorts : (
      let s : State := sN 5 2 [(F.NCE_CTRL_PEN0, 1), (F.NCE_CTRL_PEN1, 1)]
      let rq : Req := app
      let v : Word := 0x6
      let p : Fin 2 := 1
      let f : RFrame := link 1
      let mode : BitVec 3 := 5
      let ck := clocked s = true
      let st := fun (t : State) => t.fld F.NCE_TSTAT_RSTATE
      let ps := fun (t : State) => t.fld (if p = 0 then F.NCE_STAT_PST0 else F.NCE_STAT_PST1)
      let samePorts := s.fldB F.NCE_CTRL_PEN0 = bit v 1 ∧ s.fldB F.NCE_CTRL_PEN1 = bit v 2
      let sync := b2n (decide (st s = 5) || decide (st s = 6))
      let hears := st s ≠ 0 ∧ (ps s = 2 ∨ ps s = 4)
      let good := fun (ty : Nat) => headFail p f s = none ∧ fcsOk f = true ∧ frFid f = 0 ∧ getBits (frW f 0) 0 4 = ty
      let may := s.fldB F.HAL_STAT_ENSIGN = true ∧ st s = 5 ∧ (mode = 0 ∨ maskHas (s.fld F.NCE_MCFG_MEN) mode.toNat =
        true) ∧ mode.toNat ≠ s.fld F.NCE_MODE_ACT ∧ s.fldB F.NCE_MODE_RQV = false ∧ s.fldB F.NCE_MODE_NXV = false
      let expired := s.fldB F.NCE_MODE_RQV = true ∧ s.fldB F.NCE_MODE_NXV = false ∧ 3 ≤ s.fld F.NCE_VER_OPMIN ∧ max 2
        (s.fld F.NCE_MCFG_MRTO) ≤ s.fld F.NCE_MODE_RQAGE
      let candidate := (s.fldB F.NCE_CAND_V0 = true ∧ s.fld F.NCE_CAND_ID0 = s.fld F.NCE_NODE_NODE) ∨ (s.fldB
        F.NCE_CAND_V1 = true ∧ s.fld F.NCE_CAND_ID1 = s.fld F.NCE_NODE_NODE) ∨ (s.fldB F.NCE_CAND_V2 = true ∧ s.fld
        F.NCE_CAND_ID2 = s.fld F.NCE_NODE_NODE)
      let starts := st s = 2 ∧ candidate ∧ s.fldB F.NCE_TSTAT_CSINH = false ∧ s.nce.verAt = none ∧ s.nce.heardAt.toNat
        + 2000 * s.fld F.NCE_CYC1_TCYC + 100 * s.fld F.NCE_NODE_NODE * s.fld F.NCE_CYC2_SL ≤ s.dlk.dtime.toNat
      let tcyc := 8000 * s.fld F.NCE_CYC1_TCYC
      let span := fun (x : Nat × Nat) => x.1 ≤ nowQ s ∧ nowQ s < x.2
      let idle := ¬span s.nce.port[p].ownSpan ∧ ¬span s.nce.port[p].fwdSpan
      let since := fun (x : Option DWord) (ns : Nat) => x.all fun y => decide (y.toNat + ns ≤ s.dlk.dtime.toNat)
      let asks := st s ≠ 0 ∧ ps s = 2 ∧ (sync = 1 → s.nce.port[p].dreqIn = false ∧ tcyc ≤ inCycle s + 240000 ∧ inCycle
        s < tcyc) ∧ (sync = 0 → idle ∧ since s.nce.port[p].dreqAt 100000)
      let loops := ps s = 4 ∧ inCycle s + 160000 < tcyc ∧ since s.nce.port[p].loopAt 10000
      let holds := st s = 2 ∧ s.nce.verAt.any fun y => decide (y.toNat + 2000 * s.fld F.NCE_CYC1_TCYC ≤
        s.dlk.dtime.toNat)
      Accepts s rq R.NCE_CTRL ∧ s.fldB F.NCE_CTRL_EN = true ∧ samePorts ∧ Accepts s rq R.NCE_CMD ∧ p = 1 ∧ ck ∧ ps s ≠
        0 ∧ (¬asks) ∧ (¬loops) ∧ hears ∧ good 1 ∧ ps s = 2 ∧ st s ≠ 0 ∧ Accepts s rq R.NCE_MREQ ∧ (¬may) ∧ (¬expired)
        ∧ (¬starts) ∧ (¬holds))
    ∧ (
      let s : State := up
      let rq : Req := app
      let p : Fin 2 := 0
      let ck := clocked s = true
      let st := fun (t : State) => t.fld F.NCE_TSTAT_RSTATE
      let ps := fun (t : State) => t.fld (if p = 0 then F.NCE_STAT_PST0 else F.NCE_STAT_PST1)
      let hears := st s ≠ 0 ∧ (ps s = 2 ∨ ps s = 4)
      Accepts s rq R.NCE_CMD ∧ p = 0 ∧ ck ∧ ps s = 0 ∧ (¬hears))
    ∧ (
      let s : State := sN 5 4 []
      let p : Fin 2 := 1
      let f : RFrame := link 1
      let ck := clocked s = true
      let st := fun (t : State) => t.fld F.NCE_TSTAT_RSTATE
      let ps := fun (t : State) => t.fld (if p = 0 then F.NCE_STAT_PST0 else F.NCE_STAT_PST1)
      let sync := b2n (decide (st s = 5) || decide (st s = 6))
      let hears := st s ≠ 0 ∧ (ps s = 2 ∨ ps s = 4)
      let good := fun (ty : Nat) => headFail p f s = none ∧ fcsOk f = true ∧ frFid f = 0 ∧ getBits (frW f 0) 0 4 = ty
      let tcyc := 8000 * s.fld F.NCE_CYC1_TCYC
      let since := fun (x : Option DWord) (ns : Nat) => x.all fun y => decide (y.toNat + ns ≤ s.dlk.dtime.toNat)
      let loops := ps s = 4 ∧ inCycle s + 160000 < tcyc ∧ since s.nce.port[p].loopAt 10000
      ck ∧ loops ∧ hears ∧ good 1 ∧ ps s = 4 ∧ sync = 1)
    ∧ (
      let s : State := dt 90000000000 ({ sN 2 2 [] with nce := { up.nce with verAt := some 5 } })
      let p : Fin 2 := 0
      let ck := clocked s = true
      let st := fun (t : State) => t.fld F.NCE_TSTAT_RSTATE
      let ps := fun (t : State) => t.fld (if p = 0 then F.NCE_STAT_PST0 else F.NCE_STAT_PST1)
      let sync := b2n (decide (st s = 5) || decide (st s = 6))
      let tcyc := 8000 * s.fld F.NCE_CYC1_TCYC
      let span := fun (x : Nat × Nat) => x.1 ≤ nowQ s ∧ nowQ s < x.2
      let idle := ¬span s.nce.port[p].ownSpan ∧ ¬span s.nce.port[p].fwdSpan
      let since := fun (x : Option DWord) (ns : Nat) => x.all fun y => decide (y.toNat + ns ≤ s.dlk.dtime.toNat)
      let asks := st s ≠ 0 ∧ ps s = 2 ∧ (sync = 1 → s.nce.port[p].dreqIn = false ∧ tcyc ≤ inCycle s + 240000 ∧ inCycle
        s < tcyc) ∧ (sync = 0 → idle ∧ since s.nce.port[p].dreqAt 100000)
      let holds := st s = 2 ∧ s.nce.verAt.any fun y => decide (y.toNat + 2000 * s.fld F.NCE_CYC1_TCYC ≤
        s.dlk.dtime.toNat)
      ck ∧ asks ∧ holds)
    ∧ (
      let s : State := sN 0 2 [(F.NCE_CTRL_EN, 0), (F.NCE_NODE_NODE, 0), (F.NCE_CTRL_PEN0, 1), (F.NCE_CTRL_PEN1, 1)]
      let rq : Req := app
      let v : Word := 0x6
      let samePorts := s.fldB F.NCE_CTRL_PEN0 = bit v 1 ∧ s.fldB F.NCE_CTRL_PEN1 = bit v 2
      Accepts s rq R.NCE_CTRL ∧ s.fldB F.NCE_CTRL_EN = false ∧ samePorts ∧ nceConfigOk s = true)
    ∧ (
      let s : State := sN 0 2 [(F.NCE_CTRL_EN, 0), (F.NCE_CTRL_PEN0, 1), (F.NCE_CTRL_PEN1, 1), (F.NCE_CAND_V1, 1),
        (F.NCE_CAND_ID1, 0)]
      let rq : Req := app
      let v : Word := 0x6
      let samePorts := s.fldB F.NCE_CTRL_PEN0 = bit v 1 ∧ s.fldB F.NCE_CTRL_PEN1 = bit v 2
      Accepts s rq R.NCE_CTRL ∧ s.fldB F.NCE_CTRL_EN = false ∧ samePorts ∧ nceConfigOk s = false)
    ∧ (
      let s : State := sN 5 2 []
      let p : Fin 2 := 1
      let f : RFrame := link 2
      let ck := clocked s = true
      let st := fun (t : State) => t.fld F.NCE_TSTAT_RSTATE
      let ps := fun (t : State) => t.fld (if p = 0 then F.NCE_STAT_PST0 else F.NCE_STAT_PST1)
      let hears := st s ≠ 0 ∧ (ps s = 2 ∨ ps s = 4)
      let good := fun (ty : Nat) => headFail p f s = none ∧ fcsOk f = true ∧ frFid f = 0 ∧ getBits (frW f 0) 0 4 = ty
      ck ∧ hears ∧ good 2)
    ∧ (
      let s : State := sN 5 2 []
      let p : Fin 2 := 1
      let f : RFrame := link 3
      let ck := clocked s = true
      let st := fun (t : State) => t.fld F.NCE_TSTAT_RSTATE
      let ps := fun (t : State) => t.fld (if p = 0 then F.NCE_STAT_PST0 else F.NCE_STAT_PST1)
      let hears := st s ≠ 0 ∧ (ps s = 2 ∨ ps s = 4)
      let good := fun (ty : Nat) => headFail p f s = none ∧ fcsOk f = true ∧ frFid f = 0 ∧ getBits (frW f 0) 0 4 = ty
      ck ∧ hears ∧ good 3)
    ∧ (
      let s : State := sN 5 2 [(F.HAL_STAT_ENSIGN, 1), (F.NCE_MCFG_MEN, 129)]
      let rq : Req := app
      let mode : BitVec 3 := 7
      let st := fun (t : State) => t.fld F.NCE_TSTAT_RSTATE
      let may := s.fldB F.HAL_STAT_ENSIGN = true ∧ st s = 5 ∧ (mode = 0 ∨ maskHas (s.fld F.NCE_MCFG_MEN) mode.toNat =
        true) ∧ mode.toNat ≠ s.fld F.NCE_MODE_ACT ∧ s.fldB F.NCE_MODE_RQV = false ∧ s.fldB F.NCE_MODE_NXV = false
      Accepts s rq R.NCE_MREQ ∧ may)
    ∧ (
      let s : State := sN 5 2 [(F.NCE_MODE_RQV, 1), (F.NCE_VER_OPMIN, 3), (F.NCE_MODE_RQAGE, 63)]
      let ck := clocked s = true
      let expired := s.fldB F.NCE_MODE_RQV = true ∧ s.fldB F.NCE_MODE_NXV = false ∧ 3 ≤ s.fld F.NCE_VER_OPMIN ∧ max 2
        (s.fld F.NCE_MCFG_MRTO) ≤ s.fld F.NCE_MODE_RQAGE
      ck ∧ expired)
    ∧ (
      let s : State := dt 90000000000 (sN 2 2 [(F.NCE_NODE_NODE, 0), (F.NCE_CAND_V0, 1)])
      let ck := clocked s = true
      let st := fun (t : State) => t.fld F.NCE_TSTAT_RSTATE
      let candidate := (s.fldB F.NCE_CAND_V0 = true ∧ s.fld F.NCE_CAND_ID0 = s.fld F.NCE_NODE_NODE) ∨ (s.fldB
        F.NCE_CAND_V1 = true ∧ s.fld F.NCE_CAND_ID1 = s.fld F.NCE_NODE_NODE) ∨ (s.fldB F.NCE_CAND_V2 = true ∧ s.fld
        F.NCE_CAND_ID2 = s.fld F.NCE_NODE_NODE)
      let starts := st s = 2 ∧ candidate ∧ s.fldB F.NCE_TSTAT_CSINH = false ∧ s.nce.verAt = none ∧ s.nce.heardAt.toNat
        + 2000 * s.fld F.NCE_CYC1_TCYC + 100 * s.fld F.NCE_NODE_NODE * s.fld F.NCE_CYC2_SL ≤ s.dlk.dtime.toNat
      ck ∧ starts)
    ∧ (
      let s : State := dt 90000000000 ({ sN 2 4 [(F.NCE_LDLY_V 1, 1)] with
        nce := { up.nce with port := Vector.replicate 2 { ncePortReset with rxOk := true } } })
      let p : Fin 2 := 1
      let f : RFrame := mkFrame (5 * 2 ^ 55 + 2 * 2 ^ 42 + 5 * 2 ^ 28) [1, 1, 50, 40, 60]
      let ck := clocked s = true
      let st := fun (t : State) => t.fld F.NCE_TSTAT_RSTATE
      let ps := fun (t : State) => t.fld (if p = 0 then F.NCE_STAT_PST0 else F.NCE_STAT_PST1)
      let sync := b2n (decide (st s = 5) || decide (st s = 6))
      let hears := st s ≠ 0 ∧ (ps s = 2 ∨ ps s = 4)
      let good := fun (ty : Nat) => headFail p f s = none ∧ fcsOk f = true ∧ frFid f = 0 ∧ getBits (frW f 0) 0 4 = ty
      ck ∧ hears ∧ good 1 ∧ ps s = 4 ∧ sync = 0 ∧ bit (frW f 1) 0 = true ∧ bit (frW f 1) 1 = false ∧ ownReady s p =
        true) := by
  refine ⟨?_, ?_, ?_, ?_, ?_, ?_, ?_, ?_, ?_, ?_, ?_, ?_⟩ <;> dsimp only [Accepts]
  all_goals repeat' apply And.intro
  all_goals decide +kernel

theorem witness_NodeCycle : (
      let s : State := up
      let j : Fin 256 := 0
      let a : Nat := 5
      let x : NceTx := (⟨0, 1, none, none, false⟩ : NceTx)
      let p : Fin 2 := 0
      let f : RFrame := link 1
      let ck := clocked s = true
      let st := fun (t : State) => t.fld F.NCE_TSTAT_RSTATE
      let new := st s ≠ 0 ∧ s.nce.cycN < cycleNow s
      let i := s.nce.mIdx
      let boundary := st s ≠ 0 ∧ i < s.fld F.NCE_CYC3_NMS ∧ ds0Q s + i * mslQ s ≤ inCycle s
      let idleDue := st s ≠ 0 ∧ s.fld F.NCE_CYCLE_SEG ≠ 3 ∧ ds0Q s + nms s * mslQ s ≤ inCycle s
      let valid := receives p s = true ∧ headerOk f = true ∧ frVmaj f = 2 ∧ admitted s (frSrc f) = true ∧ frSync f =
        true ∧ 3 ≤ f.payload.length
      ck ∧ (¬new) ∧ (ownsSlot s j.val = false ∨ assemblyFor j.val s = none ∨ assembled j.val a s = true ∧ assemblyFor
        j.val s = some a) ∧ (s.nce.tx = none ∨ (s.nce.tx = some x ∧ trainQ s < x.at_)) ∧ (¬boundary) ∧ (¬idleDue) ∧
        receives p s = false ∧ (¬valid))
    ∧ (
      let s : State := nt 2000000 (sN 5 2 [(F.NCE_CYC1_TCYC, 1000), (F.NCE_CYC1_NSS, 4), (F.NCE_CYC2_SL, 511),
        (F.NCE_CYC2_APO, 20), (F.NCE_CYC3_MSL, 5), (F.NCE_CYC3_NMS, 10)])
      let p : Fin 2 := 0
      let f : RFrame := mkFrame (1 * 2 ^ 61 + 2 * 2 ^ 42 + 3 * 2 ^ 38 + 2 ^ 36 + 3 * 2 ^ 28) [0, 50, 64]
      let start : Nat := 5
      let hold : Fin 129 := 0
      let ck := clocked s = true
      let st := fun (t : State) => t.fld F.NCE_TSTAT_RSTATE
      let new := st s ≠ 0 ∧ s.nce.cycN < cycleNow s
      let i := s.nce.mIdx
      let boundary := st s ≠ 0 ∧ i < s.fld F.NCE_CYC3_NMS ∧ ds0Q s + i * mslQ s ≤ inCycle s
      let idleDue := st s ≠ 0 ∧ s.fld F.NCE_CYCLE_SEG ≠ 3 ∧ ds0Q s + nms s * mslQ s ≤ inCycle s
      let rides := (st s = 5 ∨ st s = 6) ∧ pst s p = 2
      let passes := rides ∧ headFail p f s = none ∧ frFid f ≠ 0 ∧ frSrc f ≠ s.fld F.NCE_NODE_NODE ∧ guardFail p f
        start s = none
      let fp := forwardPort p s
      let begins := start + hold.val + 4416
      let own := s.nce.port[fp].ownSpan
      ck ∧ new ∧ boundary ∧ idleDue ∧ passes ∧ pst s fp = 2 ∧ (¬(own.1 ≤ begins ∧ begins < own.2)))
    ∧ (
      let s : State := sN 5 2 [(F.NCE_NODE_NODE, 0), (F.NCE_CYC1_TCYC, 1000), (F.NCE_CYC1_NSS, 4), (F.NCE_CYC2_SL,
        511), (F.NCE_CYC2_APO, 20), (F.NCE_CYC3_MSL, 5), (F.NCE_CYC3_NMS, 10)]
      let j : Fin 256 := 1
      let a : Nat := 16000
      let p : Fin 2 := 0
      let f : RFrame := mkFrame (1 * 2 ^ 61 + 2 * 2 ^ 42 + 3 * 2 ^ 38 + 2 ^ 36 + 3 * 2 ^ 28) [0, 50, 64]
      let ck := clocked s = true
      let st := fun (t : State) => t.fld F.NCE_TSTAT_RSTATE
      let assembles := ownsSlot s j.val = true ∧ st s = 5 ∧ assemblyFor j.val s = some a ∧ assembled j.val a s = false
      let isSync := schedSync s (s.fld F.NCE_MODE_ACT) j.val = true
      let rides := (st s = 5 ∨ st s = 6) ∧ pst s p = 2
      ck ∧ assembles ∧ isSync ∧ assemblyFor j.val s = some a ∧ rides ∧ headFail p f s = none ∧ frFid f ≠ 0 ∧ frSrc f =
        s.fld F.NCE_NODE_NODE ∧ p = inPort s)
    ∧ (
      let s : State := { sN 5 2 [] with
        nce := { up.nce with port := Vector.replicate 2 { ncePortReset with ownSpan := (0, 1000000) } } }
      let p : Fin 2 := 1
      let f : RFrame := { mkFrame (1 * 2 ^ 61 + 2 * 2 ^ 42 + 3 * 2 ^ 38 + 2 ^ 36 + 3 * 2 ^ 28) [0, 50, 64] with
        cut := true }
      let start : Nat := 5
      let hold : Fin 129 := 0
      let ck := clocked s = true
      let st := fun (t : State) => t.fld F.NCE_TSTAT_RSTATE
      let rides := (st s = 5 ∨ st s = 6) ∧ pst s p = 2
      let passes := rides ∧ headFail p f s = none ∧ frFid f ≠ 0 ∧ frSrc f ≠ s.fld F.NCE_NODE_NODE ∧ guardFail p f
        start s = none
      let fp := forwardPort p s
      let begins := start + hold.val + 4416
      let own := s.nce.port[fp].ownSpan
      ck ∧ passes ∧ pst s fp = 2 ∧ own.1 ≤ begins ∧ begins < own.2 ∧ fcsOk f = false)
    ∧ (
      let s : State := nt 53000 (sN 5 2 [(F.NCE_NODE_NODE, 0), (F.NCE_BCTL_EN 63, 1), (F.NCE_BCTL_DIR 63, 1),
        (F.NCE_BCTL_FID 63, 2), (F.NCE_BCTL_LEN 63, 56), (F.NCE_SCHED_EN 0 2, 1), (F.NCE_SCHED_OWNER 0 2, 0),
        (F.NCE_CYC1_TCYC, 1000), (F.NCE_CYC1_NSS, 4), (F.NCE_CYC2_SL, 511), (F.NCE_CYC2_APO, 20), (F.NCE_CYC3_MSL, 5),
        (F.NCE_CYC3_NMS, 10), (F.NCE_BCTL_EN 63, 0)])
      let j : Fin 256 := 2
      let a : Nat := 424800
      let ck := clocked s = true
      let st := fun (t : State) => t.fld F.NCE_TSTAT_RSTATE
      let assembles := ownsSlot s j.val = true ∧ st s = 5 ∧ assemblyFor j.val s = some a ∧ assembled j.val a s = false
      let filled := bufferFor s 1 j.val (a / tcycQ s % 64)
      let isSync := schedSync s (s.fld F.NCE_MODE_ACT) j.val = true
      ck ∧ assembles ∧ (¬isSync) ∧ filled = none)
    ∧ (
      let s : State := nt 53000 (sN 5 2 [(F.NCE_NODE_NODE, 0), (F.NCE_BCTL_EN 63, 1), (F.NCE_BCTL_DIR 63, 1),
        (F.NCE_BCTL_FID 63, 2), (F.NCE_BCTL_LEN 63, 56), (F.NCE_SCHED_EN 0 2, 1), (F.NCE_SCHED_OWNER 0 2, 0),
        (F.NCE_CYC1_TCYC, 1000), (F.NCE_CYC1_NSS, 4), (F.NCE_CYC2_SL, 511), (F.NCE_CYC2_APO, 20), (F.NCE_CYC3_MSL, 5),
        (F.NCE_CYC3_NMS, 10), (F.NCE_BCTL_RDY 63, 1), (F.NCE_BCTL_ONCE 63, 1)])
      let j : Fin 256 := 2
      let a : Nat := 424800
      let b : Nat := 63
      let ck := clocked s = true
      let st := fun (t : State) => t.fld F.NCE_TSTAT_RSTATE
      let assembles := ownsSlot s j.val = true ∧ st s = 5 ∧ assemblyFor j.val s = some a ∧ assembled j.val a s = false
      let filled := bufferFor s 1 j.val (a / tcycQ s % 64)
      let isSync := schedSync s (s.fld F.NCE_MODE_ACT) j.val = true
      let ready := readyOf s b = true ∧ s.fld (F.NCE_BCTL_LEN b) ≤ 56 ∧ fitsSlot s (s.fld (F.NCE_BCTL_LEN b)) = true
      ck ∧ assembles ∧ (¬isSync) ∧ filled = some b ∧ isStatusBuf s b = false ∧ ready)
    ∧ (
      let s : State := nt 53000 (sN 5 2 [(F.NCE_NODE_NODE, 0), (F.NCE_BCTL_EN 63, 1), (F.NCE_BCTL_DIR 63, 1),
        (F.NCE_BCTL_FID 63, 2), (F.NCE_BCTL_LEN 63, 56), (F.NCE_SCHED_EN 0 2, 1), (F.NCE_SCHED_OWNER 0 2, 0),
        (F.NCE_CYC1_TCYC, 1000), (F.NCE_CYC1_NSS, 4), (F.NCE_CYC2_SL, 511), (F.NCE_CYC2_APO, 20), (F.NCE_CYC3_MSL, 5),
        (F.NCE_CYC3_NMS, 10)])
      let j : Fin 256 := 2
      let a : Nat := 424800
      let b : Nat := 63
      let ck := clocked s = true
      let st := fun (t : State) => t.fld F.NCE_TSTAT_RSTATE
      let assembles := ownsSlot s j.val = true ∧ st s = 5 ∧ assemblyFor j.val s = some a ∧ assembled j.val a s = false
      let filled := bufferFor s 1 j.val (a / tcycQ s % 64)
      let isSync := schedSync s (s.fld F.NCE_MODE_ACT) j.val = true
      ck ∧ assembles ∧ (¬isSync) ∧ filled = some b ∧ isStatusBuf s b = false ∧ readyOf s b = false)
    ∧ (
      let s : State := { sN 5 3 [] with nce := { up.nce with tx := some ⟨0, 1, some 63, none, false⟩ } }
      let x : NceTx := ⟨0, 1, some 63, none, false⟩
      let ck := clocked s = true
      let out := outPort s
      ck ∧ s.nce.tx = some x ∧ x.at_ ≤ trainQ s ∧ pst s out ≠ 2)
    ∧ (
      let s : State := { sN 5 2 [] with
        nce := { up.nce with
          tx := some ⟨0, 1, some 63, none, false⟩, port := Vector.replicate 2 { ncePortReset with
            fwdSpan := (0, 100) } } }
      let x : NceTx := ⟨0, 1, some 63, none, false⟩
      let ck := clocked s = true
      let out := outPort s
      let taken := s.nce.port[out].fwdSpan.1 ≤ nowQ s ∧ nowQ s < s.nce.port[out].fwdSpan.2
      ck ∧ s.nce.tx = some x ∧ x.at_ ≤ trainQ s ∧ pst s out = 2 ∧ taken)
    ∧ (
      let s : State := { sN 5 2 [] with nce := { up.nce with tx := some ⟨0, 1, some 63, none, false⟩ } }
      let x : NceTx := ⟨0, 1, some 63, none, false⟩
      let ck := clocked s = true
      let out := outPort s
      let taken := s.nce.port[out].fwdSpan.1 ≤ nowQ s ∧ nowQ s < s.nce.port[out].fwdSpan.2
      ck ∧ s.nce.tx = some x ∧ x.at_ ≤ trainQ s ∧ pst s out = 2 ∧ (¬taken))
    ∧ (
      let s : State := sN 5 2 []
      let p : Fin 2 := 1
      let f : RFrame := { mkFrame (1 * 2 ^ 61 + 2 * 2 ^ 42 + 3 * 2 ^ 38 + 2 ^ 36 + 3 * 2 ^ 28) [0, 50, 64] with
        hdr := 0 }
      let u : State := (sN 5 2 []).incFld (F.NCE_ERR_CRC 1)
      let ck := clocked s = true
      let st := fun (t : State) => t.fld F.NCE_TSTAT_RSTATE
      let rides := (st s = 5 ∨ st s = 6) ∧ pst s p = 2
      ck ∧ rides ∧ headFail p f s = some u)
    ∧ (
      let s : State := sN 5 2 []
      let p : Fin 2 := 1
      let f : RFrame := mkFrame (2 * 2 ^ 61 + 2 * 2 ^ 42) []
      let start : Nat := 5
      let u : State := (sN 5 2 []).incFld F.NCE_DROP_SCHED
      let ck := clocked s = true
      let st := fun (t : State) => t.fld F.NCE_TSTAT_RSTATE
      let rides := (st s = 5 ∨ st s = 6) ∧ pst s p = 2
      ck ∧ rides ∧ headFail p f s = none ∧ frFid f ≠ 0 ∧ frSrc f ≠ s.fld F.NCE_NODE_NODE ∧ guardFail p f start s =
        some u)
    ∧ (
      let s : State := sN 5 2 [(F.NCE_BCTL_EN 63, 1), (F.NCE_BCTL_DIR 63, 0), (F.NCE_BCTL_FID 63, 1)]
      let p : Fin 2 := 1
      let f : RFrame := mkFrame (1 * 2 ^ 61 + 2 * 2 ^ 42 + 3 * 2 ^ 38 + 2 ^ 36 + 3 * 2 ^ 28) [0, 50, 64]
      let start : Nat := 5
      let b : Nat := 63
      let ck := clocked s = true
      let st := fun (t : State) => t.fld F.NCE_TSTAT_RSTATE
      let c := s.nce.cur
      let rides := (st s = 5 ∨ st s = 6) ∧ pst s p = 2
      let passes := rides ∧ headFail p f s = none ∧ frFid f ≠ 0 ∧ frSrc f ≠ s.fld F.NCE_NODE_NODE ∧ guardFail p f
        start s = none
      ck ∧ passes ∧ fcsOk f = true ∧ bufferFor s 0 (frFid f) (frCyc f) = some b ∧ frFid f ∉ c.fids ∧ s.fldB
        (F.NCE_BCTL_SNAP b) = false ∧ frNull f = false ∧ s.fldB F.NCE_MIR_EN = false)
    ∧ (
      let s : State := sN 2 2 []
      let p : Fin 2 := 1
      let f : RFrame := mkFrame (1 * 2 ^ 61 + 2 * 2 ^ 42 + 3 * 2 ^ 38 + 2 ^ 36 + 3 * 2 ^ 28) [0, 50, 64]
      let ck := clocked s = true
      let st := fun (t : State) => t.fld F.NCE_TSTAT_RSTATE
      let valid := receives p s = true ∧ headerOk f = true ∧ frVmaj f = 2 ∧ admitted s (frSrc f) = true ∧ frSync f =
        true ∧ 3 ≤ f.payload.length
      let guide := bit (frW f 2) 6 = true ∧ getBits (frW f 2) 0 6 = frSrc f ∧ frSrc f ≠ s.fld F.NCE_NODE_NODE
      ck ∧ valid ∧ guide ∧ st s = 2)
    ∧ (
      let s : State := sN 5 2 [(F.NCE_TSTAT_GVAL, 1), (F.NCE_TSTAT_GUIDON, 0)]
      let p : Fin 2 := 1
      let f : RFrame := mkFrame (1 * 2 ^ 61 + 2 * 2 ^ 42 + 3 * 2 ^ 38 + 2 ^ 36 + 3 * 2 ^ 28) [0, 50, 64]
      let ck := clocked s = true
      let st := fun (t : State) => t.fld F.NCE_TSTAT_RSTATE
      let valid := receives p s = true ∧ headerOk f = true ∧ frVmaj f = 2 ∧ admitted s (frSrc f) = true ∧ frSync f =
        true ∧ 3 ≤ f.payload.length
      let guide := bit (frW f 2) 6 = true ∧ getBits (frW f 2) 0 6 = frSrc f ∧ frSrc f ≠ s.fld F.NCE_NODE_NODE
      ck ∧ valid ∧ guide ∧ (st s = 5 ∨ st s = 6) ∧ s.fldB F.NCE_TSTAT_ISG = false ∧ s.fldB F.NCE_TSTAT_GVAL = true ∧
        s.fld F.NCE_TSTAT_GUIDON = frSrc f) := by
  refine ⟨?_, ?_, ?_, ?_, ?_, ?_, ?_, ?_, ?_, ?_, ?_, ?_, ?_, ?_, ?_⟩ <;> decide +kernel

theorem witness_FluxControlEngine : (
      let s : State := sF 0 [] (fun h => { h with run := some ⟨5, 5, 5, 0⟩ })
      let n : Fin 2 := 1
      let rq : Req := app
      let r : FceRun := ⟨5, 5, 5, 0⟩
      let k := n.val
      let ck := clocked s = true
      let h := s.fce[n]
      Accepts s rq (R.FCE_CTRL k) ∧ s.fldB (F.FCE_CTRL_EN k) = true ∧ s.fce[1 - n].loadWait = false ∧ Accepts s rq
        (R.FCE_CMD k) ∧ ck ∧ (s.fldB (F.FCE_STAT_LOADING k) = false ∨ h.run ≠ none) ∧ (s.fldB (F.FCE_CTRL_EN k) =
        false ∨ h.due = false ∨ h.run ≠ none) ∧ (h.due = true ∨ h.run ≠ none) ∧ h.latch = false ∧ h.run = some r)
    ∧ (
      let s : State := sF 0 [(F.FCE_STAT_LOADING 1, 1)] (fun h => h)
      let n : Fin 2 := 1
      let k := n.val
      let ck := clocked s = true
      let h := s.fce[n]
      let at_ := s.fld (F.FCE_IMGBASE_BASE k)
      ck ∧ s.fldB (F.FCE_STAT_LOADING k) = true ∧ h.run = none ∧ ((∀ j, j < 322 → SramGood s (at_ + j))) ∧ s.fldB
        (F.FCE_CTRL_EN k) = true ∧ h.due = false)
    ∧ (
      let s : State := up
      let n : Fin 2 := 0
      let rq : Req := app
      let k := n.val
      Accepts s rq (R.FCE_CTRL k) ∧ s.fldB (F.FCE_CTRL_EN k) = false)
    ∧ (
      let s : State := sF 0 [] (fun h => { h with run := some ⟨5, 5, 5, 0⟩, latch := true })
      let n : Fin 2 := 1
      let k := n.val
      let h := s.fce[n]
      s.fldB (F.FCE_CTRL_EN k) = true ∧ (h.due = true ∨ h.run ≠ none) ∧ h.latch = true)
    ∧ (
      let s : State := sF 0 [] (fun h => { h with due := true })
      let n : Fin 2 := 1
      let k := n.val
      let ck := clocked s = true
      let h := s.fce[n]
      let base := s.fld F.XLA_OSBASE_OSBASE + 16 + 16 * s.fld F.XLA_COMMIT_BUF
      let mode := base + s.fld (F.FCE_CFG_MIDX k)
      let i := getBits (s.word mode) 0 2
      let d := descriptor (activeImage n s) i
      let on := ck ∧ s.fldB (F.FCE_CTRL_EN k) = true
      let ready := on ∧ h.due = true ∧ h.run = none ∧ s.hal.safe = false ∧ s.fldB (F.FCE_CFG_COMHO k) = false ∧
        SramGood s mode ∧ (∀ j ∈ refsUsed (dType d), SramGood s (base + dRef d j)) ∧ dSpden d = false ∧ dType d ≠ 4
      let free := s.fld (F.PWM_STAT_TSTATE k) = 0 ∧ resolvedTrip k s = 0
      let fit := s.fldB (F.ISN_QUAL_STALE k) = false ∧ s.fld (F.ISN_QUAL_AGE k) ≤ s.fld (F.FCE_CFG_AGEL k) ∧ s.fldB
        (F.COM_STAT_AVALID k) = true ∧ (s.reg (R.FCE_VBMIN k)).toInt ≤ (s.reg R.ISN_VBUS).toInt
      ready ∧ (h.last = none ∨ ¬free) ∧ (¬fit))
    ∧ (
      let s : State := sF 0 [] (fun h => { h with due := true, last := some ⟨.idle, 0, [], [], none, (0, 0)⟩ })
      let n : Fin 2 := 1
      let l : FceLast := ⟨.idle, 0, [], [], none, (0, 0)⟩
      let k := n.val
      let ck := clocked s = true
      let h := s.fce[n]
      let base := s.fld F.XLA_OSBASE_OSBASE + 16 + 16 * s.fld F.XLA_COMMIT_BUF
      let mode := base + s.fld (F.FCE_CFG_MIDX k)
      let i := getBits (s.word mode) 0 2
      let d := descriptor (activeImage n s) i
      let on := ck ∧ s.fldB (F.FCE_CTRL_EN k) = true
      let ready := on ∧ h.due = true ∧ h.run = none ∧ s.hal.safe = false ∧ s.fldB (F.FCE_CFG_COMHO k) = false ∧
        SramGood s mode ∧ (∀ j ∈ refsUsed (dType d), SramGood s (base + dRef d j)) ∧ dSpden d = false ∧ dType d ≠ 4
      let free := s.fld (F.PWM_STAT_TSTATE k) = 0 ∧ resolvedTrip k s = 0
      ready ∧ h.last = some l ∧ free ∧ dType d = 0 ∧ s.fce[1 - n].loadWait = false)
    ∧ (
      let s : State := sF 1 [(F.ISN_QUAL_STALE 1, 1)] (fun h => { h with
        due := true, last := some ⟨.idle, 0, [], [], none, (0, 0)⟩ })
      let n : Fin 2 := 1
      let l : FceLast := ⟨.idle, 0, [], [], none, (0, 0)⟩
      let k := n.val
      let ck := clocked s = true
      let h := s.fce[n]
      let base := s.fld F.XLA_OSBASE_OSBASE + 16 + 16 * s.fld F.XLA_COMMIT_BUF
      let mode := base + s.fld (F.FCE_CFG_MIDX k)
      let i := getBits (s.word mode) 0 2
      let d := descriptor (activeImage n s) i
      let on := ck ∧ s.fldB (F.FCE_CTRL_EN k) = true
      let ready := on ∧ h.due = true ∧ h.run = none ∧ s.hal.safe = false ∧ s.fldB (F.FCE_CFG_COMHO k) = false ∧
        SramGood s mode ∧ (∀ j ∈ refsUsed (dType d), SramGood s (base + dRef d j)) ∧ dSpden d = false ∧ dType d ≠ 4
      let free := s.fld (F.PWM_STAT_TSTATE k) = 0 ∧ resolvedTrip k s = 0
      ready ∧ h.last = some l ∧ free ∧ dType d ≠ 0 ∧ dType d ≠ 5 ∧ s.fldB (F.ISN_QUAL_STALE k) = true ∧ s.fce[1 -
        n].loadWait = false)
    ∧ (
      let s : State := sF 5 [] (fun h => { h with
        due := true, last := some ⟨.duty, 0, 5 :: List.replicate 31 0, [0, 0, 0], none, (0, 0)⟩ })
      let n : Fin 2 := 1
      let l : FceLast := ⟨.duty, 0, 5 :: List.replicate 31 0, [0, 0, 0], none, (0, 0)⟩
      let k := n.val
      let ck := clocked s = true
      let h := s.fce[n]
      let base := s.fld F.XLA_OSBASE_OSBASE + 16 + 16 * s.fld F.XLA_COMMIT_BUF
      let mode := base + s.fld (F.FCE_CFG_MIDX k)
      let i := getBits (s.word mode) 0 2
      let d := descriptor (activeImage n s) i
      let on := ck ∧ s.fldB (F.FCE_CTRL_EN k) = true
      let ready := on ∧ h.due = true ∧ h.run = none ∧ s.hal.safe = false ∧ s.fldB (F.FCE_CFG_COMHO k) = false ∧
        SramGood s mode ∧ (∀ j ∈ refsUsed (dType d), SramGood s (base + dRef d j)) ∧ dSpden d = false ∧ dType d ≠ 4
      let free := s.fld (F.PWM_STAT_TSTATE k) = 0 ∧ resolvedTrip k s = 0
      let writes := ∀ j, j < 3 → Accepts s (fceReq n s) (R.PWM_CMP k j)
      ready ∧ h.last = some l ∧ free ∧ dType d = 5 ∧ writes ∧ l.kind = .duty ∧ l.index = i ∧ l.dsc = d ∧ h.ho = none)
    ∧ (
      let s : State := withR (sF 1 [] (fun h => { h with
        due := true, last := some ⟨.idle, 0, [], [], none, (0, 0)⟩ })) [(R.FCE_VBMIN 1, 0), (R.ISN_VBUS, 0x7FFFFFFFF),
        (R.ISN_QUAL 1, 0)]
      let n : Fin 2 := 1
      let l : FceLast := ⟨.idle, 0, [], [], none, (0, 0)⟩
      let k := n.val
      let ck := clocked s = true
      let h := s.fce[n]
      let base := s.fld F.XLA_OSBASE_OSBASE + 16 + 16 * s.fld F.XLA_COMMIT_BUF
      let mode := base + s.fld (F.FCE_CFG_MIDX k)
      let i := getBits (s.word mode) 0 2
      let d := descriptor (activeImage n s) i
      let on := ck ∧ s.fldB (F.FCE_CTRL_EN k) = true
      let ready := on ∧ h.due = true ∧ h.run = none ∧ s.hal.safe = false ∧ s.fldB (F.FCE_CFG_COMHO k) = false ∧
        SramGood s mode ∧ (∀ j ∈ refsUsed (dType d), SramGood s (base + dRef d j)) ∧ dSpden d = false ∧ dType d ≠ 4
      let free := s.fld (F.PWM_STAT_TSTATE k) = 0 ∧ resolvedTrip k s = 0
      let fit := s.fldB (F.ISN_QUAL_STALE k) = false ∧ s.fld (F.ISN_QUAL_AGE k) ≤ s.fld (F.FCE_CFG_AGEL k) ∧ s.fldB
        (F.COM_STAT_AVALID k) = true ∧ (s.reg (R.FCE_VBMIN k)).toInt ≤ (s.reg R.ISN_VBUS).toInt
      let writes := ∀ j, j < 3 → Accepts s (fceReq n s) (R.PWM_CMP k j)
      ready ∧ h.last = some l ∧ free ∧ (dType d = 1 ∨ dType d = 2 ∨ dType d = 3) ∧ fit ∧ writes)
    ∧ (
      let s : State := withR (sF 1 [] (fun h => { h with due := true })) [(R.FCE_VBMIN 1, 0), (R.ISN_VBUS,
        0x7FFFFFFFF), (R.ISN_QUAL 1, 0)]
      let n : Fin 2 := 1
      let k := n.val
      let ck := clocked s = true
      let h := s.fce[n]
      let base := s.fld F.XLA_OSBASE_OSBASE + 16 + 16 * s.fld F.XLA_COMMIT_BUF
      let mode := base + s.fld (F.FCE_CFG_MIDX k)
      let i := getBits (s.word mode) 0 2
      let d := descriptor (activeImage n s) i
      let on := ck ∧ s.fldB (F.FCE_CTRL_EN k) = true
      let ready := on ∧ h.due = true ∧ h.run = none ∧ s.hal.safe = false ∧ s.fldB (F.FCE_CFG_COMHO k) = false ∧
        SramGood s mode ∧ (∀ j ∈ refsUsed (dType d), SramGood s (base + dRef d j)) ∧ dSpden d = false ∧ dType d ≠ 4
      let free := s.fld (F.PWM_STAT_TSTATE k) = 0 ∧ resolvedTrip k s = 0
      let fit := s.fldB (F.ISN_QUAL_STALE k) = false ∧ s.fld (F.ISN_QUAL_AGE k) ≤ s.fld (F.FCE_CFG_AGEL k) ∧ s.fldB
        (F.COM_STAT_AVALID k) = true ∧ (s.reg (R.FCE_VBMIN k)).toInt ≤ (s.reg R.ISN_VBUS).toInt
      let writes := ∀ j, j < 3 → Accepts s (fceReq n s) (R.PWM_CMP k j)
      ready ∧ (h.last = none ∨ ¬free) ∧ fit ∧ writes) := by
  refine ⟨?_, ?_, ?_, ?_, ?_, ?_, ?_, ?_, ?_, ?_⟩ <;> (dsimp only [Accepts, SramGood]; decide +kernel)

theorem witness_ResetState : (
      let n := 5
      n < 144 ∧ n < 256) := by
  decide +kernel

theorem witness_CanonicalKept : Canonical up ∧ step up = .next (tick up) :=
  ⟨by unfold Canonical; decide +kernel, rfl⟩

end Sys2Proof.Tests
end

section
/-! PROOFS. The encoder and the decoder of the instruction word: every format of R92 reads back the fields put into it. -/

namespace Sys2Proof.MoagarInstructions

open Sys2Proof.Machine Sys2Proof.Moagar Sys2Proof.Safety
open BitVec (extractLsb'_append_eq_of_add_le)

/-- The upper part of a concatenation. -/
theorem extractLsb'_append_hi {n m : Nat} (a : BitVec n) (b : BitVec m) : (a ++ b).extractLsb' m n = a := by
  rw [BitVec.extractLsb'_append_eq_of_le (Nat.le_refl m), Nat.sub_self, BitVec.extractLsb'_eq_self]

@[simp] theorem regOf_regBits (r : GReg) : regOf (regBits r) = r := rfl

section FormatR

variable (op : BitVec 6) (rd ra rb rc : GReg) (fn : BitVec 8)

@[simp] theorem fmtR_op : (fmtR op rd ra rb rc fn).extractLsb' 30 6 = op := extractLsb'_append_hi _ _

@[simp] theorem fRd_fmtR : fRd (fmtR op rd ra rb rc fn) = rd := by
  unfold fRd fmtR
  rw [extractLsb'_append_eq_of_add_le (by decide), extractLsb'_append_hi, regOf_regBits]

@[simp] theorem fRa_fmtR : fRa (fmtR op rd ra rb rc fn) = ra := by
  unfold fRa fmtR
  rw [extractLsb'_append_eq_of_add_le (by decide), extractLsb'_append_eq_of_add_le (by decide), extractLsb'_append_hi,
    regOf_regBits]

@[simp] theorem fRb_fmtR : fRb (fmtR op rd ra rb rc fn) = rb := by
  unfold fRb fmtR
  rw [extractLsb'_append_eq_of_add_le (by decide), extractLsb'_append_eq_of_add_le (by decide),
    extractLsb'_append_eq_of_add_le (by decide), extractLsb'_append_hi, regOf_regBits]

/-- The fifteen bits of RC, the unused field and FN. -/
theorem fmtR_tail {lo w : Nat} (h : lo + w ≤ 15) :
    (fmtR op rd ra rb rc fn).extractLsb' lo w = (regBits rc ++ ((0 : BitVec 2) ++ fn)).extractLsb' lo w := by
  unfold fmtR
  rw [extractLsb'_append_eq_of_add_le (by omega), extractLsb'_append_eq_of_add_le (by omega),
    extractLsb'_append_eq_of_add_le (by omega), extractLsb'_append_eq_of_add_le (by omega)]

@[simp] theorem fRc_fmtR : fRc (fmtR op rd ra rb rc fn) = rc := by
  unfold fRc
  rw [fmtR_tail _ _ _ _ _ _ (by decide), extractLsb'_append_hi, regOf_regBits]

@[simp] theorem fmtR_unused : (fmtR op rd ra rb rc fn).extractLsb' 8 2 = 0 := by
  rw [fmtR_tail _ _ _ _ _ _ (by decide), extractLsb'_append_eq_of_add_le (by decide), extractLsb'_append_hi]

@[simp] theorem fmtR_fn : (fmtR op rd ra rb rc fn).extractLsb' 0 8 = fn := by
  rw [fmtR_tail _ _ _ _ _ _ (by decide), extractLsb'_append_eq_of_add_le (by decide),
    extractLsb'_append_eq_of_add_le (by decide), BitVec.extractLsb'_eq_self]

end FormatR

section FormatO

variable (rd ra rb : GReg) (j : BitVec 4) (sz : BitVec 2) (sx : Bool) (fn : BitVec 8)

@[simp] theorem fmtO_op : (fmtO rd ra rb j sz sx fn).extractLsb' 30 6 = 0x03 := extractLsb'_append_hi _ _

@[simp] theorem fRd_fmtO : fRd (fmtO rd ra rb j sz sx fn) = rd := by
  unfold fRd fmtO
  rw [extractLsb'_append_eq_of_add_le (by decide), extractLsb'_append_hi, regOf_regBits]

@[simp] theorem fRa_fmtO : fRa (fmtO rd ra rb j sz sx fn) = ra := by
  unfold fRa fmtO
  rw [extractLsb'_append_eq_of_add_le (by decide), extractLsb'_append_eq_of_add_le (by decide), extractLsb'_append_hi,
    regOf_regBits]

@[simp] theorem fRb_fmtO : fRb (fmtO rd ra rb j sz sx fn) = rb := by
  unfold fRb fmtO
  rw [extractLsb'_append_eq_of_add_le (by decide), extractLsb'_append_eq_of_add_le (by decide),
    extractLsb'_append_eq_of_add_le (by decide), extractLsb'_append_hi, regOf_regBits]

/-- The fifteen bits of J, SZ, SX and FN. -/
theorem fmtO_tail {lo w : Nat} (h : lo + w ≤ 15) :
    (fmtO rd ra rb j sz sx fn).extractLsb' lo w = (j ++ (sz ++ (BitVec.ofBool sx ++ fn))).extractLsb' lo w := by
  unfold fmtO
  rw [extractLsb'_append_eq_of_add_le (by omega), extractLsb'_append_eq_of_add_le (by omega),
    extractLsb'_append_eq_of_add_le (by omega), extractLsb'_append_eq_of_add_le (by omega)]

@[simp] theorem fmtO_j : (fmtO rd ra rb j sz sx fn).extractLsb' 11 4 = j := by
  rw [fmtO_tail _ _ _ _ _ _ _ (by decide), extractLsb'_append_hi]

@[simp] theorem fmtO_sz : (fmtO rd ra rb j sz sx fn).extractLsb' 9 2 = sz := by
  rw [fmtO_tail _ _ _ _ _ _ _ (by decide), extractLsb'_append_eq_of_add_le (by decide), extractLsb'_append_hi]

@[simp] theorem fmtO_fn : (fmtO rd ra rb j sz sx fn).extractLsb' 0 8 = fn := by
  rw [fmtO_tail _ _ _ _ _ _ _ (by decide), extractLsb'_append_eq_of_add_le (by decide),
    extractLsb'_append_eq_of_add_le (by decide), extractLsb'_append_eq_of_add_le (by decide),
    BitVec.extractLsb'_eq_self]

@[simp] theorem fmtO_sx : (fmtO rd ra rb j sz sx fn)[8] = sx := by
  rw [← BitVec.getLsbD_eq_getElem]
  unfold fmtO
  simp only [BitVec.getLsbD_append]
  simp

end FormatO

section FormatI

variable (op : BitVec 6) (rd ra : GReg) (imm : BitVec 20)

@[simp] theorem fmtI_op : (fmtI op rd ra imm).extractLsb' 30 6 = op := extractLsb'_append_hi _ _

@[simp] theorem fRd_fmtI : fRd (fmtI op rd ra imm) = rd := by
  unfold fRd fmtI
  rw [extractLsb'_append_eq_of_add_le (by decide), extractLsb'_append_hi, regOf_regBits]

@[simp] theorem fRa_fmtI : fRa (fmtI op rd ra imm) = ra := by
  unfold fRa fmtI
  rw [extractLsb'_append_eq_of_add_le (by decide), extractLsb'_append_eq_of_add_le (by decide), extractLsb'_append_hi,
    regOf_regBits]

/-- A field inside the immediate. -/
theorem fmtI_tail {lo w : Nat} (h : lo + w ≤ 20) : (fmtI op rd ra imm).extractLsb' lo w = imm.extractLsb' lo w := by
  unfold fmtI
  rw [extractLsb'_append_eq_of_add_le (by omega), extractLsb'_append_eq_of_add_le (by omega),
    extractLsb'_append_eq_of_add_le h]

@[simp] theorem fmtI_imm : (fmtI op rd ra imm).extractLsb' 0 20 = imm := by
  rw [fmtI_tail _ _ _ _ (by decide), BitVec.extractLsb'_eq_self]

end FormatI

section FormatU

variable (op : BitVec 6) (rd : GReg) (imm : BitVec 25)

@[simp] theorem fmtU_op : (fmtU op rd imm).extractLsb' 30 6 = op := extractLsb'_append_hi _ _

@[simp] theorem fRd_fmtU : fRd (fmtU op rd imm) = rd := by
  unfold fRd fmtU
  rw [extractLsb'_append_eq_of_add_le (by decide), extractLsb'_append_hi, regOf_regBits]

/-- A field inside the immediate. -/
theorem fmtU_tail {lo w : Nat} (h : lo + w ≤ 25) : (fmtU op rd imm).extractLsb' lo w = imm.extractLsb' lo w := by
  unfold fmtU
  rw [extractLsb'_append_eq_of_add_le (by omega), extractLsb'_append_eq_of_add_le h]

@[simp] theorem fmtU_imm : (fmtU op rd imm).extractLsb' 0 25 = imm := by
  rw [fmtU_tail _ _ _ (by decide), BitVec.extractLsb'_eq_self]

end FormatU

section FormatBJ

variable (cond : BitVec 4) (off : BitVec 24)

@[simp] theorem fmtB_op : (fmtB cond off).extractLsb' 30 6 = 0x18 := extractLsb'_append_hi _ _

@[simp] theorem fmtB_unused : (fmtB cond off).extractLsb' 28 2 = 0 := by
  unfold fmtB
  rw [extractLsb'_append_eq_of_add_le (by decide), extractLsb'_append_hi]

@[simp] theorem fmtB_cond : (fmtB cond off).extractLsb' 24 4 = cond := by
  unfold fmtB
  rw [extractLsb'_append_eq_of_add_le (by decide), extractLsb'_append_eq_of_add_le (by decide), extractLsb'_append_hi]

@[simp] theorem fmtB_off : (fmtB cond off).extractLsb' 0 24 = off := by
  unfold fmtB
  rw [extractLsb'_append_eq_of_add_le (by decide), extractLsb'_append_eq_of_add_le (by decide),
    extractLsb'_append_eq_of_add_le (by decide), BitVec.extractLsb'_eq_self]

@[simp] theorem fmtJ_op : (fmtJ off).extractLsb' 30 6 = 0x19 := extractLsb'_append_hi _ _

@[simp] theorem fmtJ_unused : (fmtJ off).extractLsb' 24 6 = 0 := by
  unfold fmtJ
  rw [extractLsb'_append_eq_of_add_le (by decide), extractLsb'_append_hi]

@[simp] theorem fmtJ_off : (fmtJ off).extractLsb' 0 24 = off := by
  unfold fmtJ
  rw [extractLsb'_append_eq_of_add_le (by decide), extractLsb'_append_eq_of_add_le (by decide),
    BitVec.extractLsb'_eq_self]

end FormatBJ

section FormatS

variable (rd ra : GReg) (k : BitVec 6) (imm : BitVec 8) (sfn : BitVec 6)

@[simp] theorem fmtS_op : (fmtS rd ra k imm sfn).extractLsb' 30 6 = 0x3F := extractLsb'_append_hi _ _

@[simp] theorem fRd_fmtS : fRd (fmtS rd ra k imm sfn) = rd := by
  unfold fRd fmtS
  rw [extractLsb'_append_eq_of_add_le (by decide), extractLsb'_append_hi, regOf_regBits]

@[simp] theorem fRa_fmtS : fRa (fmtS rd ra k imm sfn) = ra := by
  unfold fRa fmtS
  rw [extractLsb'_append_eq_of_add_le (by decide), extractLsb'_append_eq_of_add_le (by decide), extractLsb'_append_hi,
    regOf_regBits]

/-- The twenty bits of K, IMM and SFN. -/
theorem fmtS_tail {lo w : Nat} (h : lo + w ≤ 20) :
    (fmtS rd ra k imm sfn).extractLsb' lo w = (k ++ (imm ++ sfn)).extractLsb' lo w := by
  unfold fmtS
  rw [extractLsb'_append_eq_of_add_le (by omega), extractLsb'_append_eq_of_add_le (by omega),
    extractLsb'_append_eq_of_add_le (by omega)]

@[simp] theorem fmtS_k : (fmtS rd ra k imm sfn).extractLsb' 14 6 = k := by
  rw [fmtS_tail _ _ _ _ _ (by decide), extractLsb'_append_hi]

@[simp] theorem fmtS_imm : (fmtS rd ra k imm sfn).extractLsb' 6 8 = imm := by
  rw [fmtS_tail _ _ _ _ _ (by decide), extractLsb'_append_eq_of_add_le (by decide), extractLsb'_append_hi]

@[simp] theorem fmtS_sfn : (fmtS rd ra k imm sfn).extractLsb' 0 6 = sfn := by
  rw [fmtS_tail _ _ _ _ _ (by decide), extractLsb'_append_eq_of_add_le (by decide),
    extractLsb'_append_eq_of_add_le (by decide), BitVec.extractLsb'_eq_self]

end FormatS

/-! The decoder on a word of each format -/

@[simp] theorem need_true (i : MInstr) : need true i = i := rfl

/-- The functions of OP 00h have different numbers (R98). -/
theorem opR_fnR (op : ROp) : opR (fnR op) = some op := by cases op <;> rfl

theorem decode_fmtR_register (rd ra rb rc : GReg) (fn : BitVec 8) :
    decode (fmtR 0#6 rd ra rb rc fn) = decodeR (fmtR 0#6 rd ra rb rc fn) := by simp [decode]

theorem decode_fmtR_multiply (rd ra rb rc : GReg) (fn : BitVec 8) :
    decode (fmtR 1#6 rd ra rb rc fn) = decodeMul (fmtR 1#6 rd ra rb rc fn) := by simp [decode]

theorem decode_fmtR_atomic (rd ra rb rc : GReg) (fn : BitVec 8) :
    decode (fmtR 4#6 rd ra rb rc fn) = decodeAtom (fmtR 4#6 rd ra rb rc fn) := by simp [decode]

theorem decode_fmtO (rd ra rb : GReg) (j : BitVec 4) (sz : BitVec 2) (sx : Bool) (fn : BitVec 8) :
    decode (fmtO rd ra rb j sz sx fn) = decodeO (fmtO rd ra rb j sz sx fn) := by simp [decode]

theorem decode_fmtS (rd ra : GReg) (k : BitVec 6) (imm : BitVec 8) (sfn : BitVec 6) :
    decode (fmtS rd ra k imm sfn) = decodeS (fmtS rd ra k imm sfn) := by simp [decode]

/-! Decoding what was encoded -/

theorem decode_encode_rrr (op : ROp) (rd ra rb rc : GReg) (h : (MInstr.rrr op rd ra rb rc).wf = true) :
    decode (encode (.rrr op rd ra rb rc)) = .rrr op rd ra rb rc := by
  simp [encode, decode_fmtR_register, decodeR, opR_fnR, h]

theorem decode_encode_rri (op : IOp) (rd ra : GReg) (imm : BitVec 20) (h : (MInstr.rri op rd ra imm).wf = true) :
    decode (encode (.rri op rd ra imm)) = .rri op rd ra imm := by
  cases op
  case cmpi =>
    have hrd : rd = 0 := by simpa [MInstr.wf] using h
    simp [encode, opI, decode, hrd]
  all_goals simp [encode, opI, decode]

theorem decode_encode_shi (rd ra : GReg) (kind : BitVec 3) (n : BitVec 6) :
    decode (encode (.shi rd ra kind n)) = .shi rd ra kind n := by
  have hkind : (fmtI 0x0E rd ra (kind ++ ((0 : BitVec 11) ++ n))).extractLsb' 17 3 = kind := by
    rw [fmtI_tail _ _ _ _ (by decide), extractLsb'_append_hi]
  have hzero : (fmtI 0x0E rd ra (kind ++ ((0 : BitVec 11) ++ n))).extractLsb' 6 11 = 0 := by
    rw [fmtI_tail _ _ _ _ (by decide), extractLsb'_append_eq_of_add_le (by decide), extractLsb'_append_hi]
  have hn : (fmtI 0x0E rd ra (kind ++ ((0 : BitVec 11) ++ n))).extractLsb' 0 6 = n := by
    rw [fmtI_tail _ _ _ _ (by decide), extractLsb'_append_eq_of_add_le (by decide),
      extractLsb'_append_eq_of_add_le (by decide), BitVec.extractLsb'_eq_self]
  unfold encode decode
  simp only [fmtI_op, hkind, hzero, hn, fRd_fmtI, fRa_fmtI]
  rfl

theorem decode_encode_lhi (rd : GReg) (imm : BitVec 18) : decode (encode (.lhi rd imm)) = .lhi rd imm := by
  have hzero : (fmtU 0x11 rd ((0 : BitVec 7) ++ imm)).extractLsb' 18 7 = 0 := by
    rw [fmtU_tail _ _ _ (by decide), extractLsb'_append_hi]
  have himm : (fmtU 0x11 rd ((0 : BitVec 7) ++ imm)).extractLsb' 0 18 = imm := by
    rw [fmtU_tail _ _ _ (by decide), extractLsb'_append_eq_of_add_le (by decide), BitVec.extractLsb'_eq_self]
  unfold encode decode
  simp only [fmtU_op, hzero, himm, fRd_fmtU]
  rfl

theorem decode_encode_mul (op : MulOp) (rd ra rb rc : GReg) (h : (MInstr.mul op rd ra rb rc).wf = true) :
    decode (encode (.mul op rd ra rb rc)) = .mul op rd ra rb rc := by
  cases op <;> simp [encode, fnMul, decode_fmtR_multiply, decodeMul, h]

theorem decode_encode_div (op : DivOp) (rd rc ra rb : GReg) :
    decode (encode (.div op rd rc ra rb)) = .div op rd rc ra rb := by
  cases op <;> simp [encode, fnDiv, decode_fmtR_multiply, decodeMul, MInstr.wf]

theorem decode_encode_cvt (op : CvtOp) (rd ra : GReg) : decode (encode (.cvt op rd ra)) = .cvt op rd ra := by
  cases op <;> simp [encode, fnCvt, decode_fmtR_multiply, decodeMul, MInstr.wf]

theorem decode_encode_atom (op : AtomOp) (rd ra rb rc : GReg) (h : (MInstr.atom op rd ra rb rc).wf = true) :
    decode (encode (.atom op rd ra rb rc)) = .atom op rd ra rb rc := by
  cases op <;> simp [encode, fnAtom, decode_fmtR_atomic, decodeAtom, h]

/-- A well-formed instruction is what its word decodes to: one case per format of R92. -/
theorem decode_encode (i : MInstr) (hw : i.wf = true) (hu : i ≠ .undef) : decode (encode i) = i := by
  cases i with
  | rrr op rd ra rb rc => exact decode_encode_rrr op rd ra rb rc hw
  | rri op rd ra imm => exact decode_encode_rri op rd ra imm hw
  | shi rd ra kind n => exact decode_encode_shi rd ra kind n
  | lhi rd imm => exact decode_encode_lhi rd imm
  | mul op rd ra rb rc => exact decode_encode_mul op rd ra rb rc hw
  | div op rd rc ra rb => exact decode_encode_div op rd rc ra rb
  | cvt op rd ra => exact decode_encode_cvt op rd ra
  | atom op rd ra rb rc => exact decode_encode_atom op rd ra rb rc hw
  | ox | oi => simp [encode, decode_fmtO, decodeO]
  | li | ld | st | ldp | stp | bcond | call | jr | callr => simp [encode, decode]
  | undef => exact absurd rfl hu
  | _ => simp [encode, decode_fmtS, decodeS]

/-- Settles O18: every format reads back its fields, so the decoder of a well-formed instruction's word finds the
instruction. -/
theorem moagarEncodeDecode : Obligations.MoagarEncodeDecode := by
  unfold Obligations.MoagarEncodeDecode
  exact decode_encode

end Sys2Proof.MoagarInstructions
end

section
/-! PROOFS. The issue of an instruction that addresses no data, and the arithmetic, selection and
transfer instructions (R98, R99, R106). -/

namespace Sys2Proof.MoagarInstructions

open Sys2Proof.Machine Sys2Proof.Moagar Sys2Proof.Safety

section IssueFree

variable {s : State} {k : Fin 4} {i : MInstr} {fl : FlagUpd} {w : Core → Core}

/-- A core that is free is ready for every instruction that addresses no data. -/
theorem ready_of_free (hf : Free s k) (hd : dataAddrs i s.cores[k] = []) : Ready s k i := by
  obtain ⟨hissue, hhalt, hfetch, hibp, -⟩ := hf
  refine ⟨hissue, hhalt, hfetch, hibp, ?_⟩
  unfold dwpMatch
  rw [hd]
  rfl

/-- An instruction whose result hoists no sticky flag retires with it, whatever OVT and DZT say. -/
theorem retires_of_result (hf : Free s k) (hd : dataAddrs i s.cores[k] = []) (hi : isIret i = false)
    (hm : mexec i .ok .ok k s.cores[k] s = result s.cores[k] fl w s) (hov : fl.ov = false) (hdz : fl.dz = false) :
    Runs (.next (issue k i .ok .ok s)) (Retires s k ((w s.cores[k]).flags fl)) := by
  refine issue_done hi (ready_of_free hf hd) (hm.trans ?_)
  simp [result, hov, hdz]

/-- A function of OP 00h other than CMP writes its result to rd and its flags to FLAGS. -/
theorem rrr_retires (op : ROp) (rd ra rb rc : GReg) (hop : op ≠ .cmp) (hf : Free s k) {r : Word}
    (ho : aluR op (s.cores[k].getG ra) (s.cores[k].getG rb) (s.cores[k].getG rc) = ⟨r, fl⟩) (hov : fl.ov = false)
    (hdz : fl.dz = false) :
    Runs (.next (issue k (.rrr op rd ra rb rc) .ok .ok s)) (Retires s k ((s.cores[k].setG rd r).flags fl)) := by
  refine retires_of_result (w := fun c => c.setG rd r) hf rfl rfl ?_ hov hdz
  simp only [mexec, ho, if_neg hop]

/-- CMP writes FLAGS alone. -/
theorem cmp_retires (rd ra rb rc : GReg) (hf : Free s k) :
    Runs (.next (issue k (.rrr .cmp rd ra rb rc) .ok .ok s))
      (Retires s k (s.cores[k].flags (flagsSub (s.cores[k].getG ra) (s.cores[k].getG rb)))) :=
  retires_of_result (w := id) hf rfl rfl rfl rfl rfl

theorem addi_retires (rd ra : GReg) (imm : BitVec 20) (hf : Free s k) :
    Runs (.next (issue k (.rri .addi rd ra imm) .ok .ok s))
      (Retires s k ((s.cores[k].setG rd (s.cores[k].getG ra + immArith imm)).flags
        (flagsAdd (s.cores[k].getG ra) (immArith imm)))) :=
  retires_of_result (w := fun c => c.setG rd (s.cores[k].getG ra + immArith imm)) hf rfl rfl rfl rfl rfl

/-- CMPI writes FLAGS alone. -/
theorem cmpi_retires (rd ra : GReg) (imm : BitVec 20) (hf : Free s k) :
    Runs (.next (issue k (.rri .cmpi rd ra imm) .ok .ok s))
      (Retires s k (s.cores[k].flags (flagsSub (s.cores[k].getG ra) (immArith imm)))) :=
  retires_of_result (w := id) hf rfl rfl rfl rfl rfl

end IssueFree

/-! The flags of R55 in exact arithmetic -/

/-- Saturation in the model is leaving the 36-bit range. -/
theorem satur_eq_exceeds (x : Int) : satur x = exceeds x := by
  rw [satur, exceeds, Bool.or_comm]
  congr 2

theorem flagsAdd_eq (a b : Word) : flagsAdd a b =
    { z := some (decide (a + b = 0)), n := some (a + b).msb, c := some (decide (2 ^ 36 ≤ a.toNat + b.toNat))
      v := some (exceeds (a.toInt + b.toInt)) } := by
  rw [← satur_eq_exceeds]; rfl

theorem flagsSub_eq (a b : Word) : flagsSub a b =
    { z := some (decide (a - b = 0)), n := some (a - b).msb, c := some (decide (b.toNat ≤ a.toNat))
      v := some (exceeds (a.toInt - b.toInt)) } := by
  rw [← satur_eq_exceeds]; rfl

/-- ABS overflows on the least word alone (R98). -/
theorem toInt_eq_i36Min_iff (a : Word) : a.toInt = i36Min ↔ a = 0x800000000 :=
  BitVec.toInt_inj (x := a) (y := 0x800000000)

theorem aluAbs_eq (a : Word) : aluAbs a =
    (let r := if a.msb then -a else a
     ⟨r, { z := some (decide (r = 0)), n := some r.msb, v := some (decide (a = 0x800000000)) }⟩) := by
  have hneg : (0 : Word) - a = -a := BitVec.zero_sub a
  simp only [aluAbs, flagsZNwithV, isZero, isNeg, toInt_eq_i36Min_iff, hneg]

/-- Settles O1: each instruction retires with the result of its function of MoagarAlu, whose flags are those of R55 in
exact arithmetic. -/
theorem wrappingArithmetic : Obligations.WrappingArithmetic := by
  intro s k rd ra rb imm hf c a b i zn add sub
  have hadd : ∀ x y, flagsAdd x y = add x y := flagsAdd_eq
  have hsub : ∀ x y, flagsSub x y = sub x y := flagsSub_eq
  refine ⟨?_, ?_, ?_, ?_, ?_, ?_, ?_⟩
  · rw [← hadd]
    exact rrr_retires .add rd ra rb 0 (by decide) hf rfl rfl rfl
  · rw [← hsub]
    exact rrr_retires .sub rd ra rb 0 (by decide) hf rfl rfl rfl
  · rw [← hsub]
    exact cmp_retires 0 ra rb 0 hf
  · rw [← hsub, ← BitVec.zero_sub]
    exact rrr_retires .neg rd ra 0 0 (by decide) hf rfl rfl rfl
  · exact rrr_retires .abs rd ra 0 0 (by decide) hf (aluAbs_eq a) rfl rfl
  · rw [← hadd]
    exact addi_retires rd ra imm hf
  · rw [← hsub]
    exact cmpi_retires 0 ra imm hf

/-! Selection on exact values (R98) -/

theorem minI_eq (a b : Word) : minI a b = BitVec.ofInt 36 (min a.toInt b.toInt) := by
  unfold minI
  split <;> rename_i h
  · rw [Int.min_eq_left h, BitVec.ofInt_toInt]
  · rw [Int.min_eq_right (by omega), BitVec.ofInt_toInt]

theorem maxI_eq (a b : Word) : maxI a b = BitVec.ofInt 36 (max a.toInt b.toInt) := by
  unfold maxI
  split <;> rename_i h
  · rw [Int.max_eq_right h, BitVec.ofInt_toInt]
  · rw [Int.max_eq_left (by omega), BitVec.ofInt_toInt]

theorem minU_eq (a b : Word) : minU a b = BitVec.ofNat 36 (min a.toNat b.toNat) := by
  unfold minU
  split <;> rename_i h
  · rw [Nat.min_eq_left h, BitVec.ofNat_toNat, BitVec.setWidth_eq]
  · rw [Nat.min_eq_right (by omega), BitVec.ofNat_toNat, BitVec.setWidth_eq]

theorem maxU_eq (a b : Word) : maxU a b = BitVec.ofNat 36 (max a.toNat b.toNat) := by
  unfold maxU
  split <;> rename_i h
  · rw [Nat.max_eq_right h, BitVec.ofNat_toNat, BitVec.setWidth_eq]
  · rw [Nat.max_eq_left (by omega), BitVec.ofNat_toNat, BitVec.setWidth_eq]

/-- The exact value of a selected word is the selected exact value. -/
theorem toInt_minI (a b : Word) : (minI a b).toInt = min a.toInt b.toInt := by
  unfold minI
  split <;> omega

theorem toInt_maxI (a b : Word) : (maxI a b).toInt = max a.toInt b.toInt := by
  unfold maxI
  split <;> omega

theorem mid3_eq (a b d : Word) :
    mid3 a b d = BitVec.ofInt 36 (max (min a.toInt b.toInt) (min (max a.toInt b.toInt) d.toInt)) := by
  rw [mid3, maxI_eq, toInt_minI, toInt_minI, toInt_maxI]

theorem clamp_eq (a b d : Word) : maxI b (minI a d) = BitVec.ofInt 36 (max b.toInt (min a.toInt d.toInt)) := by
  rw [maxI_eq, toInt_minI]

/-- Settles O4: each instruction retires with the word its function selects, and that word is the one of the selected
exact value. -/
theorem selectionInstructions : Obligations.SelectionInstructions := by
  intro s k rd ra rb rc hf c a b d ends ofI
  refine ⟨?_, ?_, ?_, ?_, ?_, ?_, ?_⟩
  · rw [show ofI (min a.toInt b.toInt) = minI a b from (minI_eq a b).symm]
    exact rrr_retires .min rd ra rb 0 (by decide) hf rfl rfl rfl
  · rw [show ofI (max a.toInt b.toInt) = maxI a b from (maxI_eq a b).symm]
    exact rrr_retires .max rd ra rb 0 (by decide) hf rfl rfl rfl
  · rw [← minU_eq]
    exact rrr_retires .minu rd ra rb 0 (by decide) hf rfl rfl rfl
  · rw [← maxU_eq]
    exact rrr_retires .maxu rd ra rb 0 (by decide) hf rfl rfl rfl
  · rw [show ofI (max b.toInt (min a.toInt d.toInt)) = maxI b (minI a d) from (clamp_eq a b d).symm]
    exact rrr_retires .clamp rd ra rb rc (by decide) hf rfl rfl rfl
  · rw [show ofI (max (min a.toInt b.toInt) (min (max a.toInt b.toInt) d.toInt)) = mid3 a b d from (mid3_eq a b d).symm]
    exact rrr_retires .mid3 rd ra rb rc (by decide) hf rfl rfl rfl
  · exact rrr_retires .mean2 rd ra rb 0 (by decide) hf rfl rfl rfl

/-! Control transfer (R106) -/

section Transfer

variable {s : State} {k : Fin 4} {i : MInstr} {c : Core} {target : Word} {w : Core → Core}

theorem transfer36_near (h : target.toNat < 2 ^ 24) : transfer36 c target w s = .done { w c with pc := target } s := by
  rw [transfer36, addrOk, if_pos (decide_eq_true h)]

theorem transfer36_far (h : 2 ^ 24 ≤ target.toNat) :
    transfer36 c target w s = .trap c trADDR 0 (BitVec.ofNat 36 (target.toNat % 2 ^ 24)) s := by
  rw [transfer36, addrOk, decide_eq_false (Nat.not_lt.2 h)]
  rfl

theorem ends_of_transfer (hf : Free s k) (hd : dataAddrs i s.cores[k] = []) (hi : isIret i = false)
    (hm : mexec i .ok .ok k s.cores[k] s = transfer36 s.cores[k] target w s) (h : target.toNat < 2 ^ 24) :
    Runs (.next (issue k i .ok .ok s)) (Ends s k { w s.cores[k] with pc := target }) :=
  issue_done hi (ready_of_free hf hd) (hm.trans (transfer36_near h))

theorem traps_of_transfer (hf : Free s k) (hd : dataAddrs i s.cores[k] = [])
    (hm : mexec i .ok .ok k s.cores[k] s = transfer36 s.cores[k] target w s) (h : 2 ^ 24 ≤ target.toNat) :
    Runs (.next (issue k i .ok .ok s)) (Traps s k s.cores[k] trADDR 0 (BitVec.ofNat 36 (target.toNat % 2 ^ 24))) :=
  issue_trap (ready_of_free hf hd) (hm.trans (transfer36_far h))

end Transfer

/-- The fifteen defined conditions on FLAGS, in the order of their codes (R106). -/
def conditions (f : Word) : List Bool :=
  let z := bit f 0
  let n := bit f 1
  let c := bit f 2
  let v := bit f 3
  [z, !z, n != v, n == v, !z && (n == v), z || (n != v), !c, c, c && !z, !c || z, n, !n, v, !v, true]

theorem condHolds_eq (f : Word) (cond : BitVec 4) : condHolds f cond = (conditions f)[cond.toNat]? := by
  unfold condHolds
  generalize cond.toNat = n
  match n with
  | 0 | 1 | 2 | 3 | 4 | 5 | 6 | 7 | 8 | 9 | 10 | 11 | 12 | 13 | 14 => rfl
  | _ + 15 => rfl

theorem getElem?_of_getD_true {l : List Bool} {n : Nat} (h : l.getD n false = true) : l[n]? = some true := by
  rw [List.getD_eq_getElem?_getD] at h
  cases hl : l[n]? with
  | none => simp [hl] at h
  | some b => simpa [hl] using h

theorem getElem?_of_getD_false {l : List Bool} {n : Nat} (hn : n < l.length) (h : l.getD n false = false) :
    l[n]? = some false := by
  rw [List.getD_eq_getElem?_getD, List.getElem?_eq_getElem hn] at h
  rw [List.getElem?_eq_getElem hn]
  exact congrArg some h

section Branch

variable {s : State} {k : Fin 4} {cond : BitVec 4} {off : BitVec 24}

theorem mexec_bcond_taken (h : (conditions (s.cores[k].getC 1))[cond.toNat]? = some true) :
    mexec (.bcond cond off) .ok .ok k s.cores[k] s =
      transfer36 s.cores[k] (s.cores[k].pc + off.signExtend 36) id s := by
  simp only [mexec, bcondEff, condHolds_eq, h]

theorem bcond_not_taken_retires (hf : Free s k) (h : (conditions (s.cores[k].getC 1))[cond.toNat]? = some false) :
    Runs (.next (issue k (.bcond cond off) .ok .ok s)) (Retires s k s.cores[k]) := by
  refine issue_done rfl (ready_of_free hf rfl) ?_
  simp only [mexec, bcondEff, condHolds_eq, h]

theorem bcond_undefined_traps (hf : Free s k) (h : (conditions (s.cores[k].getC 1))[cond.toNat]? = none) :
    Runs (.next (issue k (.bcond cond off) .ok .ok s)) (Traps s k s.cores[k] trILL 0 0) := by
  refine issue_trap (ready_of_free hf rfl) ?_
  simp only [mexec, bcondEff, condHolds_eq, h, illegal]

end Branch

/-- Settles O11: a branch is decided by the condition of its code, and every transfer goes through `transfer36`, which
jumps or takes trap ADDR. -/
theorem controlTransfer : Obligations.ControlTransfer := by
  intro s k ra imm cond off hf c z n cy v holds rel ind far
  refine ⟨?_, ?_, ?_, ?_, ?_, ?_⟩
  · intro hne hfalse
    have hlt : cond.toNat < 15 := by
      have hne' : cond.toNat ≠ 15 := fun h => hne (BitVec.eq_of_toNat_eq h)
      have := cond.isLt
      omega
    exact bcond_not_taken_retires hf (getElem?_of_getD_false hlt hfalse)
  · intro h15
    subst h15
    exact bcond_undefined_traps hf rfl
  · intro hnear
    exact ⟨fun htrue => ends_of_transfer (w := id) hf rfl rfl (mexec_bcond_taken (getElem?_of_getD_true htrue)) hnear,
      ends_of_transfer (w := link) hf rfl rfl rfl hnear⟩
  · exact fun hfar => traps_of_transfer hf rfl rfl hfar
  · exact fun hnear =>
      ⟨ends_of_transfer (w := id) hf rfl rfl rfl hnear, ends_of_transfer (w := link) hf rfl rfl rfl hnear⟩
  · exact fun hfar => ⟨traps_of_transfer hf rfl rfl hfar, traps_of_transfer hf rfl rfl hfar⟩

end Sys2Proof.MoagarInstructions
end

section
/-! PROOFS. Waits that a debugger supplied end without moving PC (R216), which the statements on the waits leave out. -/

namespace Sys2Proof.MoagarInstructions

open Sys2Proof.Machine Sys2Proof.Moagar Sys2Proof.Safety

/-- A core is the lead or the shadow of its pair. -/
theorem eq_lead_or_shadow (k : Fin 4) : k = leadOf (pairOfCore k) ∨ k = shadowOf (pairOfCore k) := by
  revert k; decide

theorem setCoreOnly_core_same (s : State) (k : Fin 4) (c : Core) : (s.setCoreOnly k c).cores[k] = c :=
  Vector.getElem_set_self k.isLt

theorem setCoreOnly_core_ne (s : State) {k j : Fin 4} (c : Core) (h : j ≠ k) : (s.setCoreOnly k c).cores[j] = s.cores[j] :=
  Vector.getElem_set_ne k.isLt j.isLt (Fin.val_ne_of_ne h.symm)

/-- A core reads back the record that was put in its place, joined or not. -/
theorem setCore_core_same (s : State) (k : Fin 4) (c : Core) : (s.setCore k c).cores[k] = c := by
  unfold State.setCore
  split
  · exact setCoreOnly_core_same s k c
  · by_cases h : k = shadowOf (pairOfCore k)
    · rw [← h, setCoreOnly_core_same]
    · have hlead : k = leadOf (pairOfCore k) := (eq_lead_or_shadow k).resolve_right h
      rw [setCoreOnly_core_ne _ c h, ← hlead, setCoreOnly_core_same]

theorem pass_of_dhalt {c : Core} (h : c.dhalt = true) : c.pass = c := by
  rw [Core.pass, if_pos h]

@[simp] theorem setZ_pc (c : Core) (z : Bool) : (c.setZ z).pc = c.pc := rfl
@[simp] theorem setZ_dhalt (c : Core) (z : Bool) : (c.setZ z).dhalt = c.dhalt := rfl
@[simp] theorem setG_pc (c : Core) (r : GReg) (v : Word) : (c.setG r v).pc = c.pc := by unfold Core.setG; split <;> rfl
@[simp] theorem setG_dhalt (c : Core) (r : GReg) (v : Word) : (c.setG r v).dhalt = c.dhalt := by
  unfold Core.setG; split <;> rfl

theorem consume_pc_of_dhalt {c : Core} (hd : c.dhalt = true) (rd : GReg) (r : Release) (s : State) :
    (consume rd r c s).1.pc = c.pc := by
  have hpass : ((c.setG rd r.frame).setZ r.compl).pass = (c.setG rd r.frame).setZ r.compl :=
    pass_of_dhalt (by simpa using hd)
  simp only [consume, hpass, setZ_pc, setG_pc]

theorem joinExpired_pc_of_dhalt {c : Core} (hd : c.dhalt = true) (rd : GReg) : (joinExpired rd c).pc = c.pc := by
  have hpass : ((c.setG rd 1).setZ false).pass = (c.setG rd 1).setZ false :=
    pass_of_dhalt (by simpa using hd)
  simp only [joinExpired, hpass, setZ_pc, setG_pc]

/-- The PC of a core halted in debug mode stays when its WAITF takes the release. -/
theorem waitfResume_pc_of_dhalt {s : State} {k : Fin 4} (hd : s.cores[k].dhalt = true) :
    (waitfResume k s).cores[k].pc = s.cores[k].pc := by
  unfold waitfResume
  split
  · split
    · rw [setCore_core_same, consume_pc_of_dhalt hd]
    · rfl
  · rfl

/-- The PC of a core halted in debug mode stays when the timeout of its JOIN expires. -/
theorem joinTimeout_pc_of_dhalt {s : State} {k : Fin 4} (hd : s.cores[k].dhalt = true) :
    (joinTimeout k s).cores[k].pc = s.cores[k].pc := by
  unfold joinTimeout
  dsimp only
  split
  · split
    · rw [setCore_core_same, joinExpired_pc_of_dhalt hd]
    · rfl
  · rfl

/-- A lane whose clocks run, a debugger attached, and core 0, with STATUS and g1 as given, halted by it. -/
def debuggedLane (status g1 : Word) (split : Bool) : State :=
  let core : Core := { (coreReset.setC 0 status).setG 1 g1 with run := .running }
  let lane : State := { State.reset with
    cores := Vector.replicate 4 core
    split := #v[split, false]
    pwr := { pwrReset with startDue := none } }
  debugHalt 0 1 (lane.setFld F.DBG_STAT_ATTACHED 1)

/-- Core 0 waits in a WAITF that its debugger supplied, and a release comes. -/
def debuggedWaitf : State :=
  let s := issue 0 (.waitf 5) .ok .ok (debuggedLane 0 0 false)
  { s with lsc := { s.lsc with release := some ⟨7, true⟩ } }

/-- Core 0 of a split pair waits in a JOIN that its debugger supplied, and its timeout of one cycle is over. -/
def debuggedJoin : State := tick (issue 0 (.join 7 1) .ok .ok (debuggedLane 0x8000 1 true))

/-- Refutes O15: a WAITF that the debugger supplied to a halted core leaves PC when it takes the release (R216), where the
statement, which does not ask that the core be out of debug mode, has PC + 1. -/
theorem not_waitsAndSubmission : ¬ Obligations.WaitsAndSubmission := by
  intro h
  obtain ⟨-, -, hresume⟩ := h debuggedWaitf 0 5
  have hlive : coreLive debuggedWaitf 0 = true := by decide +kernel
  have hwait : debuggedWaitf.cores[(0 : Fin 4)].wait = .waitf 5 := by decide +kernel
  have hnone : takeNow debuggedWaitf 0 = none := by decide +kernel
  have hhalt : debuggedWaitf.cores[(0 : Fin 4)].dhalt = true := by decide +kernel
  obtain ⟨t, ht, -, hpc, -⟩ := hresume ⟨7, true⟩ hlive hwait rfl hnone
  obtain rfl : waitfResume 0 debuggedWaitf = t := Host.Outcome.next.inj ht
  rw [waitfResume_pc_of_dhalt hhalt] at hpc
  exact absurd hpc (by decide +kernel)

/-- Refutes O16: a JOIN that the debugger supplied to a halted core leaves PC when its timeout expires (R216), where the
statement, which does not ask that the core be out of debug mode, has PC + 1. -/
theorem not_splitHoistAndDip : ¬ Obligations.SplitHoistAndDip := by
  intro h
  obtain ⟨-, -, -, -, -, htimeout⟩ := h.1 debuggedJoin 0 7 0
  have hlive : coreLive debuggedJoin 0 = true := by decide +kernel
  have hwait : debuggedJoin.cores[(0 : Fin 4)].wait = .join 7 := by decide +kernel
  have hover : debuggedJoin.cores[(0 : Fin 4)].joinLeft = some (some 0) ∧
      joinWaits debuggedJoin.cores[otherCore 0] = false := by decide +kernel
  have hhalt : debuggedJoin.cores[(0 : Fin 4)].dhalt = true := by decide +kernel
  obtain ⟨t, ht, -, hpc, -⟩ := htimeout hlive hwait (.inr hover) (by decide)
  obtain rfl : joinTimeout 0 debuggedJoin = t := Host.Outcome.next.inj ht
  rw [joinTimeout_pc_of_dhalt hhalt] at hpc
  exact absurd hpc (by decide +kernel)

end Sys2Proof.MoagarInstructions
end
